-- ==== Sys2Proof/Word.lean ====
section
/-! DEFINITION. The number and word types of the TS-620 and their plainest arithmetic. -/

namespace Sys2Proof

/-- A byte of a frame body (R1). -/
abbrev Byte := BitVec 8

/-- A base code, or a window's match or mask pattern (R40, R41): sixteen bit positions. -/
abbrev Code16 := BitVec 16

/-- A value of the 10-bit piston encoder, as read in Gray code (R130). -/
abbrev Gray := BitVec 10

/-- "ceil" of 00_scope.md: the least integer not below `a / b`. -/
def ceilDiv (a b : Nat) : Nat := (a + b - 1) / b

/-- "Nearest, halves up" of 00_scope.md, for the quotient `a / b`. -/
def nearest (a b : Nat) : Nat := (2 * a + b) / (2 * b)

end Sys2Proof
end

