-- ==== Sys2Proof/Syntax.lean ====
section
/-! DEFINITION. The commands a TS-620 takes, one constructor for each row of spec/opcode_table.json, and the
types of their operands: the notices of R16 to R19 as named fields, pin readings, straps and the
configuration image. -/

namespace Sys2Proof

/-- An order id: terminal station (16-30) and order serial (00_scope.md, Identifiers). -/
structure OrderId where
  term : Nat
  serial : Nat
  deriving DecidableEq, Repr, Inhabited

/-- A tin id: originating cell station (1-12) and tin serial (00_scope.md, Identifiers). -/
structure TinId where
  cell : Nat
  serial : Nat
  deriving DecidableEq, Repr, Inhabited

/-- One item of a formula: a colorant code and a quantity q in µl per litre (R16). -/
structure FormulaItem where
  colorant : Nat
  q : Nat
  deriving DecidableEq, Repr, Inhabited

/-- The fields of ORDER (R16). `priority` is the enumerated value as carried (R1: 1 NORMAL, 2 URGENT);
`lengthOk` is clear for the ORDER that failed check 5 of R12 alone and was passed on all the same. -/
structure OrderMsg where
  id : OrderId
  base : Code16
  size : Nat
  count : Nat
  priority : Nat
  formula : List FormulaItem
  lengthOk : Bool
  deriving DecidableEq, Repr, Inhabited

/-- The job states a JOB STATUS carries (R16). -/
inductive JobState where
  | active | blocked | complete | failed | cancelling | cancelled | invalid
  deriving DecidableEq, Repr, Inhabited

/-- The reason codes of an INVALID order (R16, R53). -/
inductive Reason where
  | entryCount | quantity | duplicateColorant | size | tinCount | headroom | length
  deriving DecidableEq, Repr, Inhabited

/-- The fields of JOB STATUS (R16). -/
structure JobStatusMsg where
  id : OrderId
  claimant : Nat
  state : JobState
  ordered : Nat
  done : Nat
  rejected : Nat
  lost : Nat
  remakes : Nat
  duplicate : Bool
  reason : Option Reason
  deriving DecidableEq, Repr, Inhabited

/-- The states of the cell machine (chapter The Working Day). -/
inductive CellState where
  | starting | configFault | run | night | capped | paused | halted | jammed
  deriving DecidableEq, Repr, Inhabited

/-- The level classes of a canister (R101). -/
inductive LevelClass where
  | full | ok | low | empty | unknown | locked | notFitted
  deriving DecidableEq, Repr, Inhabited

/-- One item of a cover list (R19). -/
structure CoverItem where
  canister : Nat
  colorant : Nat
  cls : LevelClass
  usable : Bool
  deriving DecidableEq, Repr, Inhabited

/-- The shake classes (R41). -/
inductive ShakeClass where
  | normal | gentle
  deriving DecidableEq, Repr, Inhabited

/-- The actions of a base window (R41). -/
inductive WindowAction where
  | permit | deny
  deriving DecidableEq, Repr, Inhabited

/-- A base window (R41). A shake class may be absent; the action is absent where a CELL STATUS of a cell in
CONFIG_FAULT announces the field zero (R49). -/
structure Window where
  enable : Bool
  pattern : Code16
  mask : Code16
  action : Option WindowAction
  lid : Nat
  shake : Option ShakeClass
  deriving DecidableEq, Repr, Inhabited

/-- A change record of the attention capture (R210): input number 1-7, the new level, and the time of
day in seconds. -/
structure ChangeRec where
  input : Nat
  asserted : Bool
  time : Nat
  deriving DecidableEq, Repr, Inhabited

/-- The fields of CELL STATUS (R19). -/
structure CellStatusMsg where
  station : Nat
  state : CellState
  pause : Bool
  unset : Bool
  last : Bool
  restarted : Bool
  restartedCount : Nat
  cover : List CoverItem
  windows : List Window
  pointer : Nat
  intakeHold : Bool
  backlog : Nat
  lidWait : Bool
  lidWaitSize : Nat
  chuteFull : Bool
  dispatchFull : Bool
  attention : List ChangeRec
  overwrite : Bool
  rxErrors : Nat
  sendDrops : Nat
  deriving DecidableEq, Repr, Inhabited

/-- The tin status of a CONSIGN (R17). -/
inductive TinStatus where
  | deferred | done
  deriving DecidableEq, Repr, Inhabited

/-- An item of a dosed list (R17, R74). -/
structure DosedItem where
  colorant : Nat
  delivered : Nat
  station : Nat
  deriving DecidableEq, Repr, Inhabited

/-- An item of a deferral list (R17, R74). -/
structure DeferItem where
  colorant : Nat
  nominal : Nat
  index : Nat
  station : Nat
  deriving DecidableEq, Repr, Inhabited

/-- The fields of CONSIGN (R17). -/
structure ConsignMsg where
  seq : Nat
  tin : TinId
  order : OrderId
  base : Code16
  size : Nat
  lid : Nat
  shake : Option ShakeClass
  total : Nat
  status : TinStatus
  raised : Bool
  omitted : Bool
  dosed : List DosedItem
  deferral : List DeferItem
  deriving DecidableEq, Repr, Inhabited

/-- The results of a TIN REPORT (R17). -/
inductive ReportResult where
  | done | rejected | lost
  deriving DecidableEq, Repr, Inhabited

/-- The causes of a TIN REPORT (R17), which are also the reject causes of a tin record (R143). -/
inductive Cause where
  | doseFault | unfinished | overload | unidentified | unknownAfterRestart | lidFault
  | skippedAtIntake | downstreamRestarted | jamReconcile
  deriving DecidableEq, Repr, Inhabited

/-- The fields of TIN REPORT (R17). -/
structure TinReportMsg where
  tin : TinId
  order : OrderId
  result : ReportResult
  cause : Option Cause
  station : Nat
  total : Nat
  raised : Bool
  omitted : Bool
  deriving DecidableEq, Repr, Inhabited

/-- The actions of STOCK (R18). -/
inductive StockAction where
  | refill | setLevel | lock | release
  deriving DecidableEq, Repr, Inhabited

/-- The outcomes of a STOCK REPLY (R18) and of a load result (R184). -/
inductive StockOutcome where
  | accepted | clamped | refused
  deriving DecidableEq, Repr, Inhabited

/-- The codes of a refused STOCK (R18). -/
inductive StockCode where
  | notFitted | levelUnknown | busy | range
  deriving DecidableEq, Repr, Inhabited

/-- The fields of STOCK REPLY (R18). -/
structure StockReplyMsg where
  canister : Nat
  action : StockAction
  outcome : StockOutcome
  code : Option StockCode
  cls : LevelClass
  overfill : Nat
  deriving DecidableEq, Repr, Inhabited

/-- What was taken from the line between a start bit and the end of a frame (R1, R11). `whole` is clear
when the line went quiet before the frame had ended. -/
structure RawFrame where
  cls : BitVec 2
  sender : BitVec 5
  kind : Byte
  len : Byte
  body : List Byte
  crc : BitVec 16
  whole : Bool
  deriving DecidableEq, Repr, Inhabited

/-- The five straps, read at power-on (R201). -/
structure Straps where
  id : BitVec 4
  last : Bool
  deriving DecidableEq, Repr, Inhabited

/-- The levels of the input pins whose changes have no row of their own in the table, as a command that
reads them finds them. `slots` has bit n set while the slot-n sensor shows a tin; `enc` is the encoder of
each pump; `lidOnHead` is LIDPK_L low; `tag` is what the intake tag reader gives (none: NO_READ);
`offIndex` is IXPOS_L high; `shakerTin` is SKTIN_L low; `printerReady` is LBLRDY_L low; `laneHead` is
LHEAD_L low. -/
structure Sample where
  slots : Byte
  enc : List Gray
  lidOnHead : Bool
  tag : Option TinId
  offIndex : Bool
  shakerTin : Bool
  printerReady : Bool
  laneHead : Bool
  deriving DecidableEq, Repr, Inhabited

/-- All input pins. Each flag is set while the active-low pin is low: ESTOP_L, SPILL_L, CHDOOR_L (door
open), DISPFULL_L, SKCLAMP_L (clamp confirmed), SKDOOR_L (door open), DFLT0_L-DFLT3_L, and LHATCH1_L-5_L
(bit n - 1 for magazine n, hatch open), ATN1_L and ATN2_L. -/
structure Pins where
  sample : Sample
  estop : Bool
  spill : Bool
  chuteDoor : Bool
  dispatchFull : Bool
  clamp : Bool
  shakerDoor : Bool
  driveFault : BitVec 4
  hatch : BitVec 5
  atn1 : Bool
  atn2 : Bool
  deriving DecidableEq, Repr, Inhabited

/-- A time of day as the image or a CLOCK carries it. -/
structure HMS where
  h : Nat
  m : Nat
  s : Nat
  deriving DecidableEq, Repr, Inhabited

/-- A field of the image that should hold one of two values: `bad` where it holds neither. -/
inductive ImgFlag where
  | on | off | bad
  deriving DecidableEq, Repr, Inhabited

/-- A shake class field of the image (R44). -/
inductive ImgShake where
  | absent | normal | gentle | bad
  deriving DecidableEq, Repr, Inhabited

/-- A base window as the image holds it (R44): `enable` on or off, `permit` on for PERMIT, off for DENY. -/
structure ImgWindow where
  enable : ImgFlag
  pattern : Code16
  mask : Code16
  permit : ImgFlag
  lid : Nat
  shake : ImgShake
  deriving DecidableEq, Repr, Inhabited

/-- A canister's configured fields (R97). Volumes in µl, interval in minutes, duration in seconds. -/
structure CanisterCfg where
  colorant : Nat
  capacity : Nat
  dead : Nat
  lowMark : Nat
  interval : Nat
  duration : Nat
  deriving DecidableEq, Repr, Inhabited

/-- A pump's configured fields (R117). -/
structure PumpCfg where
  d : Nat
  strokeSteps : Nat
  minShot : Nat
  tolerance : Nat
  startRate : Nat
  topRate : Nat
  rampSteps : Nat
  stages : Nat
  deriving DecidableEq, Repr, Inhabited

/-- The fields of the configuration image (table of 11_start_up_panel_and_signals.md). -/
structure Image where
  openTime : HMS
  closeTime : HMS
  windows : List ImgWindow
  canisters : List CanisterCfg
  pumps : List PumpCfg
  goodReads : Nat
  holdPeriod : Nat
  attempts : Nat
  deriving DecidableEq, Repr, Inhabited

/-- What the serial memory gave (R202, R203): the bytes from the format mark to the last field, whether
the header's mark and length are those of the part's format, the CRC read, and the fields. -/
structure ImageRead where
  headerOk : Bool
  bytes : List Byte
  crc : BitVec 16
  fields : Image
  deriving DecidableEq, Repr, Inhabited

/-- The commands. `src` is the sender station of a notice heard; `x` is the reading of the pins that have
no row of their own; `gray` and `tag` are single readings of an encoder and of the tag reader. -/
inductive Instr where
  | resetAsserted
  | powerOn (straps : Straps) (pins : Pins)
  | startingEnd (image : ImageRead) (x : Sample)
  | quietGap
  | arbitrationLost
  | frameAbandoned
  | frameComplete
  | frameDiscarded (f : RawFrame)
  | statusPeriod
  | order (src : Nat) (m : OrderMsg)
  | cancel (src : Nat) (id : OrderId)
  | offer (src : Nat) (id : OrderId) (est : Nat)
  | claim (src : Nat) (id : OrderId) (est : Nat) (committed : Bool)
  | withdraw (src : Nat) (id : OrderId)
  | jobStatus (src : Nat) (m : JobStatusMsg)
  | cellStatus (src : Nat) (m : CellStatusMsg) (tag : Option TinId)
  | consign (src : Nat) (m : ConsignMsg) (tag : Option TinId)
  | tinReport (src : Nat) (m : TinReportMsg)
  | stockRefill (src target canister volume strength batch : Nat)
  | stockSetLevel (src target canister level strength batch : Nat)
  | stockLock (src target canister : Nat)
  | stockRelease (src target canister : Nat) (gray : Gray)
  | stockReply (src : Nat) (m : StockReplyMsg)
  | lidLoad (src target size lid count : Nat) (lidOnHead : Bool)
  | clock (src : Nat) (time : HMS) (day : Nat) (x : Sample)
  | pause (src : Nat)
  | resume (src : Nat) (x : Sample)
  | restart (src target : Nat) (x : Sample)
  | entryStale (station : Nat)
  | entryGone (station : Nat)
  | entryFreed (station : Nat)
  | clockAdvance (x : Sample)
  | idleTimeout
  | capMoveEnd (x : Sample)
  | emergencyStop (x : Sample)
  | estopReleased
  | loaded (x : Sample)
  | skip
  | confirm (x : Sample)
  | offerWindowEnd (id : OrderId)
  | claimSettleEnd (id : OrderId)
  | claimWaitEnd (id : OrderId)
  | loadGate (x : Sample)
  | tinOverdue (tin : TinId)
  | jobStatusRepeat (id : OrderId)
  | retentionEnd (id : OrderId)
  | stirringRunEnd (canister : Fin 16)
  | channelGrant
  | switchEnd (channel : Fin 4)
  | strokeEnd (channel : Fin 4) (gray : Gray)
  | refillEnd (channel : Fin 4) (gray : Gray)
  | driveFault (channel : Fin 4) (gray : Gray)
  | channelFaultCleared (channel : Fin 4)
  | spillAsserted
  | spillReleased
  | indexCommand
  | indexComplete (x : Sample)
  | indexTimeout
  | indexFinish
  | loadWaitEnd
  | loadWaitDisplay
  | chuteDoorOpened
  | chuteDoorClosed
  | dispatchFullChange (full : Bool)
  | consignRepeat (seq : Nat)
  | tinArrival (tag : Option TinId)
  | tinLiftedOff
  | holdRead (tag : Option TinId)
  | holdPeriodEnd
  | pressComplete
  | pressTimeout
  | hatchOpened (magazine : Fin 5)
  | hatchClosed (magazine : Fin 5) (lidOnHead : Bool)
  | transferInComplete
  | clampConfirmed
  | clampConfirmationLost
  | doorOpened
  | doorClosed
  | shakeRunEnd
  | returnComplete
  | lidLoadEntry (size lid count : Nat) (lidOnHead : Bool)
  | magazineView (magazine : Fin 5)
  | printerReady
  | attentionChange (input : Fin 7) (asserted : Bool)
  deriving DecidableEq, Repr

end Sys2Proof
end

