-- ==== Sys2Proof/Config.lean ====
section
/-! DEFINITION. The free values of the model: what the spec leaves open and the part fixes. -/

namespace Sys2Proof

/-- The byte in which a frame body carries flags: the kind code, then the flags in the order in which
R1 and R16 to R19 name them. The spec says that the flags of a CELL STATUS share one byte and gives no bit
its place, so the byte is a free value (log 11). -/
opaque Config.flagByte : Nat → List Bool → Byte

/-- The code of a level class in the seven low bits of a cover item's last byte, and in a STOCK REPLY. The
chapter that numbers enumerated fields by the order in which it names their values does not name the level
classes in an order, so the codes are free values (log 11). -/
opaque Config.levelCode : LevelClass → BitVec 7

end Sys2Proof
end

