-- ==== Sys2Proof/Machine/State.lean ====
section
/-! DEFINITION. The state of a TS-620, block by block, as plain data, and its value right after power-on. -/

namespace Sys2Proof.Machine

/-! ## Bus port and station table -/

/-- A notice this cell sends (kind table of R1). -/
inductive Notice where
  | jobStatus (m : JobStatusMsg)
  | offer (id : OrderId) (est : Nat)
  | claim (id : OrderId) (est : Nat) (committed : Bool)
  | withdraw (id : OrderId)
  | cellStatus (m : CellStatusMsg)
  | consign (m : ConsignMsg)
  | tinReport (m : TinReportMsg)
  | stockReply (m : StockReplyMsg)
  | lidLoad (target size lid count : Nat)
  deriving DecidableEq, Repr, Inhabited

/-- A notice in the send queue with its attempt count (R4) and the mark of the notice in transmission (R7).
`final` marks one that a RESTART found in transmission and that is not sent again (R10). `uids` and
`replaced` say which change records a CELL STATUS carries and how often the second record had been
replaced when it was built (R211, log 33). -/
structure Queued where
  notice : Notice
  attempts : Nat
  sending : Bool
  final : Bool
  uids : List Nat
  replaced : Nat
  deriving DecidableEq, Repr, Inhabited

/-- The bus port (R7, R13, R20): the send queue in its order, both counters, and the time since the last
CELL STATUS was built, in ms. -/
structure Bus where
  queue : List Queued
  rxErrors : Nat
  sendDrops : Nat
  period : Nat
  deriving DecidableEq, Repr

/-- The states of a station table entry (R22). -/
inductive Presence where
  | present | stale | gone
  deriving DecidableEq, Repr, Inhabited

/-- A station table entry (R21): `age` in ms since its last refresh; `status` the last CELL STATUS of a
cell, none for a terminal. -/
structure Station where
  number : Nat
  presence : Presence
  age : Nat
  status : Option CellStatusMsg
  deriving DecidableEq, Repr, Inhabited

/-! ## Day clock -/

/-- A moment: day count and time of day in seconds since 00:00:00 (R24). -/
structure Moment where
  day : Nat
  sec : Nat
  deriving DecidableEq, Repr, Inhabited

/-- The positions of the nozzle cap (R32). -/
inductive CapPos where
  | opened | closed | opening | closing | stopped
  deriving DecidableEq, Repr, Inhabited

/-- The ends a cap command names (R32). -/
inductive CapEnd where
  | opened | closed
  deriving DecidableEq, Repr, Inhabited

/-- The day clock (R24, R28, R31, R32, R38). `sub` is the part of a second elapsed, `capTime` the time of the
cap's move and `idle` the idle timer, all in ms; `kept` is a command kept for the end of a move. -/
structure DayClock where
  moment : Moment
  sub : Nat
  unset : Bool
  cell : CellState
  pause : Bool
  jam : Bool
  halt : Bool
  cap : CapPos
  kept : Option CapEnd
  capTime : Nat
  idle : Nat
  deriving DecidableEq, Repr

/-! ## Order book -/

/-- The states of an order entry (R51). -/
inductive OrderState where
  | new | waitingClaim | placedElsewhere | unplaced | invalid | cancelled
  | ownPending | ownActive | ownBlocked | ownComplete | ownFailed | ownCancelling
  deriving DecidableEq, Repr, Inhabited

/-- An item of an offers-heard list (R58). -/
structure Offer where
  station : Nat
  est : Nat
  deriving DecidableEq, Repr, Inhabited

/-- A claim: claimant station, estimate and committed flag (R51, R60). -/
structure Claim where
  station : Nat
  est : Nat
  committed : Bool
  deriving DecidableEq, Repr, Inhabited

/-- The states of an item of a job's tin list (R67). -/
inductive TinFate where
  | inFlight | done | rejected | lost | overdue
  deriving DecidableEq, Repr, Inhabited

/-- An item of a job's tin list (R67). -/
structure JobTin where
  tin : TinId
  loadedAt : Nat
  fate : TinFate
  deriving DecidableEq, Repr, Inhabited

/-- The job part of an own job (R51). `repeatTime` is the time since its last JOB STATUS, in ms (R71). -/
structure Job where
  claimedAt : Nat
  committed : Bool
  duplicate : Bool
  loaded : Nat
  done : Nat
  rejected : Nat
  lost : Nat
  remakes : Nat
  tins : List JobTin
  repeatTime : Nat
  deriving DecidableEq, Repr, Inhabited

/-- An entry of the order book (R51). `order` holds the ORDER's fields where they could be read; `timer` is
the time elapsed of the offer window, claim settle or claim wait that the state runs, and `retention` that
of the 60 s of R73, in ms. -/
structure OrderEntry where
  id : OrderId
  bookedAt : Nat
  st : OrderState
  order : Option OrderMsg
  perTin : Nat
  reason : Option Reason
  offers : List Offer
  ownEst : Option Nat
  recorded : Option Claim
  heard : Option JobState
  timer : Nat
  retention : Option Nat
  job : Option Job
  deriving DecidableEq, Repr, Inhabited

/-! ## Tin records -/

/-- What an entry in LOCAL, ACTIVE, DOSED or FAILED holds beside its nominal volume (R74). -/
structure Plan where
  canister : Nat
  steps : Nat
  strokes : List Nat
  emitted : Nat
  deriving DecidableEq, Repr, Inhabited

/-- The states of a formula entry record (R75); `toDose` is LOCAL. -/
inductive DoseState where
  | deferred
  | omitted
  | toDose (p : Plan)
  | active (p : Plan)
  | dosed (p : Plan)
  | failed (p : Plan)
  deriving DecidableEq, Repr, Inhabited

/-- A formula entry record (R74). -/
structure DoseEntry where
  index : Nat
  colorant : Nat
  nominal : Nat
  st : DoseState
  deriving DecidableEq, Repr, Inhabited

/-- The states of a tin whose identity is known (R144). -/
inductive TinState where
  | loaded | dosing | deferred | pass | finishing | lidded | shaking | done | reject
  deriving DecidableEq, Repr, Inhabited

/-- A tin record that carries an identity, with its dose part (R143, R74). The shake class is absent where a CONSIGN
carried none (R50). -/
structure Tin where
  id : TinId
  order : OrderId
  base : Code16
  size : Nat
  lid : Nat
  shake : Option ShakeClass
  st : TinState
  cause : Option Cause
  entries : List DoseEntry
  deferral : List DeferItem
  dosed : List DosedItem
  total : Nat
  raised : Bool
  omitted : Bool
  mix : Option Nat
  deriving DecidableEq, Repr, Inhabited

/-- A tin record (R143): a record in state UNKNOWN carries nothing else. -/
inductive TinRecord where
  | unknown
  | known (t : Tin)
  deriving DecidableEq, Repr, Inhabited

/-! ## Canister table and shot engine -/

/-- The states of a stirrer (R107). -/
inductive StirState where
  | idle | waiting | running
  deriving DecidableEq, Repr, Inhabited

/-- A stirrer (R107); `left` is the time remaining of a run, in ms. -/
structure Stirrer where
  st : StirState
  due : Moment
  flag : Bool
  left : Nat
  deriving DecidableEq, Repr, Inhabited

/-- The level in nl, the strength and the batch code, present together once a SET LEVEL has been taken
(R98): the level-known flag is that they are present. -/
structure Stock where
  level : Nat
  strength : Nat
  batch : Nat
  deriving DecidableEq, Repr, Inhabited

/-- The running fields of a canister (R98) and its stirrer. -/
structure Canister where
  stock : Option Stock
  reserved : Nat
  lock : Bool
  pendingLock : Bool
  stir : Stirrer
  deriving DecidableEq, Repr, Inhabited

/-- The states of a pump (R120). -/
inductive PumpState where
  | idle | switching | stroking | refilling | locked | unusable
  deriving DecidableEq, Repr, Inhabited

/-- The positions of a pump's valve (R119). -/
inductive Valve where
  | inlet | outlet | unknown
  deriving DecidableEq, Repr, Inhabited

/-- A pump's running fields (R119). `steps` is the step count of the stroke or refill in progress,
`target` the position a switch turns to and `time` the time elapsed of the movement, in ms; the steps
driven so far follow from `time` by R129. -/
structure Pump where
  st : PumpState
  valve : Valve
  content : Nat
  steps : Nat
  target : Valve
  time : Nat
  deriving DecidableEq, Repr, Inhabited

/-- The shot engine (R119, R121, R122): for each channel the formula index of the entry that holds it. -/
structure Shots where
  channels : List (Option Nat)
  waiting : List Nat
  pumps : List Pump
  deriving DecidableEq, Repr

/-! ## Segment tracker -/

/-- The load prompt (R150). `time` is the load wait elapsed in ms, `shown` the seconds left last shown. -/
inductive LoadPrompt where
  | none
  | requested (order : OrderId)
  | standing (order : OrderId) (serial : Nat) (time : Nat) (shown : Nat)
  deriving DecidableEq, Repr, Inhabited

/-- The destinations of the tin at slot 7 (R155). -/
inductive Destination where
  | chute | lane | dispatch
  deriving DecidableEq, Repr, Inhabited

/-- An index (R146, R148): none, in progress with its 3 s timer in ms, or waiting to be finished. -/
inductive IndexState where
  | idle
  | running (dest : Destination) (pull : Bool) (time : Nat)
  | stopped (dest : Destination) (pull : Bool)
  deriving DecidableEq, Repr, Inhabited

/-- The segment tracker (R142, R147, R150, R156). -/
structure Segment where
  slots : List (Option TinRecord)
  chute : Nat
  prompt : LoadPrompt
  serial : Nat
  pulled : Bool
  index : IndexState
  deriving DecidableEq, Repr

/-! ## Transfer unit -/

/-- A record of the in-transit list with its sequence and repeat timer in ms (R163, R165). -/
structure Transit where
  seq : Nat
  tin : Tin
  time : Nat
  deriving DecidableEq, Repr, Inhabited

/-- An item of the expected list: the CONSIGN and its mark (R168, R169). -/
structure Expected where
  msg : ConsignMsg
  mark : Option Cause
  deriving DecidableEq, Repr, Inhabited

/-- A disposition (R171), naming by its sequence the item it is against. -/
inductive Disposition where
  | normal (seq : Nat)
  | marked (seq : Nat)
  | presumed (seq : Nat)
  | unknown
  deriving DecidableEq, Repr, Inhabited

/-- The intake (R171). In HOLD: good-read count, attempt count, hold timer and time since the last read in
ms, and the last id read. -/
inductive Intake where
  | opened
  | cleared (d : Disposition)
  | hold (good attempt time sinceRead : Nat) (last : Option TinId)
  deriving DecidableEq, Repr, Inhabited

/-- The transfer unit (R163, R168, R170, R178, R180). -/
structure Transfer where
  release : Nat
  inTransit : List Transit
  pointer : Nat
  expected : List Expected
  intake : Intake
  cutShort : Bool
  restarted : Nat
  deriving DecidableEq, Repr

/-! ## Lid unit and shake unit -/

/-- A layer of lids (R183). -/
structure Layer where
  lid : Nat
  count : Nat
  deriving DecidableEq, Repr, Inhabited

/-- A magazine (R183): its layers, top first, and the pulses given on its escapement (log 28). -/
structure Magazine where
  layers : List Layer
  pulses : Nat
  deriving DecidableEq, Repr, Inhabited

/-- The states of the lid bay (R187): PRESSING with its timer in ms, LID_WAIT with the misfeed mark (R189). -/
inductive LidBay where
  | idle
  | pressing (time : Nat)
  | pressStopped
  | lidWait (misfeed : Bool)
  deriving DecidableEq, Repr, Inhabited

/-- The lid unit (R183, R187). -/
structure Lids where
  magazines : List Magazine
  bay : LidBay
  deriving DecidableEq, Repr

/-- The shake states (R194). -/
inductive ShakeState where
  | empty | loading | clamping | running | interrupted | unclamping | returning
  deriving DecidableEq, Repr, Inhabited

/-- The shake unit (R194): remaining time and resume time, held in ms so that a part of a second counts (log 58);
`halted` marks a transfer stopped by the emergency stop (R198). -/
structure Shaker where
  st : ShakeState
  tin : Option TinRecord
  left : Nat
  resume : Nat
  halted : Bool
  deriving DecidableEq, Repr

/-! ## Panel, attention capture, start-up -/

/-- The codes of a refused LID LOAD (R184). -/
inductive LoadCode where
  | range | full | layers
  deriving DecidableEq, Repr, Inhabited

/-- A load result (R184). -/
structure LoadResult where
  magazine : Nat
  lid : Nat
  asked : Nat
  outcome : StockOutcome
  code : Option LoadCode
  accepted : Nat
  count : Nat
  deriving DecidableEq, Repr, Inhabited

/-- What the message slot may hold (R208): a load result, or a magazine view with its layers, top first,
and its count. -/
inductive Message where
  | loadResult (r : LoadResult)
  | view (magazine : Nat) (layers : List Layer) (count : Nat)
  deriving DecidableEq, Repr, Inhabited

/-- A label record (R209). -/
structure Label where
  tin : TinId
  order : OrderId
  base : Code16
  size : Nat
  deriving DecidableEq, Repr, Inhabited

/-- The panel port and the label printer's port (R208, R209): the message slot, the label record held,
and the one last sent on LBL_TX (log 28). -/
structure Panel where
  message : Option Message
  label : Option Label
  printed : Option Label
  deriving DecidableEq, Repr

/-- A change record with the number by which the model tells two equal records apart (log 33). -/
structure Captured where
  uid : Nat
  change : ChangeRec
  deriving DecidableEq, Repr, Inhabited

/-- The attention capture (R210): settled levels, bit n - 1 for input n. `replaced` counts the
replacements of the second record. -/
structure Attention where
  settled : BitVec 7
  records : List Captured
  overwrite : Bool
  nextUid : Nat
  replaced : Nat
  deriving DecidableEq, Repr

/-- The fault codes of CONFIG_FAULT (R201, R203). -/
inductive FaultCode where
  | strap | format | imageCrc | workWindow | baseWindow | canister | pump | intake
  deriving DecidableEq, Repr, Inhabited

/-- A fault code and the index of the first failing item, where there is one (R203). -/
structure ConfigFault where
  code : FaultCode
  item : Option Nat
  deriving DecidableEq, Repr, Inhabited

/-- The start-up block (R201, R202): RESET_L held low, the station number, the last-cell flag, the accepted
image and the fault. -/
structure StartUp where
  held : Bool
  station : Option Nat
  last : Bool
  image : Option Image
  fault : Option ConfigFault
  deriving DecidableEq, Repr

/-! ## The whole state -/

/-- The state of one TS-620: its blocks, its input pins, the time elapsed in ms since power-on, and the
queue of waiting commands. -/
structure State where
  bus : Bus
  stations : List Station
  dck : DayClock
  book : List OrderEntry
  canisters : List Canister
  shots : Shots
  seg : Segment
  xfr : Transfer
  lids : Lids
  shaker : Shaker
  panel : Panel
  atn : Attention
  cfg : StartUp
  pins : Pins
  now : Nat
  pending : List Instr
  deriving DecidableEq, Repr

/-- The reasons a command stops the machine. The spec gives every command of the table an effect, so no
meaning answers with one; the type has no constructor (INVENTORY.md, Faults). -/
inductive Fault where
  deriving DecidableEq, Repr

/-- The reasons a command is refused. -/
inductive Refusal where
  /-- Raised by an arm of exec for a command without a meaning; no arm is so. Safe. -/
  | notModelled (mnemonic : String)
  deriving DecidableEq, Repr

/-! ## Power-on -/

/-- A canister's running fields at power-on (R115), before the due moment is set. -/
def Canister.blank : Canister :=
  { stock := none, reserved := 0, lock := false, pendingLock := false,
    stir := { st := .idle, due := { day := 0, sec := 0 }, flag := false, left := 0 } }

/-- A pump's running fields at power-on (R141), before its content is derived. -/
def Pump.blank : Pump := { st := .idle, valve := .unknown, content := 0, steps := 0, target := .unknown, time := 0 }

/-- Every pin inactive, no tin sensed, every encoder at 0, the printer ready (log 3). -/
def quietSample : Sample :=
  { slots := 0, enc := List.replicate 16 0, lidOnHead := false, tag := none, offIndex := false, shakerTin := false,
    printerReady := true, laneHead := false }

/-- Every pin inactive (log 3). -/
def quietPins : Pins :=
  { sample := quietSample, estop := false, spill := false, chuteDoor := false, dispatchFull := false, clamp := false,
    shakerDoor := false, driveFault := 0, hatch := 0, atn1 := false, atn2 := false }

/-- The levels of the seven attention inputs (table of R210), bit n - 1 for input n. -/
def attentionLevels (p : Pins) : BitVec 7 :=
  BitVec.ofBool p.atn2 ++ (BitVec.ofBool p.atn1 ++ (BitVec.ofBool p.dispatchFull ++ (BitVec.ofBool p.shakerDoor ++
    (BitVec.ofBool p.chuteDoor ++ (BitVec.ofBool p.spill ++ BitVec.ofBool p.estop)))))

/-- Every block at its power-on values (R10, R22, R24, R38, R51, R96, R115, R141, R159, R180, R183, R193, R200, R210),
in STARTING, with the straps not yet acted on. -/
def State.powerOn (pins : Pins) : State :=
  { bus := { queue := [], rxErrors := 0, sendDrops := 0, period := 0 }
    stations := []
    dck := { moment := { day := 0, sec := 0 }, sub := 0, unset := true, cell := .starting, pause := false, jam := false,
             halt := false, cap := .stopped, kept := none, capTime := 0, idle := 0 }
    book := []
    canisters := List.replicate 16 Canister.blank
    shots := { channels := List.replicate 4 none, waiting := [], pumps := List.replicate 16 Pump.blank }
    seg := { slots := List.replicate 8 none, chute := 0, prompt := .none, serial := 1, pulled := false, index := .idle }
    xfr := { release := 0, inTransit := [], pointer := 0, expected := [], intake := .opened, cutShort := false, restarted := 0 }
    lids := { magazines := List.replicate 5 { layers := [], pulses := 0 }, bay := .idle }
    shaker := { st := .empty, tin := none, left := 0, resume := 0, halted := false }
    panel := { message := none, label := none, printed := none }
    atn := { settled := attentionLevels pins, records := [], overwrite := false, nextUid := 0, replaced := 0 }
    cfg := { held := false, station := none, last := false, image := none, fault := none }
    pins := pins
    now := 0
    pending := [] }

/-- The straps acted on (R201): a station number of 1-12 is held; any other is a configuration fault with
code STRAP. -/
def State.strapped (s : State) (straps : Straps) : State :=
  if 1 ≤ straps.id.toNat ∧ straps.id.toNat ≤ 12 then
    { s with cfg := { s.cfg with station := some straps.id.toNat, last := straps.last } }
  else
    { s with cfg := { s.cfg with last := straps.last, fault := some { code := .strap, item := none } }
             dck := { s.dck with cell := .configFault } }

/-- The machine right after power-on: every block at its power-on values, in STARTING, station 1, not the last
cell, every input pin inactive (log 3). -/
def State.reset : State := (State.powerOn quietPins).strapped { id := 1, last := false }

end Sys2Proof.Machine
end

