-- ==== Sys2Proof/Machine/Tables.lean ====
section
/-! DEFINITION. The figures fixed in the part: the tin size table and the durations of the rules, in ms. -/

namespace Sys2Proof.Machine

/-- A row of the tin size table (R39): nominal volume V in ml, headroom in µl, base shake time in s. -/
structure SizeRow where
  nominal : Nat
  headroom : Nat
  shakeTime : Nat
  deriving DecidableEq, Repr, Inhabited

/-- The tin size table (R39). A size code outside 1-5 has no row. -/
def sizeRow : Nat → Option SizeRow
  | 1 => some { nominal := 500, headroom := 40000, shakeTime := 45 }
  | 2 => some { nominal := 1000, headroom := 70000, shakeTime := 60 }
  | 3 => some { nominal := 2500, headroom := 160000, shakeTime := 90 }
  | 4 => some { nominal := 5000, headroom := 300000, shakeTime := 120 }
  | 5 => some { nominal := 10000, headroom := 550000, shakeTime := 150 }
  | _ => none

/-- V of R39 in ml, 0 where the code has no row. -/
def nominalOf (size : Nat) : Nat := ((sizeRow size).map SizeRow.nominal).getD 0

/-- The headroom of R39 in nl, 0 where the code has no row. -/
def headroomNl (size : Nat) : Nat := ((sizeRow size).map SizeRow.headroom).getD 0 * 1000

/-- t_size of R39 in s, 0 where the code has no row. -/
def shakeTimeOf (size : Nat) : Nat := ((sizeRow size).map SizeRow.shakeTime).getD 0

/-- R7: the send queue holds up to 16 notices. -/
def queueMax : Nat := 16
/-- R4: a notice is dropped at this many attempts. -/
def attemptMax : Nat := 8
/-- R20: 250 ms status period. -/
def statusPeriodMs : Nat := 250
/-- R20, R180: statuses that carry the restarted flag. -/
def restartedMax : Nat := 8
/-- R22: an entry is STALE 1 s after its last refresh. -/
def staleMs : Nat := 1000
/-- R22: an entry is GONE 3 s after its last refresh (log 13). -/
def goneMs : Nat := 3000
/-- R22: an entry is freed 63 s after its last refresh. -/
def freedMs : Nat := 63000
/-- R31: 60 s of idling in NIGHT. -/
def idleMs : Nat := 60000
/-- R32: a cap move takes 2 s. -/
def capMs : Nat := 2000
/-- R51: the order book holds up to 32 entries. -/
def bookMax : Nat := 32
/-- R57, R59: open own jobs (and pending offers) stay below this. -/
def jobMax : Nat := 8
/-- R59: 400 ms offer window. -/
def offerWindowMs : Nat := 400
/-- R59: 600 ms claim settle. -/
def claimSettleMs : Nat := 600
/-- R59, R63: 2 s claim wait. -/
def claimWaitMs : Nat := 2000
/-- R69: a tin is OVERDUE 20 min after its load. -/
def overdueMs : Nat := 1200000
/-- R71: JOB STATUS is repeated every 5 s. -/
def jobRepeatMs : Nat := 5000
/-- R73: a finished entry is kept for 60 s. -/
def retentionMs : Nat := 60000
/-- R126: a valve switch takes 150 ms. -/
def switchMs : Nat := 150
/-- R146: the 3 s index timer. -/
def indexMs : Nat := 3000
/-- R150: the 10 s load wait. -/
def loadWaitMs : Nat := 10000
/-- R156: the chute holds up to 6 tins. -/
def chuteMax : Nat := 6
/-- R163: the in-transit list holds up to 3 records. -/
def laneMax : Nat := 3
/-- R165: a CONSIGN is repeated after 250 ms. -/
def consignMs : Nat := 250
/-- R173: one read every 200 ms in HOLD. -/
def readMs : Nat := 200
/-- R183: a magazine holds up to 60 lids. -/
def lidMax : Nat := 60
/-- R183: a magazine holds up to 6 layers. -/
def layerMax : Nat := 6
/-- R190: the 4 s press timer. -/
def pressMs : Nat := 4000
/-- R197: 10 s are added at an interruption. -/
def penaltyMs : Nat := 10000
/-- R95, R197: mix and resume times are capped at 300 s. -/
def mixMaxS : Nat := 300

end Sys2Proof.Machine
end

