-- ==== Sys2Proof/Machine/Ops.lean ====
section
/-! DEFINITION. The named operations over the parts of the state that every block uses: reading and changing a
canister, a pump, a slot, a tin record; the bus port's counters; placing a notice in the send queue. -/

namespace Sys2Proof.Machine

/-! ## Reading and changing parts -/

/-- This cell's station number (R201), 0 where it holds none. -/
def State.self (s : State) : Nat := s.cfg.station.getD 0

def State.canister (s : State) (n : Nat) : Canister := s.canisters.getD n Canister.blank

def State.modCanister (s : State) (n : Nat) (f : Canister → Canister) : State :=
  { s with canisters := s.canisters.modify n f }

/-- The configured fields of canister `n`, if it is fitted (R97). -/
def State.fitted (s : State) (n : Nat) : Option CanisterCfg :=
  match s.cfg.image with
  | none => none
  | some im =>
    match im.canisters[n]? with
    | none => none
    | some c => if c.colorant = 0 then none else some c

/-- The configured fields of pump `n` (R117). -/
def State.pumpCfg (s : State) (n : Nat) : PumpCfg :=
  match s.cfg.image with
  | none => default
  | some im => im.pumps.getD n default

def State.pump (s : State) (n : Nat) : Pump := s.shots.pumps.getD n Pump.blank

def State.modPump (s : State) (n : Nat) (f : Pump → Pump) : State :=
  { s with shots := { s.shots with pumps := s.shots.pumps.modify n f } }

/-- The formula index of the entry that holds channel `ch` (R121). -/
def State.channel (s : State) (ch : Nat) : Option Nat := s.shots.channels.getD ch none

def State.setChannel (s : State) (ch : Nat) (e : Option Nat) : State :=
  { s with shots := { s.shots with channels := s.shots.channels.set ch e } }

/-- What slot `n` holds (R142). -/
def State.slot (s : State) (n : Nat) : Option TinRecord := s.seg.slots.getD n none

def State.setSlot (s : State) (n : Nat) (r : Option TinRecord) : State :=
  { s with seg := { s.seg with slots := s.seg.slots.set n r } }

/-- The tin record with an identity, if the place holds one. -/
def knownTin : Option TinRecord → Option Tin
  | some (.known t) => some t
  | _ => none

/-- The identified tin at slot `n`. -/
def State.tinAt (s : State) (n : Nat) : Option Tin := knownTin (s.slot n)

/-- The identified tin at slot `n` changed by `f`. -/
def State.modTinAt (s : State) (n : Nat) (f : Tin → Tin) : State :=
  match s.tinAt n with
  | none => s
  | some t => s.setSlot n (some (.known (f t)))

/-- Every identified tin record of the tin table (R142): slots, shaker, in-transit list. -/
def State.tinTable (s : State) : List Tin :=
  s.seg.slots.filterMap knownTin ++ (knownTin s.shaker.tin).toList ++ s.xfr.inTransit.map Transit.tin

/-- A cause written into a tin record: once one is held, no later cause replaces it (R143). -/
def Tin.withCause (t : Tin) (c : Cause) : Tin :=
  { t with cause := some (t.cause.getD c) }

/-- A tin made REJECT with a cause (R144). -/
def Tin.rejected (t : Tin) (c : Cause) : Tin := { t.withCause c with st := .reject }

/-- The pins without a row of their own as a command finds them (log 5). -/
def State.latch (s : State) (x : Sample) : State := { s with pins := { s.pins with sample := x } }

def State.latchTag (s : State) (tag : Option TinId) : State :=
  { s with pins := { s.pins with sample := { s.pins.sample with tag := tag } } }

def State.latchLid (s : State) (lid : Bool) : State :=
  { s with pins := { s.pins with sample := { s.pins.sample with lidOnHead := lid } } }

def State.latchGray (s : State) (n : Nat) (g : Gray) : State :=
  { s with pins := { s.pins with sample := { s.pins.sample with enc := s.pins.sample.enc.set n g } } }

/-- The encoder of pump `n`. -/
def State.gray (s : State) (n : Nat) : Gray := s.pins.sample.enc.getD n 0

/-- The slot-`n` sensor shows a tin. -/
def State.sensed (s : State) (n : Nat) : Bool := s.pins.sample.slots.getLsbD n

/-! ## The bus port's counters -/

/-- A counter that runs 0-255 and saturates (R13). -/
def bump (n : Nat) : Nat := min 255 (n + 1)

/-- The receive-error counter rises by 1 (R13). -/
def State.rxError (s : State) : State := { s with bus := { s.bus with rxErrors := bump s.bus.rxErrors } }

/-! ## Placing a notice -/

/-- The priority class of a notice (kind table of R1). -/
def Notice.cls : Notice → Nat
  | .jobStatus _ => 2
  | .offer _ _ => 2
  | .claim _ _ _ => 2
  | .withdraw _ => 2
  | .cellStatus _ => 3
  | .consign _ => 1
  | .tinReport _ => 1
  | .stockReply _ => 3
  | .lidLoad _ _ _ _ => 0

/-- The kind code of a notice (kind table of R1). -/
def Notice.kind : Notice → Nat
  | .jobStatus _ => 0x06
  | .offer _ _ => 0x03
  | .claim _ _ _ => 0x04
  | .withdraw _ => 0x05
  | .cellStatus _ => 0x10
  | .consign _ => 0x20
  | .tinReport _ => 0x21
  | .stockReply _ => 0x31
  | .lidLoad _ _ _ _ => 0x32

/-- A notice as it is placed: no attempt made, not in transmission (R4, R7). -/
def Notice.queued (n : Notice) : Queued :=
  { notice := n, attempts := 0, sending := false, final := false, uids := [], replaced := 0 }

/-- Whether a placed notice replaces a queued one (R8): a CELL STATUS another, a CONSIGN repeat one of the
same sequence. -/
def replaces : Notice → Notice → Bool
  | .cellStatus _, .cellStatus _ => true
  | .consign a, .consign b => a.seq == b.seq
  | _, _ => false

/-- The queue with its first notice that `q` replaces and that is not in transmission replaced, in its place and with
its age (R8); none where there is no such notice. Where two CELL STATUS, or two CONSIGN of one sequence, are queued,
the model's choice is the first in queue order (log 9). -/
def replaceIn (q : Queued) : List Queued → Option (List Queued)
  | [] => none
  | a :: l => if replaces q.notice a.notice && !a.sending then some (q :: l) else (replaceIn q l).map (a :: ·)

/-- The queue with `q` placed as the youngest of its class (R7). -/
def insertQueued (q : Queued) : List Queued → List Queued
  | [] => [q]
  | a :: l => if a.notice.cls ≤ q.notice.cls then a :: insertQueued q l else q :: a :: l

/-- The numerically highest class among the notices not in transmission and a new one of class `c` (R9). -/
def worstClass (c : Nat) (l : List Queued) : Nat :=
  l.foldl (fun m a => if a.sending then m else max m a.notice.cls) c

/-- The queue without its oldest notice of class `c` that is not in transmission; none where there is no
such notice (R9). -/
def dropOldest (c : Nat) : List Queued → Option (List Queued)
  | [] => none
  | a :: l => if !a.sending && a.notice.cls == c then some l else (dropOldest c l).map (a :: ·)

/-- A notice added to the queue where no replacement applies (R7), with the drop of R9 where 16 are queued. -/
def Bus.add (b : Bus) (q : Queued) : Bus :=
  if b.queue.length < queueMax then { b with queue := insertQueued q b.queue }
  else
    match dropOldest (worstClass q.notice.cls b.queue) b.queue with
    | none => { b with sendDrops := bump b.sendDrops }
    | some l => { b with queue := insertQueued q l, sendDrops := bump b.sendDrops }

/-- A notice placed that may replace a queued one (R8, R9). -/
def Bus.replaceOrAdd (b : Bus) (q : Queued) : Bus :=
  match replaceIn q b.queue with
  | some l => { b with queue := l }
  | none => b.add q

/-- A block places a notice (R6, R7, R9). -/
def State.place (s : State) (n : Notice) : State := { s with bus := s.bus.add n.queued }

/-- A block places a CELL STATUS or a CONSIGN repeat (R8). -/
def State.placeAgain (s : State) (q : Queued) : State := { s with bus := s.bus.replaceOrAdd q }

/-! ## The idle timer -/

/-- The cell ceases to be idle: the idle timer returns to 0 (R31). -/
def State.wake (s : State) : State := { s with dck := { s.dck with idle := 0 } }

/-! ## The station table -/

/-- The entry of station `n`, if there is one (R21). -/
def State.peer (s : State) (n : Nat) : Option Station := s.stations.find? (fun e => e.number == n)

/-- The upstream and downstream neighbours' station numbers (00_scope.md). -/
def State.upstream (s : State) : Nat := s.self - 1

def State.downstream (s : State) : Nat := s.self + 1

/-- A station's entry changed by `f`. -/
def State.modPeer (s : State) (n : Nat) (f : Station → Station) : State :=
  { s with stations := s.stations.map (fun e => if e.number == n then f e else e) }

end Sys2Proof.Machine
end

