-- ==== Sys2Proof/Machine/Frames.lean ====
section
/-! DEFINITION. Frames on the cell bus (R1, R11, R12): the CRC, the notice-kind table, the bytes of a notice's
body, and when a frame heard is discarded. -/

namespace Sys2Proof.Machine

/-! ## Bits and CRC -/

/-- The bits of a word, most significant first (R1). -/
def bitsOf {w : Nat} (v : BitVec w) : List Bool := (List.range w).map (fun i => v.getMsbD i)

/-- The bits of a list of bytes (R1). -/
def byteBits (l : List Byte) : List Bool := l.flatMap bitsOf

/-- One bit taken into the CRC with polynomial x^16 + x^15 + x^2 + 1 (R1). -/
def crcStep (c : BitVec 16) (b : Bool) : BitVec 16 :=
  if c.msb != b then (c <<< 1) ^^^ 0x8005 else c <<< 1

/-- The CRC of a run of bits, initial value 0xFFFF (R1). -/
def crc16 (l : List Bool) : BitVec 16 := l.foldl crcStep 0xFFFF

/-- Fields 2 to 6 of a frame (R1). -/
def coveredBits (cls : BitVec 2) (sender : BitVec 5) (kind len : Byte) (body : List Byte) : List Bool :=
  bitsOf cls ++ bitsOf sender ++ bitsOf kind ++ bitsOf len ++ byteBits body

/-- A whole frame, start bit to CRC (R1). -/
def frameBits (cls : BitVec 2) (sender : BitVec 5) (kind : Byte) (body : List Byte) : List Bool :=
  let covered := coveredBits cls sender kind (BitVec.ofNat 8 body.length) body
  false :: covered ++ bitsOf (crc16 covered)

/-! ## The notice-kind table -/

/-- Who sends a kind (R1). -/
inductive Sender where
  | cell | terminal | either
  deriving DecidableEq, Repr

/-- A sender station of the kind of station the table names (R12, check 3). -/
def Sender.allows : Sender → Nat → Bool
  | .cell, n => 1 ≤ n && n ≤ 12
  | .terminal, n => 16 ≤ n && n ≤ 30
  | .either, n => (1 ≤ n && n ≤ 12) || (16 ≤ n && n ≤ 30)

/-- The class and the sender of a kind code; none for a code outside the table (R1). -/
def kindRow : Nat → Option (Nat × Sender)
  | 0x01 => some (2, .terminal)
  | 0x02 => some (2, .terminal)
  | 0x03 => some (2, .cell)
  | 0x04 => some (2, .cell)
  | 0x05 => some (2, .cell)
  | 0x06 => some (2, .cell)
  | 0x10 => some (3, .cell)
  | 0x20 => some (1, .cell)
  | 0x21 => some (1, .cell)
  | 0x30 => some (0, .terminal)
  | 0x31 => some (3, .cell)
  | 0x32 => some (0, .either)
  | 0x40 => some (0, .terminal)
  | 0x41 => some (0, .terminal)
  | 0x42 => some (0, .terminal)
  | 0x43 => some (0, .terminal)
  | _ => none

/-- Byte `i` of a body, 0 beyond its end. -/
def byteAt (body : List Byte) (i : Nat) : Nat := (body.getD i 0).toNat

/-- Check 5 of R12: the body length the table gives for the counts and the action carried, each in its range,
and in a CELL STATUS the sender's station. -/
def lengthOk (kind sender : Nat) (body : List Byte) : Bool :=
  match kind with
  | 0x01 => 9 ≤ body.length && body.length == 9 + 4 * byteAt body 8
  | 0x02 => body.length == 3
  | 0x03 => body.length == 5
  | 0x04 => body.length == 6
  | 0x05 => body.length == 3
  | 0x06 => body.length == 12
  | 0x10 =>
    46 ≤ body.length && byteAt body 4 ≤ 16 && byteAt body 42 ≤ 2 &&
      body.length == 46 + 3 * byteAt body 4 + 5 * byteAt body 42 && byteAt body 0 == sender
  | 0x20 =>
    21 ≤ body.length && byteAt body 19 + byteAt body 20 ≤ 12 &&
      body.length == 21 + 6 * byteAt body 19 + 7 * byteAt body 20
  | 0x21 => body.length == 14
  | 0x30 =>
    3 ≤ body.length && 1 ≤ byteAt body 2 && byteAt body 2 ≤ 4 && body.length == (if byteAt body 2 ≤ 2 then 11 else 3)
  | 0x31 => body.length == 9
  | 0x32 => body.length == 4
  | 0x40 => body.length == 5
  | 0x41 => body.length == 0
  | 0x42 => body.length == 0
  | 0x43 => body.length == 1
  | _ => false

/-- The frame is bad (R11). -/
def RawFrame.bad (f : RawFrame) : Bool :=
  240 < f.len.toNat || !f.whole || f.body.length != f.len.toNat ||
    crc16 (coveredBits f.cls f.sender f.kind f.len f.body) != f.crc

/-- Checks 1 to 4 of R12 pass at station `self`. -/
def RawFrame.fits (f : RawFrame) (self : Nat) : Bool :=
  match kindRow f.kind.toNat with
  | none => false
  | some (c, k) => f.cls.toNat == c && k.allows f.sender.toNat && f.sender.toNat != self

/-- The frame is discarded (R11, R12): an ORDER that fails check 5 alone, with 3 bytes or more, is not. -/
def RawFrame.discarded (f : RawFrame) (self : Nat) : Bool :=
  RawFrame.bad f || !RawFrame.fits f self ||
    (!lengthOk f.kind.toNat f.sender.toNat f.body && !(f.kind == 0x01 && 3 ≤ f.body.length))

/-! ## Bodies (R16 to R19, log 11) -/

/-- A field of one byte. -/
def b1 (n : Nat) : List Byte := [BitVec.ofNat 8 n]

/-- A field of two bytes, most significant first. -/
def b2 (n : Nat) : List Byte := b1 (n / 256) ++ b1 n

/-- A field of three bytes. -/
def b3 (n : Nat) : List Byte := b1 (n / 65536) ++ b2 n

/-- A field of four bytes. -/
def b4 (n : Nat) : List Byte := b2 (n / 65536) ++ b2 n

/-- Flags that share a byte, or a flag alone in its byte. -/
def flagField (kind : Nat) (l : List Bool) : List Byte := [Config.flagByte kind l]

def OrderId.bytes (i : OrderId) : List Byte := b1 i.term ++ b2 i.serial

def TinId.bytes (t : TinId) : List Byte := b1 t.cell ++ b2 t.serial

def JobState.code : JobState → Nat
  | .active => 1
  | .blocked => 2
  | .complete => 3
  | .failed => 4
  | .cancelling => 5
  | .cancelled => 6
  | .invalid => 7

def Reason.code : Reason → Nat
  | .entryCount => 1
  | .quantity => 2
  | .duplicateColorant => 3
  | .size => 4
  | .tinCount => 5
  | .headroom => 6
  | .length => 7

/-- R19 names no STARTING: a cell in it sends nothing (R10). -/
def CellState.code : CellState → Nat
  | .starting => 0
  | .configFault => 1
  | .run => 2
  | .night => 3
  | .capped => 4
  | .paused => 5
  | .halted => 6
  | .jammed => 7

def WindowAction.code : WindowAction → Nat
  | .permit => 1
  | .deny => 2

def ShakeClass.code : ShakeClass → Nat
  | .normal => 1
  | .gentle => 2

def TinStatus.code : TinStatus → Nat
  | .deferred => 1
  | .done => 2

def ReportResult.code : ReportResult → Nat
  | .done => 1
  | .rejected => 2
  | .lost => 3

def Cause.code : Cause → Nat
  | .doseFault => 1
  | .unfinished => 2
  | .overload => 3
  | .unidentified => 4
  | .unknownAfterRestart => 5
  | .lidFault => 6
  | .skippedAtIntake => 7
  | .downstreamRestarted => 8
  | .jamReconcile => 9

def StockAction.code : StockAction → Nat
  | .refill => 1
  | .setLevel => 2
  | .lock => 3
  | .release => 4

def StockOutcome.code : StockOutcome → Nat
  | .accepted => 1
  | .clamped => 2
  | .refused => 3

def StockCode.code : StockCode → Nat
  | .notFitted => 1
  | .levelUnknown => 2
  | .busy => 3
  | .range => 4

/-- An optional enumerated field: 0 marks it absent (R1). -/
def optCode {α : Type} (code : α → Nat) : Option α → List Byte
  | none => b1 0
  | some a => b1 (code a)

/-- A cover item: three bytes, the usable flag on top of the level class (R1). -/
def CoverItem.bytes (c : CoverItem) : List Byte :=
  b1 c.canister ++ b1 c.colorant ++ [BitVec.ofBool c.usable ++ Config.levelCode c.cls]

/-- A window: eight bytes (R1). -/
def Window.bytes (w : Window) : List Byte :=
  flagField 0x10 [w.enable] ++ b2 w.pattern.toNat ++ b2 w.mask.toNat ++ optCode WindowAction.code w.action ++ b1 w.lid ++
    optCode ShakeClass.code w.shake

/-- A change record: five bytes (R1). -/
def ChangeRec.bytes (c : ChangeRec) : List Byte :=
  b1 c.input ++ flagField 0x10 [c.asserted] ++ b1 (c.time / 3600) ++ b1 (c.time / 60 % 60) ++ b1 (c.time % 60)

def JobStatusMsg.bytes (m : JobStatusMsg) : List Byte :=
  OrderId.bytes m.id ++ b1 m.claimant ++ b1 (JobState.code m.state) ++ b1 m.ordered ++ b1 m.done ++ b1 m.rejected ++ b1 m.lost ++
    b1 m.remakes ++ flagField 0x06 [m.duplicate] ++ optCode Reason.code m.reason

def CellStatusMsg.bytes (m : CellStatusMsg) : List Byte :=
  b1 m.station ++ b1 (CellState.code m.state) ++
    flagField 0x10 [m.pause, m.unset, m.last, m.restarted, m.intakeHold, m.lidWait, m.chuteFull, m.dispatchFull] ++
    b1 m.restartedCount ++ b1 m.cover.length ++ m.windows.flatMap Window.bytes ++ b2 m.pointer ++ b2 m.backlog ++
    b1 m.lidWaitSize ++ b1 m.attention.length ++ flagField 0x10 [m.overwrite] ++ b1 m.rxErrors ++ b1 m.sendDrops ++
    m.cover.flatMap CoverItem.bytes ++ m.attention.flatMap ChangeRec.bytes

def DosedItem.bytes (d : DosedItem) : List Byte := b1 d.colorant ++ b4 d.delivered ++ b1 d.station

def DeferItem.bytes (d : DeferItem) : List Byte := b1 d.colorant ++ b4 d.nominal ++ b1 d.index ++ b1 d.station

def ConsignMsg.bytes (m : ConsignMsg) : List Byte :=
  b2 m.seq ++ TinId.bytes m.tin ++ OrderId.bytes m.order ++ b2 m.base.toNat ++ b1 m.size ++ b1 m.lid ++
    optCode ShakeClass.code m.shake ++ b4 m.total ++ b1 (TinStatus.code m.status) ++ flagField 0x20 [m.raised, m.omitted] ++
    b1 m.dosed.length ++ b1 m.deferral.length ++ m.dosed.flatMap DosedItem.bytes ++ m.deferral.flatMap DeferItem.bytes

def TinReportMsg.bytes (m : TinReportMsg) : List Byte :=
  TinId.bytes m.tin ++ OrderId.bytes m.order ++ b1 (ReportResult.code m.result) ++ optCode Cause.code m.cause ++ b1 m.station ++
    b4 m.total ++ flagField 0x21 [m.raised, m.omitted]

def StockReplyMsg.bytes (m : StockReplyMsg) : List Byte :=
  b1 m.canister ++ b1 (StockAction.code m.action) ++ b1 (StockOutcome.code m.outcome) ++ optCode StockCode.code m.code ++
    [(0 : BitVec 1) ++ Config.levelCode m.cls] ++ b4 m.overfill

/-- The body of a notice this cell sends. -/
def Notice.body : Notice → List Byte
  | .jobStatus m => JobStatusMsg.bytes m
  | .offer id est => OrderId.bytes id ++ b2 est
  | .claim id est committed => OrderId.bytes id ++ b2 est ++ flagField 0x04 [committed]
  | .withdraw id => OrderId.bytes id
  | .cellStatus m => CellStatusMsg.bytes m
  | .consign m => ConsignMsg.bytes m
  | .tinReport m => TinReportMsg.bytes m
  | .stockReply m => StockReplyMsg.bytes m
  | .lidLoad target size lid count => b1 target ++ b1 size ++ b1 lid ++ b1 count

/-- The frame of a notice sent by station `self` (R1). -/
def Notice.frame (n : Notice) (self : Nat) : List Bool :=
  frameBits (BitVec.ofNat 2 n.cls) (BitVec.ofNat 5 self) (BitVec.ofNat 8 n.kind) n.body

end Sys2Proof.Machine
end

