-- ==== Sys2Proof/Machine/Windows.lean ====
section
/-! DEFINITION. Base windows and the verdicts drawn from them (chapter Bases, Tin Sizes and Base Windows). -/

namespace Sys2Proof.Machine

/-- A base code matches a window (R42): a disabled window matches no base. -/
def windowMatches (w : Window) (base : Code16) : Bool :=
  w.enable && (base &&& w.mask) == (w.pattern &&& w.mask)

/-- A verdict (R43): on PERMIT the deciding window's lid type code and shake class. -/
inductive Verdict where
  | permit (lid : Nat) (shake : Option ShakeClass)
  | deny
  deriving DecidableEq, Repr

/-- The verdict of a list of windows taken in index order (R43). An enabled window heard with its action zero, which
no cell announces (R44, R49), denies (log 47). -/
def verdict : List Window → Code16 → Verdict
  | [], _ => .deny
  | w :: ws, base =>
    if windowMatches w base then
      match w.action with
      | some .permit => .permit w.lid w.shake
      | some .deny | none => .deny
    else verdict ws base

/-- The windows permit the base. -/
def permits (ws : List Window) (base : Code16) : Bool :=
  match verdict ws base with
  | .permit _ _ => true
  | .deny => false

/-- An image's shake class as a window holds it (R41). -/
def ImgShake.toClass : ImgShake → Option ShakeClass
  | .normal => some .normal
  | .gentle => some .gentle
  | .absent => none
  | .bad => none

/-- A window of an accepted image (R41). -/
def windowOf (w : ImgWindow) : Window :=
  { enable := w.enable == .on, pattern := w.pattern, mask := w.mask, action := some (if w.permit == .on then .permit else .deny),
    lid := w.lid, shake := ImgShake.toClass w.shake }

/-- A disabled window with its other fields zero and its shake class absent (R49). -/
def windowOff : Window := { enable := false, pattern := 0, mask := 0, action := none, lid := 0, shake := none }

/-- This cell's four windows (R41): all disabled where no image is accepted. -/
def State.windows (s : State) : List Window :=
  match s.cfg.image with
  | none => List.replicate 4 windowOff
  | some im => im.windows.map windowOf

end Sys2Proof.Machine
end

