-- ==== Sys2Proof/Machine/Flags.lean ====
section
/-! DEFINITION. What the blocks judge from the state: the gates of R29, moments and the working window, level classes
and usable flags, occupied bays, the last and the lowest cell, the idle test. -/

namespace Sys2Proof.Machine

/-! ## Gates of R29 -/

/-- The cell state permits an index, a press start, a shake run start and a stirring run start (R29). -/
def State.working (s : State) : Bool :=
  match s.dck.cell with
  | .run | .night | .capped => true
  | .starting | .configFault | .paused | .halted | .jammed => false

/-- The cell state permits an entry start (R29); the cap is judged apart. -/
def State.dosingState (s : State) : Bool :=
  match s.dck.cell with
  | .run | .night => true
  | .starting | .configFault | .capped | .paused | .halted | .jammed => false

/-- The cell state permits an offer, an uncommitted claim and a new load prompt (R29). -/
def State.running (s : State) : Bool := s.dck.cell == .run

/-- The cell is in none of STARTING and CONFIG_FAULT. -/
def State.inService (s : State) : Bool :=
  match s.dck.cell with
  | .starting | .configFault => false
  | .run | .night | .capped | .paused | .halted | .jammed => true

/-! ## Moments -/

/-- 86,400 s make a day (R26). -/
def daySecs : Nat := 86400

/-- A duration added to a moment (R26). -/
def Moment.add (m : Moment) (d : Nat) : Moment :=
  { day := (m.day + (m.sec + d) / daySecs) % 65536, sec := (m.sec + d) % daySecs }

/-- The difference of two day counts modulo 65,536 (R27). -/
def dayDiff (a b : Nat) : Nat := (a + 65536 - b) % 65536

/-- The first moment is later than the second (R27). -/
def Moment.later (a b : Moment) : Bool :=
  if dayDiff a.day b.day = 0 then decide (b.sec < a.sec) else decide (dayDiff a.day b.day ≤ 32767)

/-- A due moment is reached (R27): the present moment is the same or later, the present moment being the first of the
two, so that a due moment exactly 32,768 days away is not reached (log 53). -/
def Moment.reached (now due : Moment) : Bool :=
  Moment.later now due || (dayDiff now.day due.day == 0 && now.sec == due.sec)

/-- How far a later moment lies ahead of `now`, in s (R112, R113). -/
def Moment.ahead (due now : Moment) : Nat := dayDiff due.day now.day * daySecs + due.sec - now.sec

/-- A time of day in seconds (R26). -/
def secsOf (t : HMS) : Nat := t.h * 3600 + t.m * 60 + t.s

/-- A time of day whose fields are in range (R25, R203). -/
def timeOk (t : HMS) : Bool := t.h ≤ 23 && t.m ≤ 59 && t.s ≤ 59

/-- The time of day `t` is inside the window from `o` to `c` (R28). -/
def insideTimes (o c t : Nat) : Bool :=
  if o < c then o ≤ t && t < c
  else if c < o then o ≤ t || t < c
  else true

/-- The cell counts as inside the working window (R28). -/
def State.inside (s : State) : Bool :=
  s.dck.unset ||
    (match s.cfg.image with
     | none => true
     | some im => insideTimes (secsOf im.openTime) (secsOf im.closeTime) s.dck.moment.sec)

/-- The clock-given state (R28). -/
def State.clockGiven (s : State) : CellState := if s.inside then .run else .night

/-! ## Canisters -/

/-- The level-known flag (R98). -/
def Canister.known (c : Canister) : Bool := c.stock.isSome

def Canister.level (c : Canister) : Nat := (c.stock.map Stock.level).getD 0

def Canister.strength (c : Canister) : Nat := (c.stock.map Stock.strength).getD 0

/-- The available volume of canister `n` in nl (R98). -/
def State.available (s : State) (n : Nat) : Nat :=
  match s.fitted n with
  | none => 0
  | some cfg => (s.canister n).level - cfg.dead * 1000 - (s.canister n).reserved

/-- The level class of canister `n` (R101). -/
def State.levelClass (s : State) (n : Nat) : LevelClass :=
  match s.fitted n with
  | none => .notFitted
  | some cfg =>
    if !(s.canister n).known then .unknown
    else if (s.canister n).lock || (s.pump n).st == .locked || (s.pump n).st == .unusable then .locked
    else if s.available n < (s.pumpCfg n).minShot * (s.pumpCfg n).d then .empty
    else if s.available n < cfg.lowMark * 1000 then .low
    else if cfg.capacity * 500 ≤ (s.canister n).level then .full
    else .ok

/-- A level class from which colorant may be drawn (R55, R82). -/
def LevelClass.drawable : LevelClass → Bool
  | .full | .ok | .low => true
  | .empty | .unknown | .locked | .notFitted => false

/-- The usable flag of canister `n` (R101). -/
def State.usable (s : State) (n : Nat) : Bool :=
  LevelClass.drawable (s.levelClass n) && !(s.canister n).pendingLock

/-- The cover-list item of canister `n`, if it is fitted (R19). -/
def State.coverItem (s : State) (n : Nat) : Option CoverItem :=
  (s.fitted n).map (fun cfg => { canister := n, colorant := cfg.colorant, cls := s.levelClass n, usable := s.usable n })

/-- The cover list (R19, R101): one item per fitted canister, in index order. -/
def State.cover (s : State) : List CoverItem := (List.range 16).filterMap s.coverItem

/-- A cover list holds the colorant in a class from which it may be drawn, usable (R55). -/
def coversColorant (l : List CoverItem) (colorant : Nat) : Bool :=
  l.any (fun c => c.colorant == colorant && LevelClass.drawable c.cls && c.usable)

/-! ## Entries and channels -/

/-- The plan an entry record holds, if its state has one (R74). -/
def DoseState.plan : DoseState → Option Plan
  | .toDose p | .active p | .dosed p | .failed p => some p
  | .deferred | .omitted => none

def DoseState.isToDose : DoseState → Bool
  | .toDose _ => true
  | .deferred | .omitted | .active _ | .dosed _ | .failed _ => false

def DoseState.isActive : DoseState → Bool
  | .active _ => true
  | .deferred | .omitted | .toDose _ | .dosed _ | .failed _ => false

/-- The tin holds a LOCAL entry (R33, R93). -/
def Tin.hasLocal (t : Tin) : Bool := t.entries.any (fun e => DoseState.isToDose e.st)

/-- The tin holds an ACTIVE entry (R93). -/
def Tin.hasActive (t : Tin) : Bool := t.entries.any (fun e => DoseState.isActive e.st)

/-- The entry of formula index `i`. -/
def Tin.entry (t : Tin) (i : Nat) : Option DoseEntry := t.entries.find? (fun e => e.index == i)

/-- The tin with the entry of formula index `i` changed by `f`. -/
def Tin.modEntry (t : Tin) (i : Nat) (f : DoseEntry → DoseEntry) : Tin :=
  { t with entries := t.entries.map (fun e => if e.index == i then f e else e) }

/-- The entry of the tin at slot 2 that holds channel `ch` (R121). -/
def State.heldEntry (s : State) (ch : Nat) : Option DoseEntry :=
  match s.channel ch, s.tinAt 2 with
  | some i, some t => t.entry i
  | _, _ => none

/-- The canister that the entry holding channel `ch` names: it is also its pump (R109, R121). -/
def State.heldCanister (s : State) (ch : Nat) : Option Nat :=
  (s.heldEntry ch).bind (fun e => (DoseState.plan e.st).map Plan.canister)

/-- An entry holds canister `n` (R109). -/
def State.canisterHeld (s : State) (n : Nat) : Bool :=
  (List.range 4).any (fun ch => s.heldCanister ch == some n)

/-- A pump in motion (R120). -/
def PumpState.inMotion : PumpState → Bool
  | .switching | .stroking | .refilling => true
  | .idle | .locked | .unusable => false

/-! ## Bays -/

/-- The tin of a record is FINISHING. -/
def isFinishing : Option TinRecord → Bool
  | some (.known t) => t.st == .finishing
  | _ => false

/-- The tin of a record is LIDDED. -/
def isLidded : Option TinRecord → Bool
  | some (.known t) => t.st == .lidded
  | _ => false

/-- An index is in progress (R146). -/
def IndexState.isRunning : IndexState → Bool
  | .running _ _ _ => true
  | .idle | .stopped _ _ => false

/-- An index is in progress or waiting to be finished (R148). -/
def IndexState.busy : IndexState → Bool
  | .idle => false
  | .running _ _ _ | .stopped _ _ => true

/-- A press is in progress (R187). -/
def LidBay.inPress : LidBay → Bool
  | .pressing _ | .pressStopped => true
  | .idle | .lidWait _ => false

/-- A shaker transfer is in progress (R194). -/
def ShakeState.inTransfer : ShakeState → Bool
  | .loading | .returning => true
  | .empty | .clamping | .running | .interrupted | .unclamping => false

/-- A load prompt stands for the order book and the idle test: REQUESTED or STANDING (R150). -/
def LoadPrompt.isSet : LoadPrompt → Bool
  | .none => false
  | .requested _ | .standing _ _ _ _ => true

def LoadPrompt.isRequested : LoadPrompt → Bool
  | .requested _ => true
  | .none | .standing _ _ _ _ => false

def LoadPrompt.isStanding : LoadPrompt → Bool
  | .standing _ _ _ _ => true
  | .none | .requested _ => false

/-- The order a prompt is for (R150). -/
def LoadPrompt.order : LoadPrompt → Option OrderId
  | .none => Option.none
  | .requested o => some o
  | .standing o _ _ _ => some o

/-- The cell is idle (R31). -/
def State.idleTest (s : State) : Bool :=
  s.seg.slots.all (fun r => r.isNone) && s.shaker.st == .empty && s.xfr.expected.isEmpty && !s.seg.prompt.isSet &&
    s.shots.pumps.all (fun p => !PumpState.inMotion p.st) && !s.seg.index.isRunning && !s.lids.bay.inPress

/-! ## The line as the station table shows it -/

/-- A cell's last CELL STATUS, if its entry is PRESENT. -/
def Station.presentStatus (e : Station) : Option CellStatusMsg :=
  if e.presence == .present then e.status else none

/-- This cell is the lowest present cell (R23). -/
def State.lowest (s : State) : Bool :=
  s.stations.all (fun e => !(e.number < s.self && (Station.presentStatus e).isSome))

/-- No lower present cell is able to book orders (R54): one in CONFIG_FAULT is passed over. -/
def State.answersInvalid (s : State) : Bool :=
  s.stations.all (fun e =>
    !(e.number < s.self &&
      (match Station.presentStatus e with
       | some m => m.state != .configFault
       | none => false)))

/-- A PRESENT or STALE cell entry whose last-cell flag is set (R23). -/
def Station.claimsLast (e : Station) : Bool :=
  e.presence != .gone &&
    (match e.status with
     | some m => m.last
     | none => false)

/-- The last cell of the line in this cell's view (R23). -/
def State.lastCell (s : State) : Option Nat :=
  if s.cfg.last then some s.self
  else ((s.stations.filter Station.claimsLast).map Station.number).min?

end Sys2Proof.Machine
end

