-- ==== Sys2Proof/Machine/BookOps.lean ====
section
/-! DEFINITION. The operations of the order book (chapter Orders, Offers and Claims) that its commands and the other
blocks share: eligibility, estimates, JOB STATUS, claims, the count of a job's tins, the load prompt's end. -/

namespace Sys2Proof.Machine

/-! ## Entries -/

/-- The entry of an order id, if it is booked (R51). -/
def State.entry (s : State) (id : OrderId) : Option OrderEntry := s.book.find? (fun e => e.id == id)

/-- The entry of an order id changed by `f`. -/
def State.modEntry (s : State) (id : OrderId) (f : OrderEntry → OrderEntry) : State :=
  { s with book := s.book.map (fun e => if e.id == id then f e else e) }

/-- The states in which an own job is open (R51). -/
def OrderState.isOpen : OrderState → Bool
  | .ownPending | .ownActive | .ownBlocked | .ownCancelling => true
  | .new | .waitingClaim | .placedElsewhere | .unplaced | .invalid | .cancelled | .ownComplete | .ownFailed => false

/-- The entry is an open own job (R51). -/
def OrderEntry.openJob (e : OrderEntry) : Bool := e.job.isSome && OrderState.isOpen e.st

/-- The entry's priority is URGENT: any other value is taken as NORMAL (R53). -/
def OrderEntry.urgent (e : OrderEntry) : Bool :=
  match e.order with
  | some m => m.priority == 2
  | none => false

/-- The tin count of the entry's ORDER, 0 where it could not be read (R54). -/
def OrderEntry.tinCount (e : OrderEntry) : Nat := (e.order.map OrderMsg.count).getD 0

/-- Tins still to load (R56). -/
def OrderEntry.toLoad (e : OrderEntry) : Nat :=
  match e.job with
  | some j => e.tinCount + j.remakes - j.loaded
  | none => 0

/-- Tins loaded but unresolved (R56). -/
def Job.unresolved (j : Job) : Nat := j.loaded - j.done - j.rejected - j.lost

/-- What an open own job adds to the backlog (R56). -/
def OrderEntry.backlog (e : OrderEntry) : Nat :=
  match e.job with
  | some j => if e.openJob then e.perTin * (e.toLoad + j.unresolved) else 0
  | none => 0

/-- The backlog B in s, saturating at 65,535 (R56). -/
def State.backlog (s : State) : Nat := min 65535 ((s.book.map OrderEntry.backlog).sum)

/-- The estimate for `n` tins at `p` s each, saturating at 65,535 (R56). -/
def State.estimate (s : State) (n p : Nat) : Nat := min 65535 (s.backlog + n * p)

/-- The open own jobs (R51). -/
def State.openJobs (s : State) : Nat := (s.book.filter OrderEntry.openJob).length

/-- The entries in NEW for which this cell has offered (R57). -/
def State.pendingOffers (s : State) : Nat :=
  (s.book.filter (fun e => e.st == .new && e.ownEst.isSome)).length

/-! ## Nominal volumes, validation, per-tin figure -/

/-- The nominal volume of a formula entry in nl (R76). -/
def nominalNl (q size : Nat) : Nat := q * nominalOf size

/-- The sum of a formula's nominal volumes in nl (R56, R80). -/
def formulaNl (formula : List FormulaItem) (size : Nat) : Nat := (formula.map (fun f => nominalNl f.q size)).sum

/-- The per-tin figure P in s (R56). -/
def perTinOf (m : OrderMsg) : Nat := 40 + ceilDiv (ceilDiv (formulaNl m.formula m.size) 1000) 4000

/-- Two entries carry the same colorant code (R53, R169). -/
def hasDuplicate : List Nat → Bool
  | [] => false
  | c :: l => l.contains c || hasDuplicate l

/-- The validation headroom test passes (R80): the nominal sum × 5 against the headroom in µl × 4,000. -/
def headroomTest (m : OrderMsg) : Bool := formulaNl m.formula m.size * 5 ≤ headroomNl m.size / 1000 * 4000

/-- The first failing check of R53, in its order. -/
def validate (m : OrderMsg) : Option Reason :=
  if !m.lengthOk then some .length
  else if m.formula.length = 0 || 12 < m.formula.length then some .entryCount
  else if (sizeRow m.size).isNone then some .size
  else if m.count = 0 || 24 < m.count then some .tinCount
  else if m.formula.any (fun f => f.q == 0 || 200000 < f.q) then some .quantity
  else if hasDuplicate (m.formula.map FormulaItem.colorant) then some .duplicateColorant
  else if !headroomTest m then some .headroom
  else none

/-! ## Eligibility -/

/-- A peer's status shows the colorant held for a base it permits (R55, R49). -/
def holdsDownstream (m : CellStatusMsg) (base : Code16) (colorant : Nat) : Bool :=
  permits m.windows base && coversColorant m.cover colorant

/-- The colorant is covered, here or downstream (R55). -/
def State.covered (s : State) (base : Code16) (colorant : Nat) : Bool :=
  coversColorant s.cover colorant ||
    s.stations.any (fun e =>
      s.self < e.number &&
        (match Station.presentStatus e with
         | some m => holdsDownstream m base colorant
         | none => false))

/-- Station `n` has a PRESENT cell entry that is neither in CONFIG_FAULT nor JAMMED (R55). -/
def State.passable (s : State) (n : Nat) : Bool :=
  match (s.peer n).bind Station.presentStatus with
  | some m => m.state != .configFault && m.state != .jammed
  | none => false

/-- The way to the end is open (R55, condition 3). -/
def State.wayOpen (s : State) : Bool :=
  match s.lastCell with
  | none => false
  | some l => (List.range 32).all (fun n => !(s.self < n && n ≤ l) || s.passable n)

/-- The eligibility test for an order (R55). -/
def State.eligible (s : State) (m : OrderMsg) : Bool :=
  permits s.windows m.base && m.formula.all (fun f => s.covered m.base f.colorant) && s.wayOpen

/-- The eligibility test for an entry: one whose ORDER could not be read is never eligible. -/
def State.eligibleEntry (s : State) (e : OrderEntry) : Bool :=
  match e.order with
  | some m => s.eligible m
  | none => false

/-! ## JOB STATUS and CLAIM -/

/-- The job state a JOB STATUS names for an own job (R71): none in OWN_PENDING. -/
def OrderState.jobState : OrderState → Option JobState
  | .ownActive => some .active
  | .ownBlocked => some .blocked
  | .ownComplete => some .complete
  | .ownFailed => some .failed
  | .ownCancelling => some .cancelling
  | .cancelled => some .cancelled
  | .new | .waitingClaim | .placedElsewhere | .unplaced | .invalid | .ownPending => none

/-- The JOB STATUS of an own job as it stands (R71). -/
def jobStatusMsg (self : Nat) (e : OrderEntry) (j : Job) (st : JobState) : JobStatusMsg :=
  { id := e.id, claimant := self, state := st, ordered := e.tinCount, done := j.done, rejected := j.rejected,
    lost := j.lost, remakes := j.remakes, duplicate := j.duplicate, reason := none }

/-- The time since the last JOB STATUS of a job starts again (R71). -/
def OrderEntry.statusPlaced (e : OrderEntry) : OrderEntry :=
  { e with job := e.job.map (fun j => { j with repeatTime := 0 }) }

/-- A JOB STATUS of the own job is placed with the contents of the moment (R71). -/
def State.placeJobStatus (s : State) (id : OrderId) : State :=
  match s.entry id with
  | none => s
  | some e =>
    match e.job, OrderState.jobState e.st with
    | some j, some st => (s.place (.jobStatus (jobStatusMsg s.self e j st))).modEntry id OrderEntry.statusPlaced
    | _, _ => s

/-- This cell's own claim for a job, as it last sent it (R60). -/
def OrderEntry.ownClaim (e : OrderEntry) (self : Nat) : Claim :=
  { station := self, est := e.ownEst.getD 0, committed := (e.job.map Job.committed).getD false }

/-- The CLAIM of an own job placed as it stands; an uncommitted one only in RUN (R57, R62, R66). -/
def State.placeClaim (s : State) (id : OrderId) : State :=
  match s.entry id with
  | none => s
  | some e =>
    let c := e.ownClaim s.self
    if c.committed || s.running then s.place (.claim id c.est c.committed) else s

/-- The first of two claims is better (R60). -/
def Claim.better (a b : Claim) : Bool :=
  if a.committed != b.committed then a.committed
  else if a.est != b.est then decide (a.est < b.est)
  else decide (a.station < b.station)

/-! ## States of an entry -/

/-- A finished state is entered: the 60 s of R73 start. -/
def OrderEntry.finish (e : OrderEntry) (st : OrderState) : OrderEntry := { e with st := st, retention := some 0 }

/-- An entry that is cancelled and keeps no own job (R70): its timers stop, its optional parts go (R51). -/
def OrderEntry.cancelForeign (e : OrderEntry) : OrderEntry :=
  { e with st := .cancelled, retention := some 0, offers := [], recorded := none, heard := none, job := none }

/-- An entry placed elsewhere with a recorded claim; no job state has been heard from it (R61). -/
def OrderEntry.placeElsewhere (e : OrderEntry) (c : Claim) : OrderEntry :=
  { e with st := .placedElsewhere, offers := [], recorded := some c, heard := none, retention := none, job := none }

/-- An entry waiting for a claim, with its 2 s wait from now (R59, R63). -/
def OrderEntry.waitClaim (e : OrderEntry) : OrderEntry :=
  { e with st := .waitingClaim, offers := [], recorded := none, heard := none, retention := none, timer := 0 }

/-! ## The load prompt's end -/

/-- The prompt goes to NONE and a held label is dropped unprinted (R151, R152, R209). -/
def State.endPrompt (s : State) : State :=
  { s with seg := { s.seg with prompt := .none }, panel := { s.panel with label := none } }

/-- The order book withdraws the prompt standing for an order (R66, R152). -/
def State.withdrawPrompt (s : State) (id : OrderId) : State :=
  if s.seg.prompt.order == some id then s.endPrompt else s

/-! ## Blocked jobs -/

/-- A blocked job is tested again; if the test passes it is OWN_ACTIVE and a JOB STATUS is placed (R65). -/
def State.retestJob (s : State) (id : OrderId) : State :=
  match s.entry id with
  | none => s
  | some e =>
    if e.st == .ownBlocked && s.eligibleEntry e then
      (s.modEntry id (fun e => { e with st := .ownActive })).placeJobStatus id
    else s

/-- Every blocked job is tested again (R65), in the order of the book, and their JOB STATUS ACTIVE are placed in that
order (log 49). -/
def State.retestBlocked (s : State) : State :=
  ((s.book.filter (fun e => e.st == .ownBlocked)).map OrderEntry.id).foldl State.retestJob s

/-- After a step that changed canisters: the order book is told if a level class or usable flag changed
(R65, R101). `before` is the cover list before the step (log 23). -/
def State.tellCover (s : State) (before : List CoverItem) : State :=
  if s.cover == before then s else s.retestBlocked

/-! ## Counting a job's tins -/

/-- Whether the tin list of a job holds the tin unresolved (R67). -/
def Job.inFlight (j : Job) (tin : TinId) : Bool := j.tins.any (fun t => t.tin == tin && t.fate == .inFlight)

/-- A job with the tin resolved and the matching count raised (R67, R69). -/
def Job.resolve (j : Job) (tin : TinId) (fate : TinFate) : Job :=
  { j with
    tins := j.tins.map (fun t => if t.tin == tin && t.fate == .inFlight then { t with fate := fate } else t)
    done := j.done + (if fate == .done then 1 else 0)
    rejected := j.rejected + (if fate == .rejected then 1 else 0)
    lost := j.lost + (if fate == .lost || fate == .overdue then 1 else 0) }

/-- R68: what follows for the job after a resolution. -/
def State.settleJob (s : State) (id : OrderId) (fate : TinFate) : State :=
  match s.entry id with
  | none => s
  | some e =>
    match e.job with
    | none => s
    | some j =>
      match e.st with
      | .ownActive | .ownBlocked =>
        if fate == .done then
          if j.done = e.tinCount then (s.modEntry id (fun e => e.finish .ownComplete)).placeJobStatus id else s
        else if j.remakes < 3 then
          (s.modEntry id (fun e => { e with job := some { j with remakes := j.remakes + 1 } })).placeJobStatus id
        else ((s.modEntry id (fun e => e.finish .ownFailed)).withdrawPrompt id).placeJobStatus id
      | .ownCancelling =>
        if j.unresolved = 0 then (s.modEntry id (fun e => e.finish .cancelled)).placeJobStatus id else s
      | .new | .waitingClaim | .placedElsewhere | .unplaced | .invalid | .cancelled | .ownPending | .ownComplete
      | .ownFailed => s

/-- The own job whose tin list holds the tin unresolved (R67). -/
def State.jobOfTin (s : State) (tin : TinId) : Option OrderEntry :=
  s.book.find? (fun e => (e.job.map (fun j => j.inFlight tin)).getD false)

/-- A tin of an own job is resolved: the count, a JOB STATUS, then R68 (R67, R69). -/
def State.resolveTin (s : State) (tin : TinId) (fate : TinFate) : State :=
  match s.jobOfTin tin with
  | none => s
  | some e =>
    ((s.modEntry e.id (fun e => { e with job := e.job.map (fun j => j.resolve tin fate) })).placeJobStatus e.id).settleJob e.id fate

/-- The fate a TIN REPORT gives its tin (R67). -/
def ReportResult.fate : ReportResult → TinFate
  | .done => .done
  | .rejected => .rejected
  | .lost => .lost

/-- A TIN REPORT of this cell's own blocks: placed, and handed to the order book directly when the tin is of
this cell's origin (R67). -/
def State.report (s : State) (m : TinReportMsg) : State :=
  let s' := s.place (.tinReport m)
  if m.tin.cell = s.self then s'.resolveTin m.tin (ReportResult.fate m.result) else s'

/-- The TIN REPORT of a tin record of this cell (R156, R158, R160, R180, R182, R199). -/
def Tin.reportMsg (t : Tin) (self : Nat) (r : ReportResult) (c : Option Cause) : TinReportMsg :=
  { tin := t.id, order := t.order, result := r, cause := c, station := self, total := t.total, raised := t.raised,
    omitted := t.omitted }

/-- The TIN REPORT LOST of an announced tin (R175, R178). -/
def lostReport (m : ConsignMsg) (self : Nat) (c : Cause) : TinReportMsg :=
  { tin := m.tin, order := m.order, result := .lost, cause := some c, station := self, total := m.total,
    raised := m.raised, omitted := m.omitted }

end Sys2Proof.Machine
end

