-- ==== Sys2Proof/Machine/Planner.lean ====
section
/-! DEFINITION. The dose planner's operations (chapter Dose Planning): from nominal volume to strokes, the choice of a
canister, planning at load and at intake, the start check, the end of dosing, the mix time. -/

namespace Sys2Proof.Machine

/-! ## From quantity to strokes -/

/-- The rounded steps of an entry of `n` nl at strength `s` and displacement `d` (R77). -/
def stepsFor (n s d : Nat) : Nat := nearest (n * 1000) (s * d)

/-- The trace rule (R78): 0 stays 0 (the entry is OMITTED), fewer than min shot are raised to it. -/
def traceSteps (steps minShot : Nat) : Nat := if steps = 0 then 0 else max steps minShot

/-- The trace rule raised the steps (R78). -/
def raisedBy (steps minShot : Nat) : Bool := steps ≠ 0 && steps < minShot

/-- The stroke count k (R79). -/
def strokeCount (steps strokeSteps : Nat) : Nat := ceilDiv steps strokeSteps

/-- The strokes of an entry run as `k` strokes (R79). -/
def strokesOf (steps k : Nat) : List Nat :=
  List.replicate (steps % k) (steps / k + 1) ++ List.replicate (k - steps % k) (steps / k)

/-! ## Choosing a canister -/

/-- Canister `n` is a candidate for a colorant (R82). -/
def State.candidate (s : State) (n colorant : Nat) : Bool :=
  match s.fitted n with
  | none => false
  | some cfg => cfg.colorant == colorant && s.usable n

/-- The rounded steps of an entry at canister `n`, before the trace rule (R77). -/
def State.rawSteps (s : State) (n nominal : Nat) : Nat :=
  stepsFor nominal (s.canister n).strength (s.pumpCfg n).d

/-- The steps of an entry at canister `n` (R77, R78). -/
def State.stepsAt (s : State) (n nominal : Nat) : Nat := traceSteps (s.rawSteps n nominal) (s.pumpCfg n).minShot

/-- The stroke count of an entry of `steps` steps at canister `n` (R79). -/
def State.strokesAt (s : State) (n steps : Nat) : Nat := strokeCount steps (s.pumpCfg n).strokeSteps

/-- A candidate can take the entry (R82). -/
def State.canTake (s : State) (n nominal : Nat) : Bool :=
  s.stepsAt n nominal == 0 ||
    (s.strokesAt n (s.stepsAt n nominal) ≤ 32 && s.stepsAt n nominal * (s.pumpCfg n).d ≤ s.available n)

/-- The better of two canisters: the larger available volume, then the lower index (R82). `best` has the
lower index. -/
def State.betterOf (s : State) (best : Option Nat) (n : Nat) : Option Nat :=
  match best with
  | none => some n
  | some b => if s.available b < s.available n then some n else some b

/-- The canister chosen for an entry (R82). -/
def State.choose (s : State) (colorant nominal : Nat) : Option Nat :=
  ((List.range 16).filter (fun n => s.candidate n colorant && s.canTake n nominal)).foldl s.betterOf none

/-- How planning settles an entry here (R84, R92). -/
def State.planState (s : State) (colorant nominal : Nat) : DoseState :=
  match s.choose colorant nominal with
  | none => .deferred
  | some n =>
    let steps := s.stepsAt n nominal
    if steps = 0 then .omitted
    else .toDose { canister := n, steps := steps, strokes := strokesOf steps (s.strokesAt n steps), emitted := 0 }

/-- An entry record planned here. -/
def State.planEntry (s : State) (e : DoseEntry) : DoseEntry := { e with st := s.planState e.colorant e.nominal }

/-- The deferral item of an entry record (R84, R87). -/
def DoseEntry.deferItem (e : DoseEntry) (self : Nat) : DeferItem :=
  { colorant := e.colorant, nominal := e.nominal, index := e.index, station := self }

/-- The deferral list of planned entries, in formula index order (R84, R92). -/
def deferralOf (entries : List DoseEntry) (self : Nat) : List DeferItem :=
  (entries.filter (fun e => e.st == .deferred)).map (fun e => e.deferItem self)

/-- Some entry was made OMITTED: the trace omitted flag is set (R78). -/
def anyOmitted (entries : List DoseEntry) : Bool := entries.any (fun e => e.st == .omitted)

/-- The entry records of a formula, numbered from `i`, not yet planned (R84). -/
def formulaEntries (size : Nat) : Nat → List FormulaItem → List DoseEntry
  | _, [] => []
  | i, f :: l =>
    { index := i, colorant := f.colorant, nominal := nominalNl f.q size, st := .deferred } :: formulaEntries size (i + 1) l

/-- The tin record created at slot 1 for an order, planned (R46, R84, R151). -/
def State.loadedTin (s : State) (id : TinId) (m : OrderMsg) (lid : Nat) (shake : Option ShakeClass) : Tin :=
  let entries := (formulaEntries m.size 1 m.formula).map s.planEntry
  { id := id, order := m.id, base := m.base, size := m.size, lid := lid, shake := shake, st := .loaded, cause := none,
    entries := entries, deferral := deferralOf entries s.self, dosed := [], total := 0, raised := false,
    omitted := anyOmitted entries, mix := none }

/-- The entry records of a carried deferral list, not yet planned (R92). -/
def carriedEntries (l : List DeferItem) : List DoseEntry :=
  l.map (fun d => { index := d.index, colorant := d.colorant, nominal := d.nominal, st := .deferred })

/-- The tin record of an announced tin, with an empty entry list (R50, R177). -/
def carriedTin (m : ConsignMsg) (st : TinState) (cause : Option Cause) (total : Nat) : Tin :=
  { id := m.tin, order := m.order, base := m.base, size := m.size, lid := m.lid, shake := m.shake, st := st,
    cause := cause, entries := [], deferral := m.deferral, dosed := m.dosed, total := total, raised := m.raised,
    omitted := m.omitted, mix := none }

/-- A DEFERRED tin taken in (R47, R92): PASS on a DENY verdict, otherwise replanned, and DOSING if an entry
is LOCAL. -/
def State.intakeTin (s : State) (m : ConsignMsg) : Tin :=
  let t := { carriedTin m .pass none m.total with entries := carriedEntries m.deferral }
  if permits s.windows m.base then
    let entries := t.entries.map s.planEntry
    { t with
      entries := entries
      deferral := deferralOf entries s.self
      omitted := t.omitted || anyOmitted entries
      st := if entries.any (fun e => DoseState.isToDose e.st) then .dosing else .pass }
  else t

/-! ## Start check -/

/-- The volume outstanding of the other ACTIVE entries of a tin, in nl (R81). -/
def State.outstanding (s : State) (t : Tin) : Nat :=
  (t.entries.map (fun e =>
    match e.st with
    | .active p => (p.steps - p.emitted) * (s.pumpCfg p.canister).d
    | .deferred | .omitted | .toDose _ | .dosed _ | .failed _ => 0)).sum

/-- The outcomes of the start check (R85). -/
inductive StartOutcome where
  | refused
  | deferred
  | omitted
  | overload
  | start (p : Plan) (raised : Bool)
  deriving DecidableEq, Repr

/-- The start check of an entry of the tin at slot 2 against the canister its record names (R85, R86). -/
def State.startCheck (s : State) (t : Tin) (e : DoseEntry) (p : Plan) : StartOutcome :=
  let n := p.canister
  let steps := s.stepsAt n e.nominal
  let vol := steps * (s.pumpCfg n).d
  if t.cause.isSome then .refused
  else if !s.candidate n e.colorant then .deferred
  else if steps = 0 then .omitted
  else if 32 < s.strokesAt n steps then .deferred
  else if s.available n < vol then .deferred
  else if headroomNl t.size < t.total + s.outstanding t + vol then .overload
  else .start { canister := n, steps := steps, strokes := strokesOf steps (s.strokesAt n steps), emitted := 0 }
         (raisedBy (s.rawSteps n e.nominal) (s.pumpCfg n).minShot)

/-- A deferral item added in formula index order (R87). -/
def insertDefer (d : DeferItem) : List DeferItem → List DeferItem
  | [] => [d]
  | a :: l => if a.index ≤ d.index then a :: insertDefer d l else d :: a :: l

/-! ## Finishing -/

/-- The mix time in s (R95). A record without a shake class is REJECT or UNKNOWN and is never mixed; its increment
would be NORMAL's (log 34). -/
def mixTime (size total : Nat) (shake : Option ShakeClass) : Nat :=
  let inc := 3 * ceilDiv total 2000000
  min mixMaxS (shakeTimeOf size + (match shake with
    | some .normal | none => inc
    | some .gentle => inc * 2 / 3))

/-- A tin that becomes FINISHING, with its mix time (R94, R95). -/
def Tin.finish (t : Tin) : Tin := { t with st := .finishing, mix := some (mixTime t.size t.total t.shake) }

/-- The tin's state at the end of its dosing here (R93); `other` is DEFERRED or PASS. -/
def Tin.settled (t : Tin) (other : TinState) : Tin :=
  if t.cause.isSome then { t with st := .reject }
  else if t.deferral.isEmpty then t.finish
  else { t with st := other }

/-- No entry is ACTIVE, and none is LOCAL or a reject cause is held (R93). -/
def Tin.dosingOver (t : Tin) : Bool := !t.hasActive && (!t.hasLocal || t.cause.isSome)

/-- The DOSING tin at slot 2 settled if its dosing has ended (R91, R93). -/
def Tin.settleDosing (t : Tin) : Tin := if t.st == .dosing && t.dosingOver then t.settled .deferred else t

/-- The tin an index brings to slot 2 dealt with by its state (R153). -/
def Tin.arriveDispense (t : Tin) : Tin :=
  match t.st with
  | .loaded => if t.hasLocal then { t with st := .dosing } else t.settled .deferred
  | .pass => t.settled .pass
  | .dosing => t.settleDosing
  | .deferred | .finishing | .lidded | .shaking | .done | .reject => t

/-- The tin at slot 2 settled if its dosing has ended (R93, R140). -/
def State.settleSlot2 (s : State) : State := s.modTinAt 2 Tin.settleDosing

end Sys2Proof.Machine
end

