-- ==== Sys2Proof/Machine/CanisterOps.lean ====
section
/-! DEFINITION. The canister table's operations (chapter Canisters and Stirring): reservation and charging, locks, and
the stirrers. -/

namespace Sys2Proof.Machine

/-! ## Reservation and charging -/

/-- Volume reserved on canister `n` (R99). -/
def State.reserve (s : State) (n vol : Nat) : State :=
  s.modCanister n (fun c => { c with reserved := c.reserved + vol })

/-- A volume taken from a canister's level (R100). -/
def Canister.draw (c : Canister) (vol : Nat) : Canister :=
  { c with stock := c.stock.map (fun k => { k with level := k.level - vol }) }

/-- A stroke that ends COMPLETE: level and reserved fall alike (R100). -/
def State.chargeStroke (s : State) (n vol : Nat) : State :=
  s.modCanister n (fun c => { c.draw vol with reserved := c.reserved - vol })

/-- A movement cut short: the level falls by what was emitted, the reservation to 0 (R100). -/
def State.chargeAbort (s : State) (n vol : Nat) : State :=
  s.modCanister n (fun c => { c.draw vol with reserved := 0 })

/-- A pending lock takes effect at the end of a hold (R105). -/
def Canister.takeLock (c : Canister) : Canister :=
  if c.pendingLock then { c with lock := true, pendingLock := false } else c

/-! ## Stirrers -/

/-- The effective interval of a canister in s (R107). -/
def State.effInterval (s : State) (cfg : CanisterCfg) : Nat :=
  cfg.interval * 60 * (if s.inside then 1 else 4)

def State.modStir (s : State) (n : Nat) (f : Stirrer → Stirrer) : State :=
  s.modCanister n (fun c => { c with stir := f c.stir })

/-- A run starts with the full duration (R108). -/
def Stirrer.run (r : Stirrer) (cfg : CanisterCfg) : Stirrer :=
  { r with st := .running, flag := false, left := cfg.duration * 1000 }

/-- The test of an IDLE stirrer whose due flag is set (R108). -/
def State.stirTest (s : State) (n : Nat) : State :=
  match s.fitted n with
  | none => s
  | some cfg =>
    if (s.canister n).stir.st == .idle && (s.canister n).stir.flag then
      if s.canisterHeld n then s.modStir n (fun r => { r with st := .waiting })
      else if s.working then s.modStir n (fun r => r.run cfg)
      else s
    else s

/-- The test of R108 for every stirrer, at a change of cell state. -/
def State.stirTestAll (s : State) : State := (List.range 16).foldl State.stirTest s

/-- A hold on canister `n` has ended: a pending lock takes effect (R105), and the stirrer is tested (R109,
R110). -/
def State.holdEnd (s : State) (n : Nat) : State :=
  let s := s.modCanister n Canister.takeLock
  match s.fitted n with
  | none => s
  | some cfg =>
    match (s.canister n).stir.st with
    | .waiting =>
      if s.working then s.modStir n (fun r => r.run cfg) else s.modStir n (fun r => { r with st := .idle })
    | .idle => s.stirTest n
    | .running => s

/-- A stirrer made due by a new batch (R114). -/
def State.stirDue (s : State) (n : Nat) : State :=
  match s.fitted n with
  | none => s
  | some cfg =>
    match (s.canister n).stir.st with
    | .idle => (s.modStir n (fun r => { r with flag := true })).stirTest n
    | .waiting => s
    | .running => s.modStir n (fun r => { r with left := cfg.duration * 1000 })

/-- The due moment of an IDLE stirrer tested (R107): reached, it sets the due flag and R108 acts. -/
def State.dueTest (s : State) (n : Nat) : State :=
  if (s.fitted n).isSome && (s.canister n).stir.st == .idle && !(s.canister n).stir.flag &&
      Moment.reached s.dck.moment (s.canister n).stir.due then
    (s.modStir n (fun r => { r with flag := true })).stirTest n
  else s

/-- Every due moment tested, at an advance or a setting of the clock (R107). -/
def State.dueTestAll (s : State) : State := (List.range 16).foldl State.dueTest s

/-- The due moment of an IDLE stirrer with its flag clear pulled back to `interval` from now where it lies
further ahead (R112, R113). The due moment is the first of the two in R27, so that one exactly 32,768 days away is not
ahead and is kept (log 53). -/
def State.pullDue (s : State) (n interval : Nat) : State :=
  if (s.canister n).stir.st == .idle && !(s.canister n).stir.flag &&
      Moment.later (s.canister n).stir.due s.dck.moment && interval < Moment.ahead (s.canister n).stir.due s.dck.moment then
    s.modStir n (fun r => { r with due := s.dck.moment.add interval })
  else s

/-- A backward setting reaches every stirrer (R112). -/
def State.settingBack (s : State) : State :=
  (List.range 16).foldl (fun s n =>
    match s.fitted n with
    | none => s
    | some cfg => s.pullDue n (s.effInterval cfg)) s

/-- A window opening reaches every stirrer (R113). -/
def State.windowOpened (s : State) : State :=
  (List.range 16).foldl (fun s n =>
    match s.fitted n with
    | none => s
    | some cfg => s.pullDue n (cfg.interval * 60)) s

/-- Every run in progress stopped by the emergency stop or a RESTART: IDLE with the due flag set (R111, R116).
A WAITING stirrer has seen its hold end. -/
def Stirrer.stop (r : Stirrer) : Stirrer :=
  match r.st with
  | .idle => r
  | .waiting | .running => { r with st := .idle, flag := true, left := 0 }

def State.stopStirrers (s : State) : State :=
  { s with canisters := s.canisters.map (fun c => { c with stir := c.stir.stop }) }

/-! ## STOCK -/

/-- A STOCK REPLY is placed (R102). -/
def State.stockReply (s : State) (n : Nat) (a : StockAction) (o : StockOutcome) (c : Option StockCode) (cls : LevelClass)
    (overfill : Nat) : State :=
  s.place (.stockReply { canister := n, action := a, outcome := o, code := c, cls := cls, overfill := overfill })

/-- A STOCK is refused, the canister left unchanged (R102). -/
def State.stockRefuse (s : State) (n : Nat) (a : StockAction) (c : StockCode) : State :=
  s.stockReply n a .refused (some c) (if 15 < n then .unknown else s.levelClass n) 0

/-- Tests 1 and 2 of R102, which every STOCK meets: the configured fields, or the code that refuses it. -/
def State.stockTarget (s : State) (n : Nat) : Except StockCode CanisterCfg :=
  if 15 < n then .error .range
  else
    match s.fitted n with
    | none => .error .notFitted
    | some cfg => .ok cfg

/-- The strength carried is outside 800-1,250 (R102, test 3). -/
def strengthBad (strength : Nat) : Bool := strength < 800 || 1250 < strength

/-- The blended strength (R103). -/
def blend (sOld level sNew accepted : Nat) : Nat :=
  if accepted = 0 then sOld else nearest (sOld * level + sNew * accepted) (level + accepted)

end Sys2Proof.Machine
end

