-- ==== Sys2Proof/Machine/ShotOps.lean ====
section
/-! DEFINITION. The shot engine's operations (chapter Pumps and Shots): profiles and movement lengths, the encoder,
the chain of movements of an entry, the end of an entry, the arbiter's choice. -/

namespace Sys2Proof.Machine

/-! ## Profiles -/

/-- The profile is invalid (R118). -/
def profileBad (p : PumpCfg) : Bool :=
  p.startRate < 100 || 2000 < p.startRate || p.topRate < 200 || 20000 < p.topRate ||
    p.topRate < p.startRate + 100 || 5000 < p.rampSteps || p.stages < 2 || 16 < p.stages ||
    (0 < p.rampSteps && p.rampSteps / p.stages < 3)

/-- The rate of stage `i` (R118). -/
def stageRate (p : PumpCfg) (i : Nat) : Nat := p.startRate + (p.topRate - p.startRate) * i / (p.stages - 1)

/-- The step count of stage `i` (R118). -/
def stageCount (p : PumpCfg) (i : Nat) : Nat := p.rampSteps / p.stages + (if i < p.rampSteps % p.stages then 1 else 0)

/-- The sum of the step counts of stages 0 to m - 1 (R129). -/
def rampSum (p : PumpCfg) (m : Nat) : Nat := ((List.range m).map (stageCount p)).sum

/-- The acceleration through stages 0 to m - 1: step counts with their rates (R129). -/
def rampUp (p : PumpCfg) (m : Nat) : List (Nat × Nat) := (List.range m).map (fun i => (stageCount p i, stageRate p i))

/-- The largest number of stages, at most `m`, twice whose sum is no more than `steps` (R129). -/
def shortStages (p : PumpCfg) (steps : Nat) : Nat → Nat
  | 0 => 0
  | m + 1 => if 2 * rampSum p (m + 1) ≤ steps then m + 1 else shortStages p steps m

/-- A movement of `steps` steps as runs of steps at one rate each, in the order driven (R129). -/
def movementRuns (p : PumpCfg) (steps : Nat) : List (Nat × Nat) :=
  if 2 * p.rampSteps ≤ steps then
    rampUp p p.stages ++ (steps - 2 * p.rampSteps, p.topRate) :: (rampUp p p.stages).reverse
  else
    let m := shortStages p steps (p.stages - 1)
    let rate := if m = 0 then p.startRate else stageRate p (m - 1)
    rampUp p m ++ (steps - 2 * rampSum p m, rate) :: (rampUp p m).reverse

/-- The steps of a movement whose last instant lies within `num / den` seconds of its start: a step driven at
rate r lasts 1/r seconds (R129). -/
def stepsWithin : List (Nat × Nat) → Nat → Nat → Nat
  | [], _, _ => 0
  | (n, r) :: l, num, den =>
    if n * den ≤ num * r then n + stepsWithin l (num * r - n * den) (den * r)
    else num * r / den

/-- The steps driven so far of the movement of pump `n` (R119, R129). -/
def State.driven (s : State) (n : Nat) : Nat :=
  stepsWithin (movementRuns (s.pumpCfg n) (s.pump n).steps) (s.pump n).time 1000

/-! ## Encoder -/

/-- A Gray value converted to binary, bit by bit from the top (R130): bit i is the exclusive-or of Gray bits
i to 9. -/
def grayToBinary (g : Gray) : Gray :=
  g ^^^ (g >>> 1) ^^^ (g >>> 2) ^^^ (g >>> 3) ^^^ (g >>> 4) ^^^ (g >>> 5) ^^^ (g >>> 6) ^^^ (g >>> 7) ^^^ (g >>> 8) ^^^ (g >>> 9)

/-- The expected code of content `e` (R130). -/
def expectedCode (e strokeSteps : Nat) : Nat := nearest (e * 1023) strokeSteps

/-- The encoder check passes (R130). -/
def encoderOk (p : PumpCfg) (e : Nat) (g : Gray) : Bool :=
  (grayToBinary g).toNat ≤ expectedCode e p.strokeSteps + p.tolerance &&
    expectedCode e p.strokeSteps ≤ (grayToBinary g).toNat + p.tolerance

/-- A content re-derived from the encoder (R136). -/
def rederive (p : PumpCfg) (g : Gray) : Nat := min p.strokeSteps (nearest ((grayToBinary g).toNat * p.strokeSteps) 1023)

/-! ## Movements -/

/-- The first stroke of a list not yet driven, when `emitted` steps have been (R125). -/
def nextStroke : List Nat → Nat → Option Nat
  | [], _ => none
  | c :: l, emitted => if c ≤ emitted then nextStroke l (emitted - c) else some c

/-- The pump begins a valve switch, a stroke or a refill for a stroke of `c` steps (R125, R126). -/
def Pump.begin (p : Pump) (strokeSteps c : Nat) : Pump :=
  if c ≤ p.content then
    if p.valve == .outlet then { p with st := .stroking, steps := c, time := 0 }
    else { p with st := .switching, target := .outlet, steps := 0, time := 0 }
  else
    if p.valve == .inlet then { p with st := .refilling, steps := strokeSteps - p.content, time := 0 }
    else { p with st := .switching, target := .inlet, steps := 0, time := 0 }

/-- A pump at rest between movements. -/
def Pump.rest (p : Pump) : Pump := { p with st := .idle, steps := 0, time := 0 }

/-- The next movement of the ACTIVE entry on channel `ch` begins, or its pump stands IDLE while the cell state
does not permit it (R125). -/
def State.nextMove (s : State) (ch : Nat) : State :=
  match (s.heldEntry ch).map DoseEntry.st with
  | some (.active p) =>
    match nextStroke p.strokes p.emitted with
    | none => s
    | some c =>
      if s.dosingState then s.modPump p.canister (fun u => u.begin (s.pumpCfg p.canister).strokeSteps c)
      else s.modPump p.canister Pump.rest
  | _ => s

/-- An entry held back between movements goes on when the cell state permits again (R125). -/
def State.resumeMove (s : State) (ch : Nat) : State :=
  match s.heldCanister ch with
  | none => s
  | some n => if (s.pump n).st == .idle && s.dosingState then s.nextMove ch else s

def State.resumeMoves (s : State) : State := (List.range 4).foldl State.resumeMove s

/-! ## The end of an entry -/

/-- The entry on channel `ch` ends or is given back: the channel is free and the hold on its canister ends
(R121, R105, R109). -/
def State.freeChannel (s : State) (ch n : Nat) : State := (s.setChannel ch none).holdEnd n

/-- The tin with an entry whose movement was cut short FAILED: the emitted volume counted, the cause recorded
(R90, R132). -/
def Tin.failEntry (t : Tin) (i emitted vol : Nat) : Tin :=
  (Tin.withCause { t with total := t.total + vol } .doseFault).modEntry i (fun e =>
    { e with st :=
        match e.st with
        | .active p => .failed { p with emitted := p.emitted + emitted }
        | .deferred => .deferred
        | .omitted => .omitted
        | .toDose p => .toDose p
        | .dosed p => .dosed p
        | .failed p => .failed p })

/-- The pump of an entry whose movement was cut short (R132, R134, R135): its content re-derived, its valve
UNKNOWN where a switch was cut short. -/
def Pump.cut (p : Pump) (cfg : PumpCfg) (g : Gray) (st : PumpState) : Pump :=
  { p with
    st := st
    valve := if p.st == .switching then .unknown else p.valve
    content := rederive cfg g
    steps := 0
    time := 0 }

/-- The ACTIVE entry on channel `ch` ends with a cause other than COMPLETE after `emitted` steps (R132, R90,
R100). `st` is its pump's state afterwards. -/
def State.abortEntry (s : State) (ch emitted : Nat) (st : PumpState) (g : Gray) : State :=
  match s.heldEntry ch with
  | none => s.setChannel ch none
  | some e =>
    match DoseState.plan e.st with
    | none => s.setChannel ch none
    | some p =>
      let n := p.canister
      let vol := emitted * (s.pumpCfg n).d
      ((((s.modTinAt 2 (fun t => t.failEntry e.index emitted vol)).chargeAbort n vol).modPump n
        (fun u => u.cut (s.pumpCfg n) g st)).freeChannel ch n)

/-- The steps emitted into the tin by a movement cut short: those of a stroke driven so far, 0 otherwise
(R132). -/
def State.emittedSoFar (s : State) (n : Nat) : Nat := if (s.pump n).st == .stroking then s.driven n else 0

/-- The emergency stop or a RESTART ends the entry on channel `ch` (R135, R137). -/
def State.stopEntry (s : State) (ch : Nat) : State :=
  match s.heldCanister ch with
  | none => s.setChannel ch none
  | some n => s.abortEntry ch (s.emittedSoFar n) .idle (s.gray n)

/-- Every ACTIVE entry ended together (R135, R137). -/
def State.stopEntries (s : State) : State := (List.range 4).foldl State.stopEntry s

/-- The tin with a stroke of an entry counted (R89). -/
def Tin.countStroke (t : Tin) (i steps vol : Nat) : Tin :=
  Tin.modEntry { t with total := t.total + vol } i (fun e =>
    { e with st :=
        match e.st with
        | .active p => .active { p with emitted := p.emitted + steps }
        | .deferred => .deferred
        | .omitted => .omitted
        | .toDose p => .toDose p
        | .dosed p => .dosed p
        | .failed p => .failed p })

/-- The tin with an entry DOSED and its item added at the end of the dosed list (R89). -/
def Tin.doseEntry (t : Tin) (e : DoseEntry) (p : Plan) (d self : Nat) : Tin :=
  Tin.modEntry { t with dosed := t.dosed ++ [{ colorant := e.colorant, delivered := p.steps * d, station := self }] }
    e.index (fun e => { e with st := .dosed p })

/-! ## The arbiter -/

/-- Channel `ch` is faulted: its fault input is low (R121). -/
def State.faulted (s : State) (ch : Nat) : Bool := s.pins.driveFault.getLsbD ch

/-- The lowest-numbered free channel that is not faulted (R122). -/
def State.freeChannel? (s : State) : Option Nat :=
  (List.range 4).find? (fun ch => (s.channel ch).isNone && !s.faulted ch)

/-- The pump of canister `n` is ready (R122). -/
def State.pumpReady (s : State) (n : Nat) : Bool :=
  !PumpState.inMotion (s.pump n).st && (s.canister n).stir.st != .running

/-- The entry of formula index `i` is waiting with its pump ready (R122). -/
def State.waitingReady (s : State) (i : Nat) : Bool :=
  match (s.tinAt 2).bind (fun t => t.entry i) with
  | none => false
  | some e =>
    match e.st with
    | .toDose p => s.pumpReady p.canister
    | .deferred | .omitted | .active _ | .dosed _ | .failed _ => false

/-- The waiting entry to be granted: the lowest formula index whose pump is ready (R122). -/
def State.nextWaiting (s : State) : Option Nat := (s.shots.waiting.filter s.waitingReady).min?

/-- The grant the arbiter would make now: a channel and a formula index (R122, R124, R146). -/
def State.grant (s : State) : Option (Nat × Nat) :=
  if s.dosingState && s.dck.cap == .opened && !s.pins.spill && !s.seg.index.isRunning then
    match s.freeChannel?, s.nextWaiting with
    | some ch, some i => some (ch, i)
    | _, _ => none
  else none

/-- The formula indices of a tin's LOCAL entries. -/
def Tin.localIndices (t : Tin) : List Nat := (t.entries.filter (fun e => DoseState.isToDose e.st)).map DoseEntry.index

/-- The waiting set of the tin at slot 2, formed when its record reaches the bay (R123). -/
def State.formWaiting (s : State) : State :=
  { s with shots := { s.shots with waiting := ((s.tinAt 2).map Tin.localIndices).getD [] } }

/-- An entry leaves the waiting set. -/
def State.leaveWaiting (s : State) (i : Nat) : State :=
  { s with shots := { s.shots with waiting := s.shots.waiting.filter (· != i) } }

end Sys2Proof.Machine
end

