-- ==== Sys2Proof/Machine/BayOps.lean ====
section
/-! DEFINITION. The operations of the lid unit and the shake unit (chapter Lidding and Shaking), of the load prompt
and the label printer (R150, R209), and of the nozzle cap (R32, R33). -/

namespace Sys2Proof.Machine

/-! ## Lid magazines -/

/-- A magazine's count (R183). -/
def Magazine.count (m : Magazine) : Nat := (m.layers.map Layer.count).sum

/-- Magazine `n`, 1-5 (R183). -/
def State.magazine (s : State) (n : Nat) : Magazine :=
  if n = 0 then { layers := [], pulses := 0 } else s.lids.magazines.getD (n - 1) { layers := [], pulses := 0 }

def State.modMagazine (s : State) (n : Nat) (f : Magazine → Magazine) : State :=
  if n = 0 then s else { s with lids := { s.lids with magazines := s.lids.magazines.modify (n - 1) f } }

def State.setBay (s : State) (b : LidBay) : State := { s with lids := { s.lids with bay := b } }

/-- The hatch of magazine `n` is open (R186). -/
def State.hatchOpen (s : State) (n : Nat) : Bool := n ≠ 0 && s.pins.hatch.getLsbD (n - 1)

/-- The layers with one lid popped from the top (R188). -/
def popLid : List Layer → List Layer
  | [] => []
  | a :: l => if a.count ≤ 1 then l else { a with count := a.count - 1 } :: l

/-- The layers with `n` lids pushed on top: onto a top layer of the same type, or as a new layer (R185). -/
def pushLids (lid n : Nat) : List Layer → List Layer
  | [] => [{ lid := lid, count := n }]
  | a :: l => if a.lid = lid then { a with count := a.count + n } :: l else { lid := lid, count := n } :: a :: l

/-- The top layer is of the type `lid`. -/
def topIs (lid : Nat) : List Layer → Bool
  | [] => false
  | a :: _ => a.lid == lid

/-- The test of a LID LOAD that fails first (R184). -/
def State.lidLoadCode (s : State) (size lid count : Nat) : Option LoadCode :=
  if (sizeRow size).isNone then some .range
  else if lid = 0 then some .range
  else if count = 0 then some .range
  else if lidMax ≤ (s.magazine size).count then some .full
  else if !topIs lid (s.magazine size).layers && layerMax ≤ (s.magazine size).layers.length then some .layers
  else none

/-- The lids a LID LOAD that passes is granted (R185). -/
def State.lidsAccepted (s : State) (size count : Nat) : Nat := min count (lidMax - (s.magazine size).count)

/-- A LID LOAD tested and pushed, its load result in the message slot (R184, R185, R208). Refused for a size code that
names no magazine, it gives the magazine's count as 0 (log 45). -/
def State.loadLids (s : State) (size lid count : Nat) : State :=
  match s.lidLoadCode size lid count with
  | some c =>
    { s with panel := { s.panel with message := some (.loadResult
      { magazine := size, lid := lid, asked := count, outcome := .refused, code := some c, accepted := 0,
        count := (s.magazine size).count }) } }
  | none =>
    let n := s.lidsAccepted size count
    let s' := s.modMagazine size (fun m => { m with layers := pushLids lid n m.layers })
    { s' with panel := { s'.panel with message := some (.loadResult
      { magazine := size, lid := lid, asked := count, outcome := if n = count then .accepted else .clamped, code := none,
        accepted := n, count := (s'.magazine size).count }) } }

/-! ## Press start -/

/-- The bay enters LID_WAIT, or stays there with its misfeed mark (R188, R189). -/
def LidBay.wait : LidBay → LidBay
  | .lidWait m => .lidWait m
  | .idle | .pressing _ | .pressStopped => .lidWait false

/-- A press start on the FINISHING tin at slot 4: the choice of a lid, the pop, and the press, a misfeed or
LID_WAIT (R188, R189, R190). -/
def State.pressStart (s : State) : State :=
  match s.tinAt 4 with
  | none => s
  | some t =>
    if t.st == .finishing then
      if topIs t.lid (s.magazine t.size).layers && !s.hatchOpen t.size then
        if s.pins.sample.lidOnHead then
          (s.modMagazine t.size (fun m => { layers := popLid m.layers, pulses := m.pulses + 1 })).setBay (.pressing 0)
        else (s.modMagazine t.size (fun m => { layers := [], pulses := m.pulses + 1 })).setBay (.lidWait true)
      else s.setBay s.lids.bay.wait
    else s

/-- The lid unit looks at slot 4 when an index has completed or a jam has been reconciled (R187). -/
def State.lidLook (s : State) : State :=
  if s.lids.bay == .idle && s.working && !s.seg.index.isRunning then s.pressStart else s

/-- The lid unit at a change of cell state (R187, R192, R193). -/
def State.lidOnState (s : State) : State :=
  if s.working && !s.seg.index.isRunning then
    match s.lids.bay with
    | .idle => s.pressStart
    | .lidWait _ => s.pressStart
    | .pressStopped => s.setBay (.pressing 0)
    | .pressing _ => s
  else s

/-- The waiting tin judged afresh after a push onto magazine `n` or the closing of its hatch (R192). -/
def State.lidRejudge (s : State) (n : Nat) : State :=
  match s.lids.bay, s.tinAt 4 with
  | .lidWait _, some t => if t.size = n && s.working then s.pressStart else s
  | _, _ => s

/-! ## Shaker -/

def State.modShaker (s : State) (f : Shaker → Shaker) : State := { s with shaker := f s.shaker }

/-- The mix time of the tin in the bay, in ms (R95, R196). -/
def Shaker.mixMs (k : Shaker) : Nat := (((knownTin k.tin).bind Tin.mix).getD 0) * 1000

/-- A run begins or resumes with `ms` to go (R196, R197). -/
def Shaker.run (k : Shaker) (ms : Nat) : Shaker := { k with st := .running, left := ms, resume := 0 }

/-- The clamp is confirmed, the door closed and the state permits a run start (R196, R197). -/
def State.mayShake (s : State) : Bool := s.pins.clamp && !s.pins.shakerDoor && s.working

/-- The shake unit starts what its conditions allow: a transfer in (R195), a run (R196), the resumption of an
interrupted run (R197), a return (R199). -/
def State.shakerLook (s : State) : State :=
  match s.shaker.st with
  | .empty =>
    if isLidded (s.slot 6) && !s.seg.index.busy && s.working then
      s.modShaker (fun k => { k with st := .loading, halted := false })
    else s
  | .clamping => if s.mayShake then s.modShaker (fun k => k.run k.mixMs) else s
  | .interrupted => if s.mayShake then s.modShaker (fun k => k.run k.resume) else s
  | .unclamping =>
    if !s.pins.clamp && (s.slot 7).isNone && !s.seg.index.busy && s.working then
      s.modShaker (fun k => { k with st := .returning, halted := false })
    else s
  | .loading | .running | .returning => s

/-- The shake unit at a change of cell state: a stopped transfer is commanded again (R198). -/
def State.shakerOnState (s : State) : State :=
  if ShakeState.inTransfer s.shaker.st && s.shaker.halted then
    if s.working then s.modShaker (fun k => { k with halted := false }) else s
  else s.shakerLook

/-- A RUNNING shake interrupted (R197): the 10 s are added to the remaining ms (log 58). -/
def Shaker.interrupt (k : Shaker) : Shaker :=
  { k with st := .interrupted, resume := min (k.left + penaltyMs) (mixMaxS * 1000) }

/-- The emergency stop reaches the shaker (R198). -/
def Shaker.estop (k : Shaker) : Shaker :=
  match k.st with
  | .running | .interrupted => { k with st := .interrupted, resume := k.mixMs }
  | .loading | .returning => { k with halted := true }
  | .empty | .clamping | .unclamping => k

/-! ## Load prompt and label -/

/-- The serial after `n` (00_scope.md, Identifiers). -/
def serialNext (n : Nat) : Nat := if 65535 ≤ n then 1 else n + 1

/-- A record of this cell's origin in the tin table holds the serial (R150). -/
def State.serialHeld (s : State) (n : Nat) : Bool := s.tinTable.any (fun t => t.id.cell == s.self && t.id.serial == n)

/-- The first serial from `n` on that no record of this cell's origin holds (R150); one more try than there
are records finds it. -/
def State.freshSerial (s : State) : Nat → Nat → Nat
  | 0, n => n
  | k + 1, n => if s.serialHeld n then s.freshSerial k (serialNext n) else n

/-- The serial the next STANDING prompt takes (R150). -/
def State.takeSerial (s : State) : Nat := s.freshSerial s.tinTable.length s.seg.serial

/-- The label of a standing prompt (R209). -/
def State.labelFor (s : State) (id : OrderId) (serial : Nat) : Label :=
  { tin := { cell := s.self, serial := serial }, order := id,
    base := (((s.entry id).bind OrderEntry.order).map OrderMsg.base).getD 0,
    size := (((s.entry id).bind OrderEntry.order).map OrderMsg.size).getD 0 }

/-- A label record handed to the printer port: sent at once, or held (R209). -/
def State.handLabel (s : State) (l : Label) : State :=
  if s.pins.sample.printerReady then { s with panel := { s.panel with label := none, printed := some l } }
  else { s with panel := { s.panel with label := some l } }

/-- The conditions under which a REQUESTED prompt becomes STANDING (R150). -/
def State.mayStand (s : State) : Bool :=
  (s.slot 1).isNone && !s.seg.index.busy && !s.sensed 1 && s.running

/-- A REQUESTED prompt judged: it becomes STANDING, takes a serial, hands a label and starts the load wait
(R150). -/
def State.judgePrompt (s : State) : State :=
  match s.seg.prompt with
  | .requested id =>
    if s.mayStand then
      State.handLabel
        { s with seg := { s.seg with prompt := .standing id s.takeSerial 0 10, serial := serialNext s.takeSerial } }
        (s.labelFor id s.takeSerial)
    else s
  | .none | .standing _ _ _ _ => s

/-- The prompt at a change of cell state: REQUESTED goes to NONE outside RUN (R150). -/
def State.promptOnState (s : State) : State :=
  if s.running then s.judgePrompt
  else if s.seg.prompt.isRequested then s.endPrompt
  else s

/-! ## Nozzle cap -/

/-- The cap is commanded to open (R32). -/
def State.capOpen (s : State) : State :=
  match s.dck.cap with
  | .opened | .opening => s
  | .closed | .stopped => { s with dck := { s.dck with cap := .opening, capTime := 0 } }
  | .closing => { s with dck := { s.dck with kept := some .opened } }

/-- The cap is commanded to close (R32). -/
def State.capClose (s : State) : State :=
  match s.dck.cap with
  | .closed | .closing => s
  | .opened | .stopped => { s with dck := { s.dck with cap := .closing, capTime := 0 } }
  | .opening => { s with dck := { s.dck with kept := some .closed } }

/-- The tin standing at slot 2 holds a LOCAL entry (R33). -/
def State.localAt2 (s : State) : Bool := ((s.tinAt 2).map Tin.hasLocal).getD false

/-- In CAPPED the cap is commanded to open where R33 asks for it. -/
def State.judgeCap (s : State) : State :=
  if s.dck.cell == .capped && (s.inside || s.localAt2) then s.capOpen else s

/-! ## A change of cell state -/

/-- The cell enters a state, and every block that judges a change of cell state does so (log 22): held-back
movements (R125), stirrers (R108), the load prompt (R150), the lid unit (R187, R192, R193), the shake unit
(R195 to R199), the cap (R33). The idle timer starts from 0 (R31). -/
def State.enter (s : State) (c : CellState) : State :=
  State.judgeCap (State.shakerOnState (State.lidOnState (State.promptOnState (State.stirTestAll (State.resumeMoves
    { s with dck := { s.dck with cell := c, idle := 0 } })))))

/-- The cell enters its clock-given state by the cap's position (table of R33). -/
def State.enterByCap (s : State) : State :=
  match s.dck.cap with
  | .opened => s.enter s.clockGiven
  | .closed | .opening => s.enter .capped
  | .closing => s.enter .capped
  | .stopped => if s.inside then s.capOpen.enter .capped else s.capClose.enter .capped

/-- The cell state chosen in the order of R38: HALTED, PAUSED, the clock-given state. -/
def State.chooseState (s : State) : State :=
  if s.dck.halt then s.enter .halted
  else if s.dck.pause then s.enter .paused
  else s.enterByCap

end Sys2Proof.Machine
end

