-- ==== Sys2Proof/Machine/TransferOps.lean ====
section
/-! DEFINITION. The transfer unit's operations (chapter Consignment Between Cells): sequences, CONSIGN, release and
retirement, the expected list, the gate, the pull, restarted neighbours. -/

namespace Sys2Proof.Machine

/-! ## Sequences -/

/-- The sequence after `n`, where 0 means none yet (R162, R164). -/
def seqNext (n : Nat) : Nat := if 65535 ≤ n then 1 else n + 1

/-- The sequence `k` places after `n`. -/
def seqPlus (n : Nat) : Nat → Nat
  | 0 => n
  | k + 1 => seqNext (seqPlus n k)

/-- The step count from `a` to `b` (R162). -/
def stepCount (a b : Nat) : Nat := if a = 0 then b else (b + 65535 - a) % 65535

/-- `b` is after `a`; 0 is before every sequence (R162). -/
def isAfter (b a : Nat) : Bool := 1 ≤ stepCount a b && (a = 0 || stepCount a b ≤ 32767)

/-- `a` is at or before `b` (R162). -/
def atOrBefore (a b : Nat) : Bool := stepCount a b ≤ 32767

/-! ## The upstream side -/

/-- The CONSIGN built from an in-transit record (R164). -/
def Transit.msg (r : Transit) : ConsignMsg :=
  { seq := r.seq, tin := r.tin.id, order := r.tin.order, base := r.tin.base, size := r.tin.size, lid := r.tin.lid,
    shake := r.tin.shake, total := r.tin.total, status := if r.tin.st == .done then .done else .deferred,
    raised := r.tin.raised, omitted := r.tin.omitted, dosed := r.tin.dosed, deferral := r.tin.deferral }

/-- The release of the tin leaving slot 7 for the lane (R164). -/
def State.releaseTin (s : State) (t : Tin) : State :=
  let r : Transit := { seq := seqNext s.xfr.release, tin := t, time := 0 }
  State.place { s with xfr := { s.xfr with release := r.seq, inTransit := s.xfr.inTransit ++ [r] } } (.consign r.msg)

/-- The repeat timer of the record of sequence `q` starts from 0 (R165). -/
def State.restartRepeat (s : State) (q : Nat) : State :=
  { s with xfr := { s.xfr with inTransit := s.xfr.inTransit.map (fun r => if r.seq == q then { r with time := 0 } else r) } }

/-- A CONSIGN of a record placed again, its timer from 0 (R165). -/
def State.repeatConsign (s : State) (r : Transit) : State :=
  (s.placeAgain (Notice.consign r.msg).queued).restartRepeat r.seq

/-- Every record's CONSIGN placed at once, in sequence order (R165, R166). -/
def State.consignBurst (s : State) : State := s.xfr.inTransit.foldl State.repeatConsign s

/-- Repeats are made while the downstream entry is PRESENT or STALE (R165). -/
def State.repeatsOn (s : State) : Bool :=
  match s.peer s.downstream with
  | some e => e.presence != .gone
  | none => false

/-- The records the downstream pointer has passed leave the list (R167). -/
def State.retire (s : State) (p : Nat) : State :=
  if p = 0 then s
  else { s with xfr := { s.xfr with inTransit := s.xfr.inTransit.filter (fun r => !atOrBefore r.seq p) } }

/-- The downstream neighbour is found restarted (R182). -/
def State.downstreamRestarted (s : State) : State :=
  let s' := s.xfr.inTransit.foldl (fun s r => s.report (r.tin.reportMsg s.self .lost (some .downstreamRestarted))) s
  { s' with xfr := { s'.xfr with inTransit := [], release := 0 } }

/-! ## The expected list -/

/-- The cause with which an item is marked (R169), by the first check that fails. -/
def consignMark (m : ConsignMsg) : Option Cause :=
  if (sizeRow m.size).isNone then some .unidentified
  else if m.lid = 0 || m.shake.isNone then some .unidentified
  else if (m.status == .deferred && m.deferral.isEmpty) || (m.status == .done && !m.deferral.isEmpty) then some .unidentified
  else if hasDuplicate (m.dosed.map DosedItem.colorant ++ m.deferral.map DeferItem.colorant) then some .unidentified
  else if headroomNl m.size < m.total then some .overload
  else none

/-- The item of sequence `q`. -/
def State.item (s : State) (q : Nat) : Option Expected := s.xfr.expected.find? (fun e => e.msg.seq == q)

/-- An item added in order of consign sequence, as seen from the pointer (R168). -/
def insertExpected (pointer : Nat) (e : Expected) : List Expected → List Expected
  | [] => [e]
  | a :: l =>
    if stepCount pointer a.msg.seq ≤ stepCount pointer e.msg.seq then a :: insertExpected pointer e l else e :: a :: l

/-- The list without the item of sequence `q`. -/
def State.dropItem (s : State) (q : Nat) : State :=
  { s with xfr := { s.xfr with expected := s.xfr.expected.filter (fun e => e.msg.seq != q) } }

/-- The pointer set, and the items no longer after it removed (R170). -/
def State.setPointer (s : State) (p : Nat) : State :=
  { s with xfr := { s.xfr with pointer := p, expected := s.xfr.expected.filter (fun e => isAfter e.msg.seq p) } }

/-! ## The gate -/

/-- The sequence of the item a disposition is against. -/
def Disposition.seq : Disposition → Option Nat
  | .normal q | .marked q | .presumed q => some q
  | .unknown => none

/-- CLEARED against an item: NORMAL, or MARKED if the item is (R172). -/
def clearedBy (e : Expected) : Intake :=
  if e.mark.isSome then .cleared (.marked e.msg.seq) else .cleared (.normal e.msg.seq)

/-- The item at pointer + k. -/
def State.ahead (s : State) (k : Nat) : Option Expected := s.item (seqPlus s.xfr.pointer k)

def State.setIntake (s : State) (i : Intake) : State := { s with xfr := { s.xfr with intake := i } }

/-- The first read of a tin at the gate (R172). Station 1 makes no read (R161). -/
def State.firstRead (s : State) : State :=
  if s.self ≤ 1 || !s.inService then s
  else
    match s.ahead 1 with
    | some e =>
      if s.pins.sample.tag == some e.msg.tin then s.setIntake (clearedBy e)
      else s.setIntake (.hold 0 1 0 0 s.pins.sample.tag)
    | none => s.setIntake (.hold 0 1 0 0 s.pins.sample.tag)

/-- The intake becomes OPEN, its counts cleared; a tin standing at the gate is read as on arrival (R172). -/
def State.openIntake (s : State) : State :=
  if s.pins.sample.laneHead then (s.setIntake .opened).firstRead else s.setIntake .opened

/-- The upstream neighbour is found restarted (R181). -/
def State.upstreamRestarted (s : State) : State :=
  let s' := { s with xfr := { s.xfr with pointer := 0, expected := [] } }
  if s.xfr.cutShort then s'.setIntake (.cleared .unknown)
  else
    match s.xfr.intake with
    | .opened => s'
    | .cleared _ | .hold _ _ _ _ _ => s'.openIntake

/-- The first item at pointer + k, from k = 2 on and within the window, whose tin id is `tin` (R175): where two carry it,
the model's choice is the nearer (log 57). -/
def State.laterItem (s : State) (tin : TinId) : Option (Nat × Expected) :=
  match s.ahead 2 with
  | some e =>
    if e.msg.tin == tin then some (2, e)
    else
      match s.ahead 3 with
      | some e3 => if e3.msg.tin == tin then some (3, e3) else none
      | none => none
  | none =>
    match s.ahead 3 with
    | some e3 => if e3.msg.tin == tin then some (3, e3) else none
    | none => none

/-- A TIN REPORT LOST for an item skipped at the intake (R175). -/
def State.skipItem (s : State) (q : Nat) : State :=
  match s.item q with
  | none => s
  | some e => (s.dropItem q).report (lostReport e.msg s.self .skippedAtIntake)

/-- The resolution of a hold whose last attempt has ended (R175). -/
def State.resolveHold (s : State) (last : Option TinId) : State :=
  match last.bind s.laterItem with
  | some (k, e) =>
    (((List.range (k - 1)).foldl (fun s' i => s'.skipItem (seqPlus s.xfr.pointer (i + 1))) s).setPointer
      (seqPlus s.xfr.pointer (k - 1))).setIntake (clearedBy e)
  | none =>
    match s.ahead 1 with
    | some e =>
      if last.isNone || last == some e.msg.tin then s.setIntake (.cleared (.presumed e.msg.seq))
      else s.setIntake (.cleared .unknown)
    | none => s.setIntake (.cleared .unknown)

/-! ## The pull -/

/-- The pull is offered to an index command (R176). -/
def State.offersPull (s : State) : Bool :=
  match s.xfr.intake with
  | .cleared (.normal _) => true
  | .cleared (.marked _) | .cleared (.presumed _) | .cleared .unknown => s.seg.chute < chuteMax
  | .opened | .hold _ _ _ _ _ => false

/-- The segment tracker takes the pull unless the gap rule declines it (R147). -/
def State.takesPull (s : State) : Bool := s.offersPull && !(s.seg.prompt.isRequested && s.seg.pulled)

/-- A record of the tin table holds the tin id (R177). -/
def State.tinHeld (s : State) (id : TinId) : Bool := s.tinTable.any (fun t => t.id == id)

/-- The record made of an announced tin bound for the chute (R177). -/
def rejectedRecord (m : ConsignMsg) (c : Cause) : TinRecord :=
  if (sizeRow m.size).isNone then .unknown
  else .known (carriedTin m .reject (some c) (min m.total (headroomNl m.size)))

/-- The record of the pulled tin by its disposition (R177): by the one that stands at the completion, also where the
intake was opened in the middle of the index and CLEARED anew (log 50), and UNKNOWN where it stands OPEN or in HOLD
(log 20). The cause of a MARKED tin is the mark of the item as it stands then, UNIDENTIFIED where it has none (log
51). -/
def State.pulledRecord (s : State) : TinRecord :=
  match s.xfr.intake with
  | .cleared d =>
    match (Disposition.seq d).bind s.item with
    | none => .unknown
    | some e =>
      if s.tinHeld e.msg.tin then .unknown
      else
        match d with
        | .normal _ =>
          match e.msg.status with
          | .done => .known (carriedTin e.msg .done none e.msg.total)
          | .deferred => .known (s.intakeTin e.msg)
        | .marked _ => rejectedRecord e.msg (e.mark.getD .unidentified)
        | .presumed _ => rejectedRecord e.msg .unidentified
        | .unknown => .unknown
  | .opened | .hold _ _ _ _ _ => .unknown

/-- The pointer and the list after the pull (R177). -/
def State.afterPull (s : State) : State :=
  match s.xfr.intake with
  | .cleared d =>
    match Disposition.seq d with
    | none => s
    | some q => (s.dropItem q).setPointer q
  | .opened | .hold _ _ _ _ _ => s

/-- The cut-short pull at the reconcile (R178). -/
def State.reconcilePull (s : State) : State :=
  if !s.xfr.cutShort then s
  else
    let s0 := { s with xfr := { s.xfr with cutShort := false } }
    if s.pins.sample.laneHead then s0
    else
      match s.xfr.intake with
      | .cleared d =>
        match (Disposition.seq d).bind s.item with
        | none => s0.setIntake .opened
        | some e =>
          (((s0.dropItem e.msg.seq).setPointer e.msg.seq).report (lostReport e.msg s.self .jamReconcile)).setIntake .opened
      | .opened | .hold _ _ _ _ _ => s0.setIntake .opened

/-- The reports a RESTART makes for the in-transit tins of other origin (R180). -/
def State.reportTransit (s : State) : State :=
  s.xfr.inTransit.foldl (fun s r =>
    if r.tin.id.cell = s.self then s else s.place (.tinReport (r.tin.reportMsg s.self .rejected (some .unknownAfterRestart)))) s

/-- The transfer unit's reset values (R180). -/
def Transfer.clear : Transfer :=
  { release := 0, inTransit := [], pointer := 0, expected := [], intake := .opened, cutShort := false, restarted := 0 }

end Sys2Proof.Machine
end

