-- ==== Sys2Proof/Machine/SegmentOps.lean ====
section
/-! DEFINITION. The segment tracker's operations (chapter The Conveyor Segment): destinations, the conditions of an
index, what a completion does, jams, the rebuild and the reconcile. -/

namespace Sys2Proof.Machine

/-! ## Slot 7 -/

/-- The destination of the tin at slot 7 (R155). A tin in a state that R154 keeps off slot 7 is given the
chute. -/
def State.destination (s : State) (r : TinRecord) : Destination :=
  match r with
  | .unknown => .chute
  | .known t =>
    match t.st with
    | .reject => .chute
    | .done => if s.cfg.last then .dispatch else .lane
    | .deferred | .pass => if s.cfg.last then .chute else .lane
    | .loaded | .dosing | .finishing | .lidded | .shaking => .chute

/-- The chute can take a tin (R155). -/
def State.chuteReady (s : State) : Bool := s.seg.chute < chuteMax && !s.pins.chuteDoor

/-- A tin can leave to a destination (R155). -/
def State.canLeave (s : State) (d : Destination) : Bool :=
  match d with
  | .chute => s.chuteReady
  | .dispatch => !s.pins.dispatchFull
  | .lane => s.xfr.inTransit.length < laneMax

/-- At the last cell a DEFERRED or PASS tin at slot 7 is REJECT with cause UNFINISHED (R155). -/
def State.judgeSlot7 (s : State) : State :=
  if s.cfg.last then
    s.modTinAt 7 (fun t => if t.st == .deferred || t.st == .pass then t.rejected .unfinished else t)
  else s

/-! ## The conditions of an index (R145) -/

/-- Condition 4: slot 2 is empty or its tin has ended its dosing. -/
def State.slot2Free (s : State) : Bool :=
  match s.tinAt 2 with
  | none => true
  | some t => t.st != .loaded && t.st != .dosing

/-- Condition 6: the shaker and slot 6. -/
def State.slot6Free (s : State) : Bool :=
  !ShakeState.inTransfer s.shaker.st &&
    (if s.shaker.st == .empty then !isLidded (s.slot 6) else (s.slot 6).isNone || (s.slot 7).isSome)

/-- Condition 7: slot 7 is empty or its tin can leave. -/
def State.slot7Free (s : State) : Bool :=
  match s.slot 7 with
  | none => true
  | some r => s.canLeave (s.destination r)

/-- The eight conditions of R145. -/
def State.indexReady (s : State) : Bool :=
  s.working && !s.seg.index.busy && !s.seg.prompt.isStanding && s.slot2Free &&
    (!s.lids.bay.inPress && !isFinishing (s.slot 4)) && s.slot6Free && s.slot7Free &&
    (s.seg.slots.any Option.isSome || s.takesPull)

/-- A LIDDED tin at slot 6 that cannot wait for the shaker is REJECT with cause UNFINISHED at the index command
(R145, condition 6). -/
def State.rejectLidded (s : State) : State :=
  if s.shaker.st != .empty && (s.slot 7).isSome then
    s.modTinAt 6 (fun t => if t.st == .lidded then t.rejected .unfinished else t)
  else s

/-! ## Completion -/

/-- A tin is carried into the chute (R156): the count rises; a REJECT tin is reported. -/
def State.intoChute (s : State) (r : TinRecord) : State :=
  let s' := { s with seg := { s.seg with chute := min chuteMax (s.seg.chute + 1) } }
  match r with
  | .unknown => s'
  | .known t => s'.report (t.reportMsg s.self .rejected t.cause)

/-- The tin at slot 7 leaves to its destination and slot 7 is empty (R146, R156, R157, R164). The chute door is not
asked again: it was closed at the index command (log 40). -/
def State.depart (s : State) (d : Destination) : State :=
  match s.slot 7 with
  | none => s
  | some r =>
    match d, r with
    | .chute, r => (s.setSlot 7 none).intoChute r
    | .lane, .known t => (s.setSlot 7 none).releaseTin t
    | .lane, .unknown => s.setSlot 7 none
    | .dispatch, _ => s.setSlot 7 none

/-- The register shifted by one slot, slot 0 receiving `r` (R146). -/
def State.shift (s : State) (r : Option TinRecord) : State :=
  { s with seg := { s.seg with slots := r :: s.seg.slots.dropLast } }

/-- The sensors agree with the register (R149). -/
def State.sensorsAgree (s : State) : Bool := (List.range 8).all (fun n => s.sensed n == (s.slot n).isSome)

/-- The tin an index brought to slot 2 (R153). -/
def State.arriveSlot2 (s : State) : State := s.modTinAt 2 Tin.arriveDispense

/-- Each block that works a bay is told of its slot (R146, R158). -/
def State.tellBays (s : State) : State :=
  State.judgePrompt (State.judgeSlot7 (State.judgeCap (State.shakerLook (State.lidLook (State.arriveSlot2 (State.formWaiting s))))))

/-- The cell jams (R149): the jam flag is set and the state is JAMMED. -/
def State.jamCell (s : State) : State := State.enter { s with dck := { s.dck with jam := true } } .jammed

/-- The pull made at a completion (R177): the record enters slot 0, the pointer and the list follow, and the
intake is OPEN, reading a tin that stands at the gate. -/
def State.pullIn (s : State) : State := State.openIntake (s.afterPull.shift (some s.pulledRecord))

/-- The register after an index has completed: the departure, the shift and the pull (R146, R164, R177). The
waiting set of the tin that left slot 2 is emptied (R123). -/
def State.indexMoves (s : State) (d : Destination) (pull : Bool) : State :=
  let s1 := s.depart d
  let s2 := if pull then s1.pullIn else s1.shift none
  { s2 with seg := { s2.seg with index := .idle }, shots := { s2.shots with waiting := [] } }

/-! ## Rebuild and reconcile -/

/-- The register built from the slot sensors (R159). -/
def State.sensedSlots (s : State) : List (Option TinRecord) :=
  (List.range 8).map (fun n => if s.sensed n then some .unknown else none)

/-- The index state at a rebuild: off its position, the segment has an index to be finished (R159, R160). -/
def State.rebuiltIndex (s : State) : IndexState :=
  if s.pins.sample.offIndex then .stopped .chute false else .idle

/-- One slot of the reconcile (R158). -/
def State.reconcileSlot (s : State) (n : Nat) : State :=
  if s.sensed n then
    if (s.slot n).isNone then s.setSlot n (some .unknown) else s
  else
    match s.slot n with
    | none => s
    | some .unknown => s.setSlot n none
    | some (.known t) => (s.setSlot n none).report (t.reportMsg s.self .lost (some .jamReconcile))

/-- A CONFIRM in JAMMED reconciles the segment (R158, R178). The report of a cut-short pull is placed after those of
the slots (log 44). -/
def State.reconcile (s : State) : State :=
  let s1 := State.reconcilePull ((List.range 8).foldl State.reconcileSlot s)
  let s2 := { s1 with dck := { s1.dck with jam := false } }
  let s3 := if s2.dck.pause then s2.enter .paused else s2.enterByCap
  s3.tellBays

/-- The reports a RESTART makes for the tins of other origin in a list of places (R160). -/
def State.reportOthers (s : State) (l : List (Option TinRecord)) : State :=
  l.foldl (fun s r =>
    match r with
    | some (.known t) =>
      if t.id.cell = s.self then s else s.place (.tinReport (t.reportMsg s.self .rejected (some .unknownAfterRestart)))
    | _ => s) s

end Sys2Proof.Machine
end

