-- ==== Sys2Proof/Machine/Operands.lean ====
section
/-! DEFINITION. What every command goes through: the reset gate, the checks of R12 on the notice a command
carries, the refresh of the sender's entry (R21), the address test of R15; and the CELL STATUS this cell builds
(R19, R20). -/

namespace Sys2Proof.Machine

/-- The outcome of a command: while RESET_L is held low no block holds state and the command has no effect
(R201); otherwise its effect. -/
def State.act (s : State) (f : State → State) : Host.Outcome State Fault Refusal :=
  .next (if s.cfg.held then s else f s)

/-- The bus port takes frames: the cell holds a station number (R10, R201). -/
def State.listening (s : State) : Bool := s.cfg.station.isSome

/-! ## The sender's entry -/

/-- The entry of station `n` after a notice of it that refreshes it (R21). -/
def State.refreshed (s : State) (n : Nat) (m : Option CellStatusMsg) : State :=
  match s.peer n with
  | none => { s with stations := s.stations ++ [{ number := n, presence := .present, age := 0, status := m }] }
  | some _ => s.modPeer n (fun e => { e with presence := .present, age := 0, status := m })

/-- The repeat timers of a terminal's jobs start again (R71): the terminal was GONE or unknown and is heard. -/
def State.restartRepeats (s : State) (term : Nat) : State :=
  { s with book := s.book.map (fun e =>
      if e.id.term == term then { e with job := e.job.map (fun j => { j with repeatTime := 0 }) } else e) }

/-- A station's entry refreshed (R21), and a change of its state made known to the order book (R22, R65, R71). -/
def State.refresh (s : State) (n : Nat) (m : Option CellStatusMsg) : State :=
  let s' := s.refreshed n m
  match (s.peer n).map Station.presence with
  | none => s'.restartRepeats n
  | some .present => s'
  | some .stale => s'.retestBlocked
  | some .gone => (s'.restartRepeats n).retestBlocked

/-! ## Receiving -/

/-- A notice heard from station `src` whose kind is sent by `k`, with check 5 of R12 passed or not: it fails
R12 and is counted (R13), or it is taken by `take`, a terminal's entry being refreshed first (R14, R21). -/
def State.hear (s : State) (k : Sender) (src : Nat) (ok : Bool) (take : State → State) : State :=
  if !s.listening then s
  else if k.allows src && src != s.self && ok then take (if 16 ≤ src then s.refresh src none else s)
  else s.rxError

/-- A notice with a target station is addressed to this cell (R15). -/
def State.addressed (s : State) (target : Nat) : Bool := target == s.self || target == 31

/-- The counts of a CELL STATUS are in range and its station is its sender (R12, check 5). The counts meant are those
of the lists, which fix the body length; a restarted-status count above 8 passes (log 38). -/
def statusOk (src : Nat) (m : CellStatusMsg) : Bool :=
  m.cover.length ≤ 16 && m.attention.length ≤ 2 && m.station == src

/-- The counts of a CONSIGN are in range (R12, check 5; R17). -/
def consignOk (m : ConsignMsg) : Bool := m.dosed.length + m.deferral.length ≤ 12

/-! ## CELL STATUS -/

/-- The intake stands CLEARED (R171). -/
def Intake.isCleared : Intake → Bool
  | .cleared _ => true
  | .opened | .hold _ _ _ _ _ => false

/-- The intake is in HOLD (R171). -/
def Intake.inHold : Intake → Bool
  | .hold _ _ _ _ _ => true
  | .opened | .cleared _ => false

/-- The bay is in LID_WAIT (R187). -/
def LidBay.inWait : LidBay → Bool
  | .lidWait _ => true
  | .idle | .pressing _ | .pressStopped => false

/-- The size code a CELL STATUS carries with its lid-wait flag (R19). -/
def State.lidWaitSize (s : State) : Nat :=
  if s.lids.bay.inWait then ((s.tinAt 4).map Tin.size).getD 0 else 0

/-- The CELL STATUS as it would be built now (R19, R20). -/
def State.statusMsg (s : State) : CellStatusMsg :=
  { station := s.self
    state := s.dck.cell
    pause := s.dck.pause && s.inService
    unset := s.dck.unset && s.inService
    last := s.cfg.last
    restarted := s.xfr.restarted < restartedMax
    restartedCount := s.xfr.restarted
    cover := s.cover
    windows := s.windows
    pointer := s.xfr.pointer
    intakeHold := s.xfr.intake.inHold
    backlog := s.backlog
    lidWait := s.lids.bay.inWait
    lidWaitSize := s.lidWaitSize
    chuteFull := s.inService && s.seg.chute == chuteMax
    dispatchFull := s.inService && s.cfg.last && s.pins.dispatchFull
    attention := s.atn.records.map Captured.change
    overwrite := s.atn.overwrite
    rxErrors := s.bus.rxErrors
    sendDrops := s.bus.sendDrops }

/-- A CELL STATUS is built and placed, and the status period restarts (R20, R211). -/
def State.buildStatus (s : State) : State :=
  State.placeAgain { s with bus := { s.bus with period := 0 } }
    { notice := .cellStatus s.statusMsg, attempts := 0, sending := false, final := false,
      uids := s.atn.records.map Captured.uid, replaced := s.atn.replaced }

/-- The bus port builds statuses: the cell has left STARTING and holds a station number (R20, R201). -/
def State.buildsStatus (s : State) : Bool := s.listening && s.dck.cell != .starting

end Sys2Proof.Machine
end

