-- ==== Sys2Proof/Machine/Bays.lean ====
section
/-! DEFINITION. The meanings of the commands of the lid unit and the shake unit (chapter Lidding and Shaking). -/

namespace Sys2Proof.Machine

/-! ## Lid unit -/

/-- The press ends and the bay is IDLE (R190, R191). -/
def State.endPress (s : State) (f : Tin → Tin) : State := (s.modTinAt 4 f).setBay .idle

/-- PRESS_COMPLETE (R190): the tin is LIDDED. -/
def execPressComplete (s : State) : Host.Outcome State Fault Refusal :=
  s.act fun s =>
    match s.lids.bay with
    | .pressing _ => s.endPress (fun t => { t with st := .lidded })
    | .idle => s
    | .pressStopped => s
    | .lidWait _ => s

/-- PRESS_TIMEOUT (R191): the tin is REJECT with cause LID_FAULT. -/
def execPressTimeout (s : State) : Host.Outcome State Fault Refusal :=
  s.act fun s =>
    match s.lids.bay with
    | .pressing _ => s.endPress (fun t => t.rejected .lidFault)
    | .idle => s
    | .pressStopped => s
    | .lidWait _ => s

/-- A hatch input set (R186). -/
def State.setHatch (s : State) (magazine : Fin 5) (opened : Bool) : State :=
  { s with pins := { s.pins with hatch :=
      if opened then s.pins.hatch ||| (1#5 <<< magazine.val) else s.pins.hatch &&& ~~~(1#5 <<< magazine.val) } }

/-- HATCH_OPENED (R186): every layer of the magazine is removed. -/
def execHatchOpened (magazine : Fin 5) (s : State) : Host.Outcome State Fault Refusal :=
  s.act fun s => (s.setHatch magazine true).modMagazine (magazine.val + 1) (fun m => { m with layers := [] })

/-- HATCH_CLOSED (R186, R192): the waiting tin is judged afresh. -/
def execHatchClosed (magazine : Fin 5) (lidOnHead : Bool) (s : State) : Host.Outcome State Fault Refusal :=
  s.act fun s => ((s.latchLid lidOnHead).setHatch magazine false).lidRejudge (magazine.val + 1)

/-- A LID LOAD taken by the lid unit (R184, R185), its push followed by the judging of R192. -/
def State.takeLidLoad (s : State) (size lid count : Nat) : State :=
  let s1 := s.loadLids size lid count
  if (s.lidLoadCode size lid count).isNone then s1.lidRejudge size else s1

/-- LID_LOAD (R14, R15, R184): from a terminal or a cell. -/
def execLidLoad (src target size lid count : Nat) (lidOnHead : Bool) (s : State) : Host.Outcome State Fault Refusal :=
  s.act fun s => (s.latchLid lidOnHead).hear .either src true fun s =>
    if s.addressed target && s.inService then s.takeLidLoad size lid count else s

/-- LID_LOAD_ENTRY (R184, R208): handed to the lid unit, and a LID LOAD placed, taken or refused. -/
def execLidLoadEntry (size lid count : Nat) (lidOnHead : Bool) (s : State) : Host.Outcome State Fault Refusal :=
  s.act fun s =>
    let s := s.latchLid lidOnHead
    if s.inService then (s.takeLidLoad size lid count).place (.lidLoad s.self size lid count) else s

/-! ## Shake unit -/

/-- SKTIN_L set. -/
def State.setShakerTin (s : State) (low : Bool) : State :=
  { s with pins := { s.pins with sample := { s.pins.sample with shakerTin := low } } }

/-- The slot-`n` sensor shows a tin. -/
def State.setSensed (s : State) (n : Nat) : State :=
  { s with pins := { s.pins with sample := { s.pins.sample with slots := s.pins.sample.slots ||| (1#8 <<< n) } } }

/-- A tin drawn in is SHAKING (R195). -/
def shakingRecord : TinRecord → TinRecord
  | .known t => .known { t with st := .shaking }
  | .unknown => .unknown

/-- TRANSFER_IN_COMPLETE (R195): the record moves from slot 6 into the shaker, which is CLAMPING. The conditions of
R196 are judged there too, and a run that they allow begins at once (log 52). -/
def execTransferInComplete (s : State) : Host.Outcome State Fault Refusal :=
  s.act fun s =>
    let s := s.setShakerTin true
    match s.shaker.st with
    | .loading =>
      State.shakerLook { s.setSlot 6 none with shaker :=
        { st := .clamping, tin := (s.slot 6).map shakingRecord, left := 0, resume := 0, halted := false } }
    | .empty => s
    | .clamping => s
    | .running => s
    | .interrupted => s
    | .unclamping => s
    | .returning => s

def State.setClamp (s : State) (low : Bool) : State := { s with pins := { s.pins with clamp := low } }

def State.setDoor (s : State) (low : Bool) : State := { s with pins := { s.pins with shakerDoor := low } }

/-- CLAMP_CONFIRMED (R196, R197). -/
def execClampConfirmed (s : State) : Host.Outcome State Fault Refusal :=
  s.act fun s => (s.setClamp true).shakerLook

/-- A RUNNING shake is interrupted (R197); in any other state the unit looks at its conditions. -/
def State.interruptOrLook (s : State) : State :=
  if s.shaker.st == .running then s.modShaker Shaker.interrupt else s.shakerLook

/-- CLAMP_CONFIRMATION_LOST (R197, R199). -/
def execClampConfirmationLost (s : State) : Host.Outcome State Fault Refusal :=
  s.act fun s => (s.setClamp false).interruptOrLook

/-- DOOR_OPENED (R197). -/
def execDoorOpened (s : State) : Host.Outcome State Fault Refusal :=
  s.act fun s => (s.setDoor true).interruptOrLook

/-- DOOR_CLOSED (R196, R197). -/
def execDoorClosed (s : State) : Host.Outcome State Fault Refusal :=
  s.act fun s => (s.setDoor false).shakerLook

/-- SHAKE_RUN_END (R196, R199): the run is over, the clamp is commanded open. -/
def execShakeRunEnd (s : State) : Host.Outcome State Fault Refusal :=
  s.act fun s =>
    if s.shaker.st == .running then (s.modShaker (fun k => { k with st := .unclamping, left := 0, resume := 0 })).shakerLook
    else s

/-- A tin returned (R199): a SHAKING tin is DONE. -/
def returnedRecord : TinRecord → TinRecord
  | .known t => .known (if t.st = .shaking then { t with st := .done } else t)
  | .unknown => .unknown

/-- The TIN REPORT DONE of a SHAKING tin (R199). -/
def State.reportDone (s : State) (r : Option TinRecord) : State :=
  match knownTin r with
  | none => s
  | some t => if t.st = .shaking then s.report (t.reportMsg s.self .done none) else s

/-- RETURN_COMPLETE (R199). -/
def execReturnComplete (s : State) : Host.Outcome State Fault Refusal :=
  s.act fun s =>
    let s := s.setSensed 7
    match s.shaker.st with
    | .returning =>
      State.shakerLook (State.reportDone
        { s.setSlot 7 (s.shaker.tin.map returnedRecord) with shaker :=
          { st := .empty, tin := none, left := 0, resume := 0, halted := false } } s.shaker.tin)
    | .empty => s
    | .loading => s
    | .clamping => s
    | .running => s
    | .interrupted => s
    | .unclamping => s

end Sys2Proof.Machine
end

