-- ==== Sys2Proof/Machine/BusPort.lean ====
section
/-! DEFINITION. The meanings of the commands of the bus port (chapter The Cell Bus and Its Notices): the quiet gap,
the three ends of a frame, a frame discarded, the status period. -/

namespace Sys2Proof.Machine

def State.setQueue (s : State) (l : List Queued) : State := { s with bus := { s.bus with queue := l } }

/-- A notice is in transmission (R7). -/
def State.inTransmission (s : State) : Bool := s.bus.queue.any Queued.sending

/-- The queue with its head in transmission. -/
def sendHead : List Queued → List Queued
  | [] => []
  | q :: l => { q with sending := true } :: l

/-- QUIET_GAP (R2, R7, R10): the head of the queue, chosen afresh, goes into transmission. -/
def execQuietGap (s : State) : Host.Outcome State Fault Refusal :=
  s.act fun s => if s.inTransmission || s.dck.cell == .starting then s else s.setQueue (sendHead s.bus.queue)

/-- A notice that has lost arbitration is queued as before; one that a RESTART found in transmission is not sent
again (R10). -/
def Queued.lose (q : Queued) : Option Queued :=
  if q.sending then (if q.final then none else some { q with sending := false }) else some q

/-- ARBITRATION_LOST (R3): the notice stays at the head, and neither an attempt nor a counter is counted. -/
def execArbitrationLost (s : State) : Host.Outcome State Fault Refusal :=
  s.act fun s => s.setQueue (s.bus.queue.filterMap Queued.lose)

/-- An abandoned notice stays with one attempt more; it leaves at 8 attempts (R4), and after a RESTART (R10). -/
def Queued.abandon (q : Queued) : Option Queued :=
  if q.sending then
    (if q.final || attemptMax ≤ q.attempts + 1 then none else some { q with sending := false, attempts := q.attempts + 1 })
  else some q

/-- The notice in transmission reaches its last attempt. -/
def Queued.exhausted (q : Queued) : Bool := q.sending && attemptMax ≤ q.attempts + 1

/-- FRAME_ABANDONED (R4). -/
def execFrameAbandoned (s : State) : Host.Outcome State Fault Refusal :=
  s.act fun s =>
    { s with bus := { s.bus with
      queue := s.bus.queue.filterMap Queued.abandon
      sendDrops := if s.bus.queue.any Queued.exhausted then bump s.bus.sendDrops else s.bus.sendDrops } }

/-- The attention capture removes what a completed status carried (R211). -/
def Attention.handOver (a : Attention) (uids : List Nat) (carried : Bool) (replaced : Nat) : Attention :=
  { a with
    records := a.records.filter (fun r => !uids.contains r.uid)
    overwrite := a.overwrite && !(carried && a.replaced == replaced) }

/-- The block that placed a completed notice is told (R5, R20, R165, R180, R211). A CONSIGN is matched to its record by
sequence alone (log 42). -/
def State.told (s : State) (q : Queued) : State :=
  match q.notice with
  | .cellStatus m =>
    { s with
      atn := s.atn.handOver q.uids m.overwrite q.replaced
      xfr := { s.xfr with restarted := if m.restarted then min restartedMax (s.xfr.restarted + 1) else s.xfr.restarted } }
  | .consign m => s.restartRepeat m.seq
  | .jobStatus _ | .offer _ _ | .claim _ _ _ | .withdraw _ | .tinReport _ | .stockReply _ | .lidLoad _ _ _ _ => s

/-- FRAME_COMPLETE (R5): the notice in transmission leaves the queue, and its block is told. -/
def execFrameComplete (s : State) : Host.Outcome State Fault Refusal :=
  s.act fun s =>
    match s.bus.queue.find? Queued.sending with
    | none => s
    | some q => (s.setQueue (s.bus.queue.filter (fun q => !q.sending))).told q

/-- FRAME_DISCARDED (R11, R12, R13): the receive-error counter rises. -/
def execFrameDiscarded (f : RawFrame) (s : State) : Host.Outcome State Fault Refusal :=
  s.act fun s => if s.listening && RawFrame.discarded f s.self then s.rxError else s

/-- STATUS_PERIOD (R20): a CELL STATUS is built and placed, and the period restarts. -/
def execStatusPeriod (s : State) : Host.Outcome State Fault Refusal :=
  s.act fun s => if s.buildsStatus then s.buildStatus else s

end Sys2Proof.Machine
end

