-- ==== Sys2Proof/Machine/Canisters.lean ====
section
/-! DEFINITION. The meanings of the commands of the canister table (chapter Canisters and Stirring): STOCK with its
four actions, STOCK REPLY, the end of a stirring run. -/

namespace Sys2Proof.Machine

/-- A STOCK heard (R12, R14, R15): taken by `take` where it is addressed to this cell and the canister table
takes any (R97), the order book being told of what changed (R101). -/
def State.stock (s : State) (src target : Nat) (take : State → State) : State :=
  s.hear .terminal src true fun s =>
    if s.addressed target && s.inService then (take s).tellCover s.cover else s

/-- A canister's stock replaced (R103, R104). -/
def State.setStock (s : State) (n : Nat) (k : Stock) : State := s.modCanister n (fun c => { c with stock := some k })

/-- The stirrer is made due where the batch code changed (R114). -/
def State.newBatch (s : State) (n : Nat) (old : Stock) (batch : Nat) : State :=
  if old.batch = batch then s else s.stirDue n

/-- A REFILL that passes R102 (R103). -/
def State.refill (s : State) (n : Nat) (cfg : CanisterCfg) (k : Stock) (volume strength batch : Nat) : State :=
  let asked := volume * 1000
  let accepted := min asked (cfg.capacity * 1000 - k.level)
  let s1 := (s.setStock n { level := k.level + accepted, strength := blend k.strength k.level strength accepted, batch := batch }).newBatch n k batch
  if accepted = asked then s1.stockReply n .refill .accepted none (s1.levelClass n) 0
  else s1.stockReply n .refill .clamped none (s1.levelClass n) (ceilDiv (asked - accepted) 1000)

/-- A REFILL tested and taken (R102, R103). -/
def State.takeRefill (s : State) (n volume strength batch : Nat) : State :=
  match s.stockTarget n with
  | .error c => s.stockRefuse n .refill c
  | .ok cfg =>
    if strengthBad strength then s.stockRefuse n .refill .range
    else if volume = 0 then s.stockRefuse n .refill .range
    else
      match (s.canister n).stock with
      | none => s.stockRefuse n .refill .levelUnknown
      | some k => s.refill n cfg k volume strength batch

/-- STOCK_REFILL (R103). -/
def execStockRefill (src target canister volume strength batch : Nat) (s : State) : Host.Outcome State Fault Refusal :=
  s.act fun s => s.stock src target fun s => s.takeRefill canister volume strength batch

/-- A SET LEVEL that passes R102 (R104): a level below the dead volume is set to it. -/
def State.setLevel (s : State) (n : Nat) (cfg : CanisterCfg) (level strength batch : Nat) : State :=
  let s1 := s.setStock n { level := max level cfg.dead * 1000, strength := strength, batch := batch }
  let s2 :=
    match (s.canister n).stock with
    | none => s1
    | some k => s1.newBatch n k batch
  s2.stockReply n .setLevel .accepted none (s2.levelClass n) 0

/-- A SET LEVEL tested and taken (R102, R104). -/
def State.takeSetLevel (s : State) (n level strength batch : Nat) : State :=
  match s.stockTarget n with
  | .error c => s.stockRefuse n .setLevel c
  | .ok cfg =>
    if strengthBad strength then s.stockRefuse n .setLevel .range
    else if cfg.capacity < level then s.stockRefuse n .setLevel .range
    else if 0 < (s.canister n).reserved then s.stockRefuse n .setLevel .busy
    else s.setLevel n cfg level strength batch

/-- STOCK_SET_LEVEL (R104). -/
def execStockSetLevel (src target canister level strength batch : Nat) (s : State) : Host.Outcome State Fault Refusal :=
  s.act fun s => s.stock src target fun s => s.takeSetLevel canister level strength batch

/-- A canister taken out of use, at once or at the end of the hold on it (R105). -/
def Canister.takeOut (c : Canister) (held : Bool) : Canister :=
  if c.lock || c.pendingLock then c
  else if held then { c with pendingLock := true }
  else { c with lock := true }

/-- A LOCK tested and taken (R102, R105). -/
def State.takeLock (s : State) (n : Nat) : State :=
  match s.stockTarget n with
  | .error c => s.stockRefuse n .lock c
  | .ok _ =>
    let s1 := s.modCanister n (fun c => c.takeOut (s.canisterHeld n))
    s1.stockReply n .lock .accepted none (s1.levelClass n) 0

/-- STOCK_LOCK (R105). -/
def execStockLock (src target canister : Nat) (s : State) : Host.Outcome State Fault Refusal :=
  s.act fun s => s.stock src target fun s => s.takeLock canister

/-- A LOCKED pump cleared (R138): its content is re-derived, and its valve keeps its position. -/
def Pump.clearLock (p : Pump) (cfg : PumpCfg) (g : Gray) : Pump :=
  if p.st == .locked then { p with st := .idle, content := rederive cfg g } else p

/-- A RELEASE tested and taken (R102, R106). -/
def State.takeRelease (s : State) (n : Nat) (gray : Gray) : State :=
  match s.stockTarget n with
  | .error c => s.stockRefuse n .release c
  | .ok _ =>
    let s1 := (s.modCanister n (fun c => { c with lock := false, pendingLock := false })).modPump n
      (fun p => p.clearLock (s.pumpCfg n) gray)
    s1.stockReply n .release .accepted none (s1.levelClass n) 0

/-- STOCK_RELEASE (R106). `gray` is the reading of the released pump's encoder (R138). -/
def execStockRelease (src target canister : Nat) (gray : Gray) (s : State) : Host.Outcome State Fault Refusal :=
  s.act fun s => s.stock src target fun s => (s.latchGray canister gray).takeRelease canister gray

/-- STOCK_REPLY (R14): routed to no block, and from a cell, so that no entry is refreshed (R21). -/
def execStockReply (src : Nat) (_m : StockReplyMsg) (s : State) : Host.Outcome State Fault Refusal :=
  s.act fun s => s.hear .cell src true fun s => s

/-- STIRRING_RUN_END (R110). -/
def execStirringRunEnd (canister : Fin 16) (s : State) : Host.Outcome State Fault Refusal :=
  s.act fun s =>
    match s.fitted canister with
    | none => s
    | some cfg =>
      if (s.canister canister).stir.st == .running then
        s.modStir canister (fun _ =>
          { st := .idle, due := s.dck.moment.add (s.effInterval cfg), flag := false, left := 0 })
      else s

end Sys2Proof.Machine
end

