-- ==== Sys2Proof/Machine/Clock.lean ====
section
/-! DEFINITION. The meanings of the commands of the day clock (chapter The Working Day). -/

namespace Sys2Proof.Machine

/-- A cap in motion (R32). -/
def CapPos.moving : CapPos → Bool
  | .opening | .closing => true
  | .opened | .closed | .stopped => false

/-- The window judged afresh (R28): an opening pulls due moments in (R113) and moves NIGHT to RUN, a closing
moves RUN to NIGHT (R30), and CAPPED judges its cap (R33). `was` is the membership before. -/
def State.judgeWindow (s : State) (was : Bool) : State :=
  let s1 := if !was && s.inside then s.windowOpened else s
  match s.dck.cell with
  | .run => if was && !s.inside then s1.enter .night else s1
  | .night => if !was && s.inside then s1.enter .run else s1
  | .capped => s1.judgeCap
  | .starting | .configFault | .paused | .halted | .jammed => s1

/-- The moment set, and the clock-unset flag cleared (R25, step 1). -/
def State.setMoment (s : State) (m : Moment) : State :=
  { s with dck := { s.dck with moment := m, sub := 0, unset := false } }

/-- The stirrers told of a setting from `old` (R25, step 2; R107, R112). A setting is backward where R27 finds the old
moment later with the old as the first of the two, so that one by exactly 32,768 days counts as forward (log 48). -/
def State.settingStirrers (s : State) (old : Moment) : State :=
  State.dueTestAll (if Moment.later old s.dck.moment then s.settingBack else s)

/-- A CLOCK taken by the day clock (R25). -/
def State.takeClock (s : State) (m : Moment) : State :=
  ((s.setMoment m).settingStirrers s.dck.moment).judgeWindow s.inside

/-- CLOCK (R25): ignored and counted where a field is out of range. -/
def execClock (src : Nat) (time : HMS) (day : Nat) (x : Sample) (s : State) : Host.Outcome State Fault Refusal :=
  s.act fun s => (s.latch x).hear .terminal src true fun s =>
    if timeOk time then s.takeClock { day := day, sec := secsOf time } else s.rxError

/-- A PAUSE taken by the day clock (R34). -/
def State.takePause (s : State) : State :=
  let s1 := { s with dck := { s.dck with pause := true } }
  match s.dck.cell with
  | .run | .night | .capped => s1.enter .paused
  | .starting | .configFault | .paused | .halted | .jammed => s1

/-- PAUSE (R34). -/
def execPause (src : Nat) (s : State) : Host.Outcome State Fault Refusal :=
  s.act fun s => s.hear .terminal src true State.takePause

/-- A RESUME taken by the day clock (R35). -/
def State.takeResume (s : State) : State :=
  let s1 := { s with dck := { s.dck with pause := false } }
  match s.dck.cell with
  | .paused => s1.enterByCap
  | .starting | .configFault | .run | .night | .capped | .halted | .jammed => s1

/-- RESUME (R35). -/
def execResume (src : Nat) (x : Sample) (s : State) : Host.Outcome State Fault Refusal :=
  s.act fun s => (s.latch x).hear .terminal src true State.takeResume

/-- CLOCK_ADVANCE (R24, R107, R28). -/
def execClockAdvance (x : Sample) (s : State) : Host.Outcome State Fault Refusal :=
  s.act fun s =>
    let s := s.latch x
    (State.dueTestAll { s with dck := { s.dck with moment := s.dck.moment.add 1, sub := 0 } }).judgeWindow s.inside

/-- IDLE_TIMEOUT (R31). -/
def execIdleTimeout (s : State) : Host.Outcome State Fault Refusal :=
  s.act fun s => if s.dck.cell == .night && s.idleTest then s.capClose.enter .capped else s

/-- The cap reaches OPEN (R32, R33): a kept close starts at once; otherwise CAPPED is left for the clock-given
state. -/
def State.capOpened (s : State) : State :=
  match s.dck.kept with
  | some .closed => { s with dck := { s.dck with cap := .closing, kept := none, capTime := 0 } }
  | some .opened | none =>
    let s1 := { s with dck := { s.dck with cap := .opened, kept := none, capTime := 0 } }
    if s.dck.cell == .capped then s1.enter s1.clockGiven else s1

/-- The cap reaches CLOSED (R32): a kept open starts at once. -/
def State.capClosed (s : State) : State :=
  match s.dck.kept with
  | some .opened => { s with dck := { s.dck with cap := .opening, kept := none, capTime := 0 } }
  | some .closed | none => { s with dck := { s.dck with cap := .closed, kept := none, capTime := 0 } }

/-- CAP_MOVE_END (R32, R33). -/
def execCapMoveEnd (x : Sample) (s : State) : Host.Outcome State Fault Refusal :=
  s.act fun s =>
    match s.dck.cap with
    | .opening => (s.latch x).capOpened
    | .closing => (s.latch x).capClosed
    | .opened | .closed | .stopped => s

/-! ## Emergency stop (R36) -/

/-- A stopped index waits to be finished (R148). -/
def IndexState.stop : IndexState → IndexState
  | .running d p _ => .stopped d p
  | .idle => .idle
  | .stopped d p => .stopped d p

/-- A stopped press is begun again later (R193). -/
def LidBay.stop : LidBay → LidBay
  | .pressing _ => .pressStopped
  | .idle => .idle
  | .pressStopped => .pressStopped
  | .lidWait m => .lidWait m

/-- A moving cap stops (R32). -/
def DayClock.stopCap (d : DayClock) : DayClock :=
  if CapPos.moving d.cap then { d with cap := .stopped, kept := none, capTime := 0 } else d

/-- Every drive but the pumps stopped (table of R36). -/
def State.stopDrives (s : State) : State :=
  State.stopStirrers
    { s with
      seg := { s.seg with index := s.seg.index.stop }
      lids := { s.lids with bay := s.lids.bay.stop }
      shaker := s.shaker.estop
      dck := s.dck.stopCap }

/-- The stop taken: the halt flag is set, the cell is HALTED, and every block stops its motion (R36, R135). -/
def State.takeStop (s : State) : State :=
  State.tellCover
    ((State.enter { s with dck := { s.dck with halt := true } } .halted).stopEntries.settleSlot2.stopDrives) s.cover

/-- EMERGENCY_STOP (R36). -/
def execEmergencyStop (x : Sample) (s : State) : Host.Outcome State Fault Refusal :=
  s.act fun s =>
    let s := { s.latch x with pins := { (s.latch x).pins with estop := true } }
    match s.dck.cell with
    | .run | .night | .capped | .paused | .jammed => s.takeStop
    | .starting | .configFault | .halted => s

/-- ESTOP_RELEASED (R37, R208): the panel's prompt follows from the pin (Machine/Outputs.lean). -/
def execEstopReleased (s : State) : Host.Outcome State Fault Refusal :=
  s.act fun s => { s with pins := { s.pins with estop := false } }

/-- A CONFIRM in HALTED (R37). -/
def State.leaveHalt (s : State) : State :=
  if s.pins.estop then s
  else
    let s1 := { s with dck := { s.dck with halt := false } }
    if s.dck.jam then s1.enter .jammed
    else if s.dck.pause then s1.enter .paused
    else s1.enterByCap

/-- CONFIRM (R207): to the day clock in HALTED, to the segment tracker in JAMMED, else to the panel. -/
def execConfirm (x : Sample) (s : State) : Host.Outcome State Fault Refusal :=
  s.act fun s =>
    let s := s.latch x
    match s.dck.cell with
    | .halted => s.leaveHalt
    | .jammed => s.reconcile
    | .run | .night | .capped | .paused => { s with panel := { s.panel with message := none } }
    | .starting | .configFault => s

end Sys2Proof.Machine
end

