-- ==== Sys2Proof/Machine/Stations.lean ====
section
/-! DEFINITION. The meanings of the commands of the station table (R21 to R23, R179) with what a neighbour's CELL
STATUS does in the transfer unit (R165 to R167, R181, R182). -/

namespace Sys2Proof.Machine

/-- The neighbour-restarted event (R23), from the neighbour's status before, if its entry held one. -/
def restartedEvent (before : Option CellStatusMsg) (m : CellStatusMsg) : Bool :=
  m.restarted &&
    (match before with
     | none => true
     | some b => !b.restarted || m.restartedCount < b.restartedCount)

/-- The intake-hold flag is newly set (R166). -/
def newHold (before : Option CellStatusMsg) (m : CellStatusMsg) : Bool :=
  m.intakeHold &&
    (match before with
     | none => true
     | some b => !b.intakeHold)

/-- The downstream entry returns from GONE or is created (R165). -/
def returned (before : Option Station) : Bool :=
  match before with
  | none => true
  | some e => e.presence == .gone

/-- The transfer unit is told of the upstream neighbour's status (R181). -/
def State.heardUpstream (s : State) (before : Option Station) (m : CellStatusMsg) : State :=
  if restartedEvent (before.bind Station.status) m then s.upstreamRestarted else s

/-- The transfer unit is told of the downstream neighbour's status: the event first (R182), then the bursts
(R165, R166), then the pointer (R167) (log 12). -/
def State.heardDownstream (s : State) (before : Option Station) (m : CellStatusMsg) : State :=
  let s1 := if restartedEvent (before.bind Station.status) m then s.downstreamRestarted else s
  let s2 := if returned before || newHold (before.bind Station.status) m then s1.consignBurst else s1
  s2.retire m.pointer

/-- A CELL STATUS applied (R21). -/
def State.takeStatus (s : State) (src : Nat) (m : CellStatusMsg) : State :=
  let s1 := (s.refresh src (some m)).retestBlocked
  if src + 1 = s.self then s1.heardUpstream (s.peer src) m
  else if src = s.downstream then s1.heardDownstream (s.peer src) m
  else s1

/-- CELL_STATUS (R21). `tag` is the reading made if the intake becomes OPEN (R172). -/
def execCellStatus (src : Nat) (m : CellStatusMsg) (tag : Option TinId) (s : State) : Host.Outcome State Fault Refusal :=
  s.act fun s => (s.latchTag tag).hear .cell src (statusOk src m) fun s => s.takeStatus src m

/-- The entry of station `n` stands in state `p`. -/
def State.stands (s : State) (n : Nat) (p : Presence) : Bool := (s.peer n).map Station.presence == some p

/-- ENTRY_STALE (R22): told to the order book (R65). -/
def execEntryStale (station : Nat) (s : State) : Host.Outcome State Fault Refusal :=
  s.act fun s =>
    if s.stands station .present then (s.modPeer station (fun e => { e with presence := .stale })).retestBlocked else s

/-- ENTRY_GONE (R22): the repeats toward a downstream neighbour stop by `State.repeatsOn` (R165). -/
def execEntryGone (station : Nat) (s : State) : Host.Outcome State Fault Refusal :=
  s.act fun s =>
    if s.stands station .stale then (s.modPeer station (fun e => { e with presence := .gone })).retestBlocked else s

/-- The sequence of the item against which the intake stands CLEARED. -/
def Intake.clearedSeq : Intake → Option Nat
  | .cleared d => Disposition.seq d
  | .opened | .hold _ _ _ _ _ => none

/-- The expected list of a freed upstream neighbour: emptied but for the item the intake is CLEARED against
(R179). -/
def State.upstreamFreed (s : State) : State :=
  { s with xfr := { s.xfr with
    expected := s.xfr.expected.filter (fun e => s.xfr.intake.clearedSeq == some e.msg.seq) } }

/-- ENTRY_FREED (R22, R179). -/
def execEntryFreed (station : Nat) (s : State) : Host.Outcome State Fault Refusal :=
  s.act fun s =>
    if s.stands station .gone then
      let s1 := State.retestBlocked { s with stations := s.stations.filter (fun e => e.number != station) }
      if station + 1 = s.self then s1.upstreamFreed else s1
    else s

end Sys2Proof.Machine
end

