-- ==== Sys2Proof/Machine/Consignment.lean ====
section
/-! DEFINITION. The meanings of the commands of the transfer unit (chapter Consignment Between Cells): CONSIGN, its
repeats, and the tin at the gate. -/

namespace Sys2Proof.Machine

/-- The pull of an index under way or stopped counts on the tin at the gate (R176, R178; log 21). -/
def State.pullUnderWay (s : State) : Bool :=
  match s.seg.index with
  | .running _ pull _ => pull
  | .stopped _ pull => pull
  | .idle => false

/-! ## CONSIGN -/

/-- A CONSIGN that is discarded (R168, log 19). -/
def State.discardsConsign (s : State) (m : ConsignMsg) : Bool :=
  m.tin.cell < 1 || 12 < m.tin.cell || m.tin.serial == 0 || m.seq == 0 || !isAfter m.seq s.xfr.pointer ||
    3 < stepCount s.xfr.pointer m.seq

/-- A NORMAL disposition against a held item that a marked one replaces is MARKED (R169, log 46). -/
def Intake.remark (i : Intake) (m : ConsignMsg) : Intake :=
  if i == .cleared (.normal m.seq) && (consignMark m).isSome then .cleared (.marked m.seq) else i

/-- The held item of the sequence replaced (R168): an intake CLEARED against it is OPEN again, but for a cut-short
pull, which stays CLEARED (R178) with the mark of the new item. -/
def State.replaceItem (s : State) (m : ConsignMsg) : State :=
  let s1 := { s with xfr := { s.xfr with
    expected := s.xfr.expected.map (fun e => if e.msg.seq == m.seq then { msg := m, mark := consignMark m } else e) } }
  if s.xfr.cutShort then s1.setIntake (s.xfr.intake.remark m)
  else if s.xfr.intake.clearedSeq == some m.seq then s1.openIntake
  else s1

/-- A new item added in sequence order (R168, R169). The cell is not idle (R31). -/
def State.addItem (s : State) (m : ConsignMsg) : State :=
  State.wake { s with xfr := { s.xfr with
    expected := insertExpected s.xfr.pointer { msg := m, mark := consignMark m } s.xfr.expected } }

/-- A CONSIGN routed to the transfer unit (R168). -/
def State.takeConsign (s : State) (m : ConsignMsg) : State :=
  if s.discardsConsign m then s
  else
    match s.item m.seq with
    | none => s.addItem m
    | some e => if e.msg.tin = m.tin then s else s.replaceItem m

/-- CONSIGN (R14, R168): taken from the upstream neighbour alone. `tag` is the reading made if the intake becomes
OPEN. -/
def execConsign (src : Nat) (m : ConsignMsg) (tag : Option TinId) (s : State) : Host.Outcome State Fault Refusal :=
  s.act fun s => (s.latchTag tag).hear .cell src (consignOk m) fun s =>
    if src + 1 = s.self && s.inService then s.takeConsign m else s

/-- CONSIGN_REPEAT (R165): made while the downstream entry is PRESENT or STALE. -/
def execConsignRepeat (seq : Nat) (s : State) : Host.Outcome State Fault Refusal :=
  s.act fun s =>
    match s.xfr.inTransit.find? (fun r => r.seq == seq) with
    | none => s
    | some r => if s.repeatsOn then s.repeatConsign r else s

/-! ## The gate -/

/-- LHEAD_L set. -/
def State.setLaneHead (s : State) (low : Bool) : State :=
  { s with pins := { s.pins with sample := { s.pins.sample with laneHead := low } } }

/-- TIN_ARRIVAL (R172): with the intake OPEN, one read is made. -/
def execTinArrival (tag : Option TinId) (s : State) : Host.Outcome State Fault Refusal :=
  s.act fun s =>
    let s := (s.latchTag tag).setLaneHead true
    match s.xfr.intake with
    | .opened => s.firstRead
    | .cleared _ => s
    | .hold _ _ _ _ _ => s

/-- A rise of LHEAD_L is not taken: a pull is cut short (R178), or an index carries the CLEARED tin in (log 21). -/
def State.keepsGate (s : State) : Bool := s.xfr.cutShort || (s.xfr.intake.isCleared && s.pullUnderWay)

/-- TIN_LIFTED_OFF (R173, R176, R178): the intake is OPEN again. -/
def execTinLiftedOff (s : State) : Host.Outcome State Fault Refusal :=
  s.act fun s =>
    let s := s.setLaneHead false
    if s.keepsGate then s else s.setIntake .opened

/-- A setting of the image, its default for 0 (R171). -/
def orDefault (n d : Nat) : Nat := if n = 0 then d else n

/-- The good-read threshold K (R171). -/
def State.goodReads (s : State) : Nat := orDefault ((s.cfg.image.map Image.goodReads).getD 0) 3

/-- The hold period in s (R171). -/
def State.holdPeriod (s : State) : Nat := orDefault ((s.cfg.image.map Image.holdPeriod).getD 0) 5

/-- The attempt limit A (R171). -/
def State.attemptLimit (s : State) : Nat := orDefault ((s.cfg.image.map Image.attempts).getD 0) 4

/-- The item a read is good for: the one at pointer + 1, if it carries the id read (R173). -/
def State.goodItem (s : State) (tag : Option TinId) : Option Expected :=
  (s.ahead 1).filter (fun e => tag == some e.msg.tin)

/-- A read in HOLD judged (R173). -/
def State.judgeRead (s : State) (tag : Option TinId) (good attempt time : Nat) (last : Option TinId) : State :=
  match s.goodItem tag with
  | some e => if s.goodReads ≤ good + 1 then s.setIntake (clearedBy e) else s.setIntake (.hold (good + 1) attempt time 0 tag)
  | none => s.setIntake (.hold 0 attempt time 0 (tag.or last))

/-- HOLD_READ (R173). -/
def execHoldRead (tag : Option TinId) (s : State) : Host.Outcome State Fault Refusal :=
  s.act fun s =>
    match s.xfr.intake with
    | .hold good attempt time _ last => (s.latchTag tag).judgeRead tag good attempt time last
    | .opened => s
    | .cleared _ => s

/-- HOLD_PERIOD_END (R174, R175): the next attempt, or the resolution after the last. -/
def execHoldPeriodEnd (s : State) : Host.Outcome State Fault Refusal :=
  s.act fun s =>
    match s.xfr.intake with
    | .hold good attempt _ sinceRead last =>
      if attempt < s.attemptLimit then s.setIntake (.hold good (attempt + 1) 0 sinceRead last) else s.resolveHold last
    | .opened => s
    | .cleared _ => s

end Sys2Proof.Machine
end

