-- ==== Sys2Proof/Machine/Orders.lean ====
section
/-! DEFINITION. The meanings of the commands of the order book (chapter Orders, Offers and Claims): the notices of
order traffic, TIN REPORT, its timers and its load gate. -/

namespace Sys2Proof.Machine

/-- A notice of order traffic reaches an order book that holds entries: none in STARTING or CONFIG_FAULT (R10,
R51). -/
def State.booked (s : State) (f : State → State) : State := if s.inService then f s else s

/-! ## ORDER -/

/-- The states an entry may be removed from to make room (R52). -/
def OrderState.evictable : OrderState → Bool
  | .placedElsewhere | .unplaced | .invalid | .cancelled => true
  | .new | .waitingClaim | .ownPending | .ownActive | .ownBlocked | .ownComplete | .ownFailed | .ownCancelling => false

/-- The book without its earliest booked entry that may be removed (R52). -/
def evict : List OrderEntry → Option (List OrderEntry)
  | [] => none
  | e :: l => if OrderState.evictable e.st then some l else (evict l).map (e :: ·)

/-- The book with room for one more entry (R52). -/
def makeRoom (l : List OrderEntry) : Option (List OrderEntry) := if l.length < bookMax then some l else evict l

/-- A new entry (R51, R52). An ORDER of bad length leaves its order id alone (R53). -/
def newEntry (m : OrderMsg) (now : Nat) : OrderEntry :=
  { id := m.id, bookedAt := now, st := .new, order := if m.lengthOk then some m else none, perTin := 0, reason := none,
    offers := [], ownEst := none, recorded := none, heard := none, timer := 0, retention := none, job := none }

/-- The JOB STATUS that answers an INVALID order (R54). -/
def invalidMsg (e : OrderEntry) : JobStatusMsg :=
  { id := e.id, claimant := 0, state := .invalid, ordered := e.tinCount, done := 0, rejected := 0, lost := 0, remakes := 0,
    duplicate := false, reason := e.reason }

/-- The answer to an INVALID order, where this cell gives it (R54). -/
def State.answerInvalid (s : State) (e : OrderEntry) : State :=
  if s.answersInvalid then s.place (.jobStatus (invalidMsg e)) else s

/-- This cell offers for a valid order (R57). -/
def State.offers (s : State) (m : OrderMsg) : Bool :=
  s.running && s.eligible m && s.openJobs + s.pendingOffers < jobMax

def State.pushEntry (s : State) (e : OrderEntry) : State := { s with book := s.book ++ [e] }

/-- A new ORDER validated, and held INVALID, or NEW with or without an offer (R53, R54, R56, R57). -/
def State.bookNew (s : State) (m : OrderMsg) : State :=
  match validate m with
  | some r =>
    let e := { newEntry m s.now with st := .invalid, reason := some r, retention := some 0 }
    (s.pushEntry e).answerInvalid e
  | none =>
    let e := { newEntry m s.now with perTin := perTinOf m }
    if s.offers m then
      let est := s.estimate m.count (perTinOf m)
      (s.pushEntry { e with ownEst := some est, offers := [{ station := s.self, est := est }] }).place (.offer m.id est)
    else s.pushEntry e

/-- An ORDER routed to the order book (R52). -/
def State.takeOrder (s : State) (m : OrderMsg) : State :=
  match s.entry m.id with
  | some e => if e.st == .invalid then s.answerInvalid e else s
  | none =>
    match makeRoom s.book with
    | none => s.rxError
    | some l => State.bookNew { s with book := l } m

/-- ORDER (R52). One of bad length is counted and taken all the same (R12), and like any other it refreshes or creates
its terminal's entry (log 37). -/
def execOrder (src : Nat) (m : OrderMsg) (s : State) : Host.Outcome State Fault Refusal :=
  s.act fun s => s.hear .terminal src true fun s =>
    (if m.lengthOk then s else s.rxError).booked fun s => s.takeOrder m

/-! ## CANCEL -/

/-- A CANCEL taken for an entry (table of R70). -/
def State.takeCancel (s : State) (e : OrderEntry) : State :=
  match e.st with
  | .new | .waitingClaim | .placedElsewhere | .unplaced => s.modEntry e.id OrderEntry.cancelForeign
  | .ownPending =>
    let s1 := s.modEntry e.id OrderEntry.cancelForeign
    match e.job with
    | none => s1
    | some j => s1.place (.jobStatus (jobStatusMsg s.self e j .cancelled))
  | .ownActive | .ownBlocked =>
    match e.job with
    | none => s
    | some j =>
      if j.unresolved = 0 then
        ((s.modEntry e.id (fun e => e.finish .cancelled)).withdrawPrompt e.id).placeJobStatus e.id
      else ((s.modEntry e.id (fun e => { e with st := .ownCancelling })).withdrawPrompt e.id).placeJobStatus e.id
  | .ownCancelling | .ownComplete | .ownFailed | .invalid | .cancelled => s

/-- CANCEL (R70): taken from the ordering terminal alone. -/
def execCancel (src : Nat) (id : OrderId) (s : State) : Host.Outcome State Fault Refusal :=
  s.act fun s => s.hear .terminal src true fun s => s.booked fun s =>
    match s.entry id with
    | none => s
    | some e => if src = id.term then s.takeCancel e else s

/-! ## OFFER, CLAIM, WITHDRAW, JOB STATUS -/

/-- An offers-heard list with a station's item added or replaced (R58). -/
def addOffer (o : Offer) : List Offer → List Offer
  | [] => [o]
  | a :: l => if a.station = o.station then o :: l else a :: addOffer o l

/-- OFFER (R58). -/
def execOffer (src : Nat) (id : OrderId) (est : Nat) (s : State) : Host.Outcome State Fault Refusal :=
  s.act fun s => s.hear .cell src true fun s => s.booked fun s =>
    s.modEntry id (fun e =>
      if e.st == .new then { e with offers := addOffer { station := src, est := est } e.offers } else e)

/-- The recorded claim after one heard (R60, R61): the better of the two. -/
def betterClaim (c : Claim) : Option Claim → Claim
  | none => c
  | some r => if c.better r then c else r

/-- A CLAIM heard for a non-own entry (R61). The heard job state, and with it the retention (log 16), go when
the recorded claimant changes. -/
def OrderEntry.hearClaim (e : OrderEntry) (c : Claim) : OrderEntry :=
  match e.st with
  | .new => { e with recorded := some (betterClaim c e.recorded) }
  | .waitingClaim | .unplaced => e.placeElsewhere c
  | .placedElsewhere =>
    if (betterClaim c e.recorded).station == (e.recorded.getD c).station then { e with recorded := some (betterClaim c e.recorded) }
    else { e with recorded := some (betterClaim c e.recorded), heard := none, retention := none }
  | .invalid | .cancelled | .ownPending | .ownActive | .ownBlocked | .ownComplete | .ownFailed | .ownCancelling => e

/-- The duplicate flag set, with a JOB STATUS and the CLAIM once more (R62). -/
def State.setDuplicate (s : State) (id : OrderId) (j : Job) : State :=
  if j.duplicate then s
  else ((s.modEntry id (fun e => { e with job := some { j with duplicate := true } })).placeJobStatus id).placeClaim id

/-- A CLAIM heard for an own job not CANCELLED (R62). -/
def State.contest (s : State) (e : OrderEntry) (j : Job) (c : Claim) : State :=
  if j.committed && c.committed then s.setDuplicate e.id j
  else if c.better (e.ownClaim s.self) then
    ((s.modEntry e.id (fun e => e.placeElsewhere c)).withdrawPrompt e.id).place (.withdraw e.id)
  else s.placeClaim e.id

/-- CLAIM (R61, R62). -/
def execClaim (src : Nat) (id : OrderId) (est : Nat) (committed : Bool) (s : State) : Host.Outcome State Fault Refusal :=
  s.act fun s => s.hear .cell src true fun s => s.booked fun s =>
    match s.entry id with
    | none => s
    | some e =>
      let c : Claim := { station := src, est := est, committed := committed }
      match e.job with
      | none => s.modEntry id (fun e => e.hearClaim c)
      | some j => if e.st == .cancelled then s else s.contest e j c

/-- A WITHDRAW heard by an entry (R63). -/
def OrderEntry.hearWithdraw (e : OrderEntry) (src : Nat) : OrderEntry :=
  if (e.recorded.map Claim.station) == some src then
    if e.st == .placedElsewhere then e.waitClaim
    else if e.st == .new then { e with recorded := none }
    else e
  else e

/-- WITHDRAW (R63). -/
def execWithdraw (src : Nat) (id : OrderId) (s : State) : Host.Outcome State Fault Refusal :=
  s.act fun s => s.hear .cell src true fun s => s.booked fun s => s.modEntry id (fun e => e.hearWithdraw src)

/-- The claim taken as recorded from a JOB STATUS (R72). -/
def claimOf (src : Nat) (m : JobStatusMsg) : Claim :=
  { station := src, est := 65535, committed := decide (0 < m.done + m.rejected + m.lost) }

/-- The job state heard from the recorded claimant set, with the retention it starts, keeps or ends (R72, R73,
log 16). -/
def OrderEntry.setHeard (e : OrderEntry) (st : JobState) : OrderEntry :=
  { e with
    heard := some st
    retention :=
      match st with
      | .complete | .failed => some (e.retention.getD 0)
      | .active | .blocked | .cancelling | .cancelled | .invalid => none }

/-- A JOB STATUS taken by a non-own entry (R72). -/
def OrderEntry.hearJobStatus (e : OrderEntry) (src : Nat) (m : JobStatusMsg) : OrderEntry :=
  match e.st with
  | .waitingClaim | .unplaced => (e.placeElsewhere (claimOf src m)).setHeard m.state
  | .placedElsewhere =>
    if (e.recorded.map Claim.station) == some src then
      (if m.state = .cancelled then e.cancelForeign else e.setHeard m.state)
    else e
  | .new | .invalid | .cancelled | .ownPending | .ownActive | .ownBlocked | .ownComplete | .ownFailed | .ownCancelling => e

/-- JOB_STATUS (R72). One that reports INVALID changes no entry (R54). -/
def execJobStatus (src : Nat) (m : JobStatusMsg) (s : State) : Host.Outcome State Fault Refusal :=
  s.act fun s => s.hear .cell src true fun s => s.booked fun s =>
    if m.state = .invalid || m.claimant != src then s
    else
      match s.entry m.id with
      | none => s
      | some e =>
        match e.job with
        | none => s.modEntry m.id (fun e => e.hearJobStatus src m)
        | some j => if e.st == .cancelled || j.duplicate then s else s.placeClaim m.id

/-- TIN_REPORT (R14, R67): taken when the tin is of this cell's origin. -/
def execTinReport (src : Nat) (m : TinReportMsg) (s : State) : Host.Outcome State Fault Refusal :=
  s.act fun s => s.hear .cell src true fun s => s.booked fun s =>
    if m.tin.cell = s.self then s.resolveTin m.tin (ReportResult.fate m.result) else s

/-! ## Timers of an entry -/

/-- The claim this cell would make at the window's end is better than every other offer and than the recorded
claim (R59). -/
def OrderEntry.wins (e : OrderEntry) (self est : Nat) : Bool :=
  let own : Claim := { station := self, est := est, committed := false }
  e.offers.all (fun o => o.station == self || own.better { station := o.station, est := o.est, committed := false }) &&
    (match e.recorded with
     | none => true
     | some c => own.better c)

/-- This cell claims at the window's end (R59, case 1). -/
def State.claims (s : State) (e : OrderEntry) : Bool :=
  (match e.ownEst with
   | none => false
   | some est => e.wins s.self est) && s.running && s.openJobs < jobMax

/-- An entry made an own job (R59, case 1). -/
def OrderEntry.own (e : OrderEntry) (now : Nat) : OrderEntry :=
  { e with
    st := .ownPending, offers := [], recorded := none, timer := 0
    job := some { claimedAt := now, committed := false, duplicate := false, loaded := 0, done := 0, rejected := 0, lost := 0,
                  remakes := 0, tins := [], repeatTime := 0 } }

/-- OFFER_WINDOW_END (R59). -/
def execOfferWindowEnd (id : OrderId) (s : State) : Host.Outcome State Fault Refusal :=
  s.act fun s =>
    match s.entry id with
    | none => s
    | some e =>
      if e.st == .new then
        if s.claims e then (s.modEntry id (fun e => e.own s.now)).placeClaim id
        else
          match e.recorded with
          | some c => s.modEntry id (fun e => e.placeElsewhere c)
          | none => s.modEntry id OrderEntry.waitClaim
      else s

/-- CLAIM_SETTLE_END (R64). -/
def execClaimSettleEnd (id : OrderId) (s : State) : Host.Outcome State Fault Refusal :=
  s.act fun s =>
    match s.entry id with
    | none => s
    | some e =>
      if e.st == .ownPending then (s.modEntry id (fun e => { e with st := .ownActive })).placeJobStatus id else s

/-- CLAIM_WAIT_END (R64). -/
def execClaimWaitEnd (id : OrderId) (s : State) : Host.Outcome State Fault Refusal :=
  s.act fun s => s.modEntry id (fun e => if e.st == .waitingClaim then e.finish .unplaced else e)

/-- TIN_OVERDUE (R69). -/
def execTinOverdue (tin : TinId) (s : State) : Host.Outcome State Fault Refusal :=
  s.act fun s => s.resolveTin tin .overdue

/-- The terminal's entry is PRESENT or STALE (R71). -/
def State.terminalHeard (s : State) (term : Nat) : Bool :=
  match s.peer term with
  | some e => e.presence != .gone
  | none => false

/-- JOB_STATUS_REPEAT (R71). -/
def execJobStatusRepeat (id : OrderId) (s : State) : Host.Outcome State Fault Refusal :=
  s.act fun s => if s.terminalHeard id.term then s.placeJobStatus id else s

/-- RETENTION_END (R73). -/
def execRetentionEnd (id : OrderId) (s : State) : Host.Outcome State Fault Refusal :=
  s.act fun s => { s with book := s.book.filter (fun e => !(e.id == id && e.retention.isSome)) }

/-! ## The load gate (R65) -/

/-- A job that asks for a load (R65). -/
def OrderEntry.asksLoad (e : OrderEntry) : Bool := e.st == .ownActive && e.job.isSome && 0 < e.toLoad

/-- The claim moment of a job. -/
def OrderEntry.claimedAt (e : OrderEntry) : Nat := (e.job.map Job.claimedAt).getD 0

/-- The first of two jobs, `a` the earlier in the book, comes first in load order (R65, log 17). -/
def OrderEntry.before (a b : OrderEntry) : Bool :=
  if a.urgent != b.urgent then a.urgent else decide (a.claimedAt ≤ b.claimedAt)

/-- A job put in its place among jobs that stand after it in the book. -/
def insertLoad (e : OrderEntry) : List OrderEntry → List OrderEntry
  | [] => [e]
  | a :: l => if e.before a then e :: a :: l else a :: insertLoad e l

/-- The jobs that ask for a load, in load order (R65). -/
def State.loadOrder (s : State) : List OrderEntry := (s.book.filter OrderEntry.asksLoad).foldr insertLoad []

/-- A job whose load gate fails (R65, R66). -/
def State.blockJob (s : State) (id : OrderId) : State :=
  (s.modEntry id (fun e => { e with st := .ownBlocked })).placeJobStatus id

/-- The jobs taken to their gates until one passes (R65). -/
def State.tryGates (s : State) : List OrderEntry → State
  | [] => s
  | e :: l =>
    if s.eligibleEntry e then State.judgePrompt { s with seg := { s.seg with prompt := .requested e.id } }
    else (s.blockJob e.id).tryGates l

/-- LOAD_GATE (R65). -/
def execLoadGate (x : Sample) (s : State) : Host.Outcome State Fault Refusal :=
  s.act fun s =>
    let s := s.latch x
    if s.running && !s.seg.prompt.isSet then s.tryGates s.loadOrder else s

end Sys2Proof.Machine
end

