-- ==== Sys2Proof/Machine/Conveyor.lean ====
section
/-! DEFINITION. The meanings of the commands of the segment tracker (chapter The Conveyor Segment): the index and its
ends, the load prompt's ends, the chute door and the dispatch table. -/

namespace Sys2Proof.Machine

/-! ## The index -/

/-- The destination fixed at an index command (R146, R155). With slot 7 empty there is no tin to fix it by, and the
model's choice is the chute's side (log 56). -/
def State.fixedDestination (s : State) : Destination :=
  match s.slot 7 with
  | none => .chute
  | some r => s.destination r

/-- The drive starts with a fresh 3 s timer (R146, R148), and the cell is not idle (R31). -/
def State.drive (s : State) (d : Destination) (pull : Bool) : State :=
  State.wake { s with seg := { s.seg with index := .running d pull 0 } }

/-- An index commanded (R145, R146, R147, R155): the pull flag follows the pull decision. -/
def State.startIndex (s : State) : State :=
  let s1 := s.rejectLidded.judgeSlot7
  State.drive { s1 with seg := { s1.seg with pulled := s.takesPull } } s1.fixedDestination s.takesPull

/-- INDEX_COMMAND (R145, R146). -/
def execIndexCommand (s : State) : Host.Outcome State Fault Refusal :=
  s.act fun s => if s.indexReady then s.startIndex else s

/-- The completion check of R149 made: the blocks are told, or the cell jams. -/
def State.checkCompletion (s : State) : State := if s.sensorsAgree then s.tellBays else s.jamCell

/-- INDEX_COMPLETE (R146, R149): the segment stands at its position again. An index bound for the chute completes, and
its tin is carried in and counted, whether or not the chute door has been opened since its command (log 40). -/
def execIndexComplete (x : Sample) (s : State) : Host.Outcome State Fault Refusal :=
  s.act fun s =>
    match s.seg.index with
    | .running d pull _ => ((s.latch { x with offIndex := false }).indexMoves d pull).checkCompletion
    | .idle => s
    | .stopped _ _ => s

/-- INDEX_TIMEOUT (R149, R178): the drive stops, the register stays, a pull is cut short, the cell jams. A pull whose
intake is no longer CLEARED (opened again by R168 or R181 meanwhile) leaves no cut-short pull, and the gate is read on
(log 43). -/
def execIndexTimeout (s : State) : Host.Outcome State Fault Refusal :=
  s.act fun s =>
    match s.seg.index with
    | .running _ pull _ =>
      State.jamCell
        { s with
          seg := { s.seg with index := .idle }
          xfr := { s.xfr with cutShort := pull && s.xfr.intake.isCleared } }
    | .idle => s
    | .stopped _ _ => s

/-- A stopped index may be finished (R148). -/
def State.finishReady (s : State) : Bool :=
  match s.seg.index with
  | .stopped d _ => s.working && ((s.slot 7).isNone || d != .chute || s.chuteReady)
  | .idle => false
  | .running _ _ _ => false

/-- INDEX_FINISH (R148): the destination and the pull decision are kept. -/
def execIndexFinish (s : State) : Host.Outcome State Fault Refusal :=
  s.act fun s =>
    match s.seg.index with
    | .stopped d pull => if s.finishReady then s.drive d pull else s
    | .idle => s
    | .running _ _ _ => s

/-! ## Loading -/

/-- A job counts a loaded tin (R66, R67). -/
def Job.load (j : Job) (tin : TinId) (now : Nat) : Job :=
  { j with loaded := j.loaded + 1, committed := true, tins := j.tins ++ [{ tin := tin, loadedAt := now, fate := .inFlight }] }

/-- The order book is told of a load (R66): the first tin commits the job, and a CLAIM is placed. -/
def State.countLoad (s : State) (id : OrderId) (tin : TinId) : State :=
  let s1 := s.modEntry id (fun e => { e with job := e.job.map (fun j => j.load tin s.now) })
  match (s.entry id).bind OrderEntry.job with
  | none => s1
  | some j => if j.loaded = 0 then s1.placeClaim id else s1

/-- The order book is told that the record could not be created (R46, R66): a failed load gate. -/
def State.failLoad (s : State) (id : OrderId) : State :=
  match s.entry id with
  | none => s
  | some e => if e.st == .ownActive then s.blockJob id else s

/-- The verdict for the order of a prompt: the ORDER, with the lid type and shake class of a PERMIT (R46). -/
def State.loadVerdict (s : State) (id : OrderId) : Option (OrderMsg × Nat × Option ShakeClass) :=
  match (s.entry id).bind OrderEntry.order with
  | none => none
  | some m =>
    match verdict s.windows m.base with
    | .permit lid shake => some (m, lid, shake)
    | .deny => none

/-- A LOADED taken for a standing prompt (R151). -/
def State.takeLoad (s : State) (id : OrderId) (serial : Nat) : State :=
  let s1 := s.endPrompt
  let tin : TinId := { cell := s.self, serial := serial }
  match s.loadVerdict id with
  | some (m, lid, shake) => (s1.setSlot 1 (some (.known (s1.loadedTin tin m lid shake)))).countLoad id tin
  | none => (s1.setSlot 1 (some .unknown)).failLoad id

/-- A tin that stands at slot 1 without a prompt for it (R151): UNKNOWN where the register holds none there. The cell
is not idle (R31). -/
def State.takeStranger (s : State) : State :=
  if (s.slot 1).isNone then (s.setSlot 1 (some .unknown)).wake else s

/-- LOADED (R151, R207). -/
def execLoaded (x : Sample) (s : State) : Host.Outcome State Fault Refusal :=
  s.act fun s =>
    let s := s.latch x
    if s.inService && s.sensed 1 then
      match s.seg.prompt with
      | .standing id serial _ _ => s.takeLoad id serial
      | .none => s.takeStranger
      | .requested _ => s.takeStranger
    else s

/-- SKIP (R152, R207): the load is given up. -/
def execSkip (s : State) : Host.Outcome State Fault Refusal :=
  s.act fun s => if s.inService && s.seg.prompt.isStanding then s.endPrompt else s

/-- LOAD_WAIT_END (R152): the load is given up. -/
def execLoadWaitEnd (s : State) : Host.Outcome State Fault Refusal :=
  s.act fun s => if s.seg.prompt.isStanding then s.endPrompt else s

/-- LOAD_WAIT_DISPLAY (R208): the panel shows one second less of the load wait. -/
def execLoadWaitDisplay (s : State) : Host.Outcome State Fault Refusal :=
  s.act fun s =>
    match s.seg.prompt with
    | .standing id serial time shown => { s with seg := { s.seg with prompt := .standing id serial time (shown - 1) } }
    | .none => s
    | .requested _ => s

/-! ## Chute and dispatch -/

/-- CHUTE_DOOR_OPENED (R156): no tin is carried into the chute (`State.chuteReady`). -/
def execChuteDoorOpened (s : State) : Host.Outcome State Fault Refusal :=
  s.act fun s => { s with pins := { s.pins with chuteDoor := true } }

/-- CHUTE_DOOR_CLOSED (R156): the chute count becomes 0. -/
def execChuteDoorClosed (s : State) : Host.Outcome State Fault Refusal :=
  s.act fun s => { s with pins := { s.pins with chuteDoor := false }, seg := { s.seg with chute := 0 } }

/-- DISPATCH_FULL_CHANGE (R157): the flag and the index's condition follow from the pin. -/
def execDispatchFullChange (full : Bool) (s : State) : Host.Outcome State Fault Refusal :=
  s.act fun s => { s with pins := { s.pins with dispatchFull := full } }

end Sys2Proof.Machine
end

