-- ==== Sys2Proof/Machine/Panel.lean ====
section
/-! DEFINITION. The meanings of the commands of the panel port, the label printer's port and the attention capture
(chapter Start-up, Panel and Signals). -/

namespace Sys2Proof.Machine

/-- The view of magazine `n` as it stands (R208). -/
def State.viewOf (s : State) (n : Nat) : Message := .view n (s.magazine n).layers (s.magazine n).count

/-- A message put into the message slot (R208). -/
def State.setMessage (s : State) (m : Message) : State := { s with panel := { s.panel with message := some m } }

/-- MAGAZINE_VIEW (R208): the magazine's layers, top first, and its count go into the message slot. -/
def execMagazineView (magazine : Fin 5) (s : State) : Host.Outcome State Fault Refusal :=
  s.act fun s => if s.inService then s.setMessage (s.viewOf (magazine.val + 1)) else s

/-- LBLRDY_L low. -/
def State.setPrinterReady (s : State) : State :=
  { s with pins := { s.pins with sample := { s.pins.sample with printerReady := true } } }

/-- PRINTER_READY (R209): a held label record is sent. -/
def execPrinterReady (s : State) : Host.Outcome State Fault Refusal :=
  s.act fun s =>
    let s := s.setPrinterReady
    match s.panel.label with
    | none => s
    | some l => { s with panel := { s.panel with label := none, printed := some l } }

/-- The attention record with a change added: as the second where it holds fewer than 2, in place of the second
where it holds 2 (R210). -/
def Attention.add (a : Attention) (c : ChangeRec) : Attention :=
  let r : Captured := { uid := a.nextUid, change := c }
  match a.records with
  | [] => { a with records := [r], nextUid := a.nextUid + 1 }
  | [first] => { a with records := [first, r], nextUid := a.nextUid + 1 }
  | first :: _ :: _ =>
    { a with records := [first, r], overwrite := true, nextUid := a.nextUid + 1, replaced := a.replaced + 1 }

/-- An input's settled level set (R210). -/
def Attention.settle (a : Attention) (input : Fin 7) (asserted : Bool) : Attention :=
  { a with settled :=
      if asserted then a.settled ||| (1#7 <<< input.val) else a.settled &&& ~~~(1#7 <<< input.val) }

/-- The levels of ATN1_L and ATN2_L, which have no other row. -/
def State.setAtn (s : State) (input : Fin 7) (asserted : Bool) : State :=
  if input = 5 then { s with pins := { s.pins with atn1 := asserted } }
  else if input = 6 then { s with pins := { s.pins with atn2 := asserted } }
  else s

/-- A change captured: the level settles, and a change record is made with the time of day (R210). -/
def State.capture (s : State) (input : Fin 7) (asserted : Bool) : State :=
  { s with atn :=
      Attention.add (s.atn.settle input asserted) (ChangeRec.mk (input.val + 1) asserted s.dck.moment.sec) }

/-- ATTENTION_CHANGE (R210): an input has held a level other than its settled one. -/
def execAttentionChange (input : Fin 7) (asserted : Bool) (s : State) : Host.Outcome State Fault Refusal :=
  s.act fun s =>
    let s := s.setAtn input asserted
    if s.atn.settled.getLsbD input.val == asserted then s
    else s.capture input asserted

end Sys2Proof.Machine
end

