-- ==== Sys2Proof/Machine/Shots.lean ====
section
/-! DEFINITION. The meanings of the commands of the shot engine (chapter Pumps and Shots): the grant, the ends of
switches, strokes and refills, drive faults, the spill input. -/

namespace Sys2Proof.Machine

/-- The tin at slot 2 settled if its dosing has ended (R93, R140), and the order book told of what changed in the
canister table (R101). -/
def State.afterDosing (s : State) (before : List CoverItem) : State := s.settleSlot2.tellCover before

/-! ## The grant -/

/-- An entry that the start check defers (R87). -/
def Tin.deferEntry (t : Tin) (e : DoseEntry) (self : Nat) : Tin :=
  { t.modEntry e.index (fun e => { e with st := .deferred }) with deferral := insertDefer (e.deferItem self) t.deferral }

/-- An entry that the start check makes OMITTED (R85, test 3). -/
def Tin.omitEntry (t : Tin) (e : DoseEntry) : Tin :=
  { t.modEntry e.index (fun e => { e with st := .omitted }) with omitted := true }

/-- An entry that fails the headroom test (R88). -/
def Tin.overloadEntry (t : Tin) (e : DoseEntry) (p : Plan) : Tin :=
  Tin.withCause (t.modEntry e.index (fun e => { e with st := .failed p })) .overload

/-- An entry that starts (R86). -/
def Tin.startEntry (t : Tin) (e : DoseEntry) (p : Plan) (raised : Bool) : Tin :=
  { t.modEntry e.index (fun e => { e with st := .active p }) with raised := t.raised || raised }

/-- The start check's outcome acted on (R123), channel `ch` being held by the entry. A refusal by test 1 of R85 ends the
hold of R109 with the channel, as a deferral does (log 54). -/
def State.actOnCheck (s : State) (ch : Nat) (t : Tin) (e : DoseEntry) (p : Plan) : State :=
  match s.startCheck t e p with
  | .refused => s.freeChannel ch p.canister
  | .deferred => (s.modTinAt 2 (fun t => t.deferEntry e s.self)).freeChannel ch p.canister
  | .omitted => (s.modTinAt 2 (fun t => t.omitEntry e)).freeChannel ch p.canister
  | .overload => (s.modTinAt 2 (fun t => t.overloadEntry e p)).freeChannel ch p.canister
  | .start q raised =>
    ((s.reserve q.canister (q.steps * (s.pumpCfg q.canister).d)).modTinAt 2 (fun t => t.startEntry e q raised)).nextMove ch

/-- Channel `ch` granted to the waiting entry of index `i` (R122, R123). -/
def State.grantTo (s : State) (ch i : Nat) : State :=
  let s1 := (s.leaveWaiting i).setChannel ch (some i)
  match s.tinAt 2 with
  | none => s
  | some t =>
    match t.entry i with
    | none => s
    | some e =>
      match e.st with
      | .toDose p => (s1.actOnCheck ch t e p).afterDosing s.cover
      | .deferred | .omitted | .active _ | .dosed _ | .failed _ => s

/-- CHANNEL_GRANT (R122, R123): one grant; the arbiter judges afresh after it (log 2). -/
def execChannelGrant (s : State) : Host.Outcome State Fault Refusal :=
  s.act fun s =>
    match s.grant with
    | none => s
    | some (ch, i) => s.grantTo ch i

/-! ## The ends of movements -/

/-- The valve stands at the position commanded (R126). -/
def Pump.switched (p : Pump) : Pump := { p.rest with valve := p.target }

/-- SWITCH_END (R126): the movement the switch was for begins, or the pump stands IDLE (R125). -/
def execSwitchEnd (channel : Fin 4) (s : State) : Host.Outcome State Fault Refusal :=
  s.act fun s =>
    match s.heldCanister channel with
    | none => s
    | some n => if (s.pump n).st == .switching then (s.modPump n Pump.switched).nextMove channel else s

/-- The pump's content set from the movement commanded (R127, R128). -/
def Pump.moved (p : Pump) (content : Nat) : Pump := { p.rest with content := content }

/-- A stroke that ends COMPLETE (R127): content, tin, canister, then the next movement or the end of the entry
(R131). -/
def State.strokeComplete (s : State) (ch : Nat) (e : DoseEntry) (p : Plan) : State :=
  let n := p.canister
  let c := (s.pump n).steps
  let vol := c * (s.pumpCfg n).d
  let s1 := ((s.modPump n (fun u => u.moved (u.content - c))).modTinAt 2 (fun t => t.countStroke e.index c vol)).chargeStroke n vol
  match nextStroke p.strokes (p.emitted + c) with
  | some _ => s1.nextMove ch
  | none =>
    (s1.modTinAt 2 (fun t => t.doseEntry e { p with emitted := p.emitted + c } (s.pumpCfg n).d s.self)).freeChannel ch n

/-- STROKE_END (R127, R130, R131, R133). -/
def execStrokeEnd (channel : Fin 4) (gray : Gray) (s : State) : Host.Outcome State Fault Refusal :=
  s.act fun s =>
    match s.heldEntry channel with
    | none => s
    | some e =>
      match e.st with
      | .active p =>
        if (s.pump p.canister).st == .stroking then
          let s1 := s.latchGray p.canister gray
          let c := (s.pump p.canister).steps
          (if encoderOk (s.pumpCfg p.canister) ((s.pump p.canister).content - c) gray then s1.strokeComplete channel e p
           else s1.abortEntry channel c .locked gray).afterDosing s.cover
        else s
      | .deferred | .omitted | .toDose _ | .dosed _ | .failed _ => s

/-- REFILL_END (R128, R130, R133). -/
def execRefillEnd (channel : Fin 4) (gray : Gray) (s : State) : Host.Outcome State Fault Refusal :=
  s.act fun s =>
    match s.heldCanister channel with
    | none => s
    | some n =>
      if (s.pump n).st == .refilling then
        let s1 := s.latchGray n gray
        if encoderOk (s.pumpCfg n) (s.pumpCfg n).strokeSteps gray then
          (s1.modPump n (fun u => u.moved (s.pumpCfg n).strokeSteps)).nextMove channel
        else (s1.abortEntry channel 0 .locked gray).afterDosing s.cover
      else s

/-! ## Drive faults and the spill input -/

/-- A channel's fault input set (R121). -/
def State.setFault (s : State) (channel : Fin 4) (low : Bool) : State :=
  { s with pins := { s.pins with driveFault :=
      if low then s.pins.driveFault ||| (1#4 <<< channel.val) else s.pins.driveFault &&& ~~~(1#4 <<< channel.val) } }

/-- DRIVE_FAULT (R134). `gray` is the reading of the held pump's encoder (R136). -/
def execDriveFault (channel : Fin 4) (gray : Gray) (s : State) : Host.Outcome State Fault Refusal :=
  s.act fun s =>
    let s1 := s.setFault channel true
    match s.heldCanister channel with
    | none => s1
    | some n => ((s1.latchGray n gray).abortEntry channel (s.emittedSoFar n) .locked gray).afterDosing s.cover

/-- CHANNEL_FAULT_CLEARED (R121). -/
def execChannelFaultCleared (channel : Fin 4) (s : State) : Host.Outcome State Fault Refusal :=
  s.act fun s => s.setFault channel false

/-- SPILL_ASSERTED (R124): no further grant is made (`State.grant`). -/
def execSpillAsserted (s : State) : Host.Outcome State Fault Refusal :=
  s.act fun s => { s with pins := { s.pins with spill := true } }

/-- SPILL_RELEASED (R124). -/
def execSpillReleased (s : State) : Host.Outcome State Fault Refusal :=
  s.act fun s => { s with pins := { s.pins with spill := false } }

end Sys2Proof.Machine
end

