-- ==== Sys2Proof/Machine/StartUp.lean ====
section
/-! DEFINITION. The meanings of the commands of start-up (chapter Start-up, Panel and Signals): reset, power-on, the
end of STARTING, RESTART. -/

namespace Sys2Proof.Machine

/-! ## Reset and power-on -/

/-- RESET_ASSERTED (R201): RESET_L is low; every block loses its state, and the levels of the pins stay. -/
def execResetAsserted (s : State) : Host.Outcome State Fault Refusal :=
  .next { State.powerOn s.pins with cfg := { (State.powerOn s.pins).cfg with held := true }, pending := s.pending }

/-- POWER_ON (R201): every block takes its power-on values, the straps are read, and the cell is STARTING, or in
CONFIG_FAULT where they give no station number. -/
def execPowerOn (straps : Straps) (pins : Pins) (s : State) : Host.Outcome State Fault Refusal :=
  .next { (State.powerOn pins).strapped straps with pending := s.pending }

/-! ## The image check (R203) -/

/-- A field of the image is 0 or in range (R171, check 7). -/
def zeroOr (lo hi n : Nat) : Bool := n == 0 || (lo ≤ n && n ≤ hi)

/-- A window fails R44 (check 4). -/
def windowBad (w : ImgWindow) : Bool :=
  w.enable == .bad || w.permit == .bad || w.shake == .bad ||
    (w.enable == .on && w.permit == .on && (w.lid == 0 || 255 < w.lid || w.shake == .absent))

/-- A fitted canister fails R97. -/
def canisterOutOfRange (c : CanisterCfg) : Bool :=
  c.capacity < 500000 || 4000000 < c.capacity || 100000 < c.dead || c.capacity ≤ c.dead || c.capacity < c.lowMark ||
    c.interval < 1 || 240 < c.interval || c.duration < 5 || 120 < c.duration

/-- A canister record fails check 5. -/
def canisterBad (c : CanisterCfg) : Bool := 250 < c.colorant || (c.colorant != 0 && canisterOutOfRange c)

/-- The pump of a fitted canister fails the ranges of R117 (check 6). -/
def pumpBad (c : CanisterCfg) (p : PumpCfg) : Bool :=
  c.colorant != 0 &&
    (p.d < 20 || 5000 < p.d || p.strokeSteps < 500 || 20000 < p.strokeSteps || p.minShot < 3 || 50 < p.minShot ||
      p.tolerance < 1 || 31 < p.tolerance)

/-- The CRC formed over the image's bytes differs from the one it carries (check 2). -/
def imageCrcBad (r : ImageRead) : Bool := crc16 (byteBits r.bytes) != r.crc

/-- The intake settings fail check 7. -/
def intakeBad (im : Image) : Bool :=
  !zeroOr 1 8 im.goodReads || !zeroOr 1 30 im.holdPeriod || !zeroOr 1 8 im.attempts

/-- The pump records of fitted canisters that fail check 6, by index. -/
def pumpFaults (im : Image) : List Bool := List.zipWith pumpBad im.canisters im.pumps

/-- The first check of R203 that fails, with the index of the first failing item. -/
def checkImage (r : ImageRead) : Option ConfigFault :=
  if !r.headerOk then some { code := .format, item := none }
  else if imageCrcBad r then some { code := .imageCrc, item := none }
  else if !timeOk r.fields.openTime || !timeOk r.fields.closeTime then some { code := .workWindow, item := none }
  else if r.fields.windows.any windowBad then some { code := .baseWindow, item := r.fields.windows.findIdx? windowBad }
  else if r.fields.canisters.any canisterBad then some { code := .canister, item := r.fields.canisters.findIdx? canisterBad }
  else if (pumpFaults r.fields).any id then some { code := .pump, item := (pumpFaults r.fields).findIdx? id }
  else if intakeBad r.fields then some { code := .intake, item := none }
  else none

/-! ## The end of STARTING (R202) -/

/-- A canister's running fields once its image record is handed out (R115). -/
def freshCanister (now : Moment) (c : CanisterCfg) : Canister :=
  if c.colorant = 0 then Canister.blank
  else { Canister.blank with stir := { Canister.blank.stir with due := now.add (c.interval * 60) } }

/-- A pump's running fields once its profile is judged (R118, R141). -/
def freshPump (c : CanisterCfg) (p : PumpCfg) (g : Gray) : Pump :=
  if c.colorant = 0 then Pump.blank
  else { Pump.blank with st := if profileBad p then .unusable else .idle, content := rederive p g }

/-- The shaker looks at its bay at a reset (R200): a sensed tin is UNKNOWN and is to be returned. -/
def State.resetShaker (s : State) : Shaker :=
  if s.pins.sample.shakerTin then { st := .unclamping, tin := some .unknown, left := 0, resume := 0, halted := false }
  else { st := .empty, tin := none, left := 0, resume := 0, halted := false }

/-- The segment's register and index built from its sensors (R159, R160), the waiting set empty (R137, R141). -/
def State.rebuildSegment (s : State) : State :=
  { s with
    seg := { s.seg with slots := s.sensedSlots, index := s.rebuiltIndex, prompt := .none, pulled := false }
    shots := { s.shots with waiting := [] } }

/-- The image handed out to the blocks (R202): canisters, pumps, segment, shaker. -/
def State.handOut (s : State) (im : Image) : State :=
  let s1 := { s with
    cfg := { s.cfg with image := some im }
    canisters := im.canisters.map (freshCanister s.dck.moment)
    shots := { s.shots with pumps := (List.range 16).map (fun n =>
      freshPump (im.canisters.getD n default) (im.pumps.getD n default) (s.gray n)) }
    shaker := s.resetShaker }
  s1.rebuildSegment

/-- The cell state is chosen with the halt flag set if ESTOP_L is low (R38), the intake is OPEN (R180), and a
CELL STATUS is built (R20). -/
def State.beginWork (s : State) : State :=
  ({ s with dck := { s.dck with halt := s.dck.halt || s.pins.estop, jam := false, idle := 0 } }.chooseState.openIntake).buildStatus

/-- STARTING_END (R202, R203). -/
def execStartingEnd (image : ImageRead) (x : Sample) (s : State) : Host.Outcome State Fault Refusal :=
  s.act fun s =>
    if s.dck.cell == .starting then
      match checkImage image with
      | some f =>
        ({ s.latch x with cfg := { s.cfg with fault := some f }, dck := { s.dck with cell := .configFault } }).buildStatus
      | none => ((s.latch x).handOut image.fields).beginWork
    else s

/-! ## RESTART (R205) -/

/-- Step 1: the shot engine ends every ACTIVE entry, and the canister table charges, releases, takes pending
locks and stops its stirrers (R137, R116). -/
def State.restartCanisters (s : State) : State :=
  let s1 := s.stopEntries
  State.stopStirrers { s1 with canisters := s1.canisters.map (fun c => { c.takeLock with reserved := 0 }) }

/-- Step 2: the queue keeps only a notice in transmission, which is not sent again (R10). -/
def State.emptyQueue (s : State) : State :=
  { s with bus := { s.bus with queue := (s.bus.queue.filter Queued.sending).map (fun q => { q with final := true }) } }

/-- Step 3: the tins of other cells' origin are reported and the records cleared (R160, R180, R200, R193). -/
def State.clearRecords (s : State) : State :=
  let s1 := (s.reportOthers (s.seg.slots ++ [s.shaker.tin])).reportTransit
  { s1.rebuildSegment with xfr := Transfer.clear, shaker := s.resetShaker, lids := { s1.lids with bay := .idle } }

/-- Step 4: the order book and the station table are emptied (R51, R22), the panel's message and a held label
dropped (R209). -/
def State.forget (s : State) : State :=
  { s with book := [], stations := [], panel := { s.panel with message := none, label := none } }

/-- RESTART (R205): taken in the six working states, addressed to this cell. -/
def execRestart (src target : Nat) (x : Sample) (s : State) : Host.Outcome State Fault Refusal :=
  s.act fun s =>
    (s.latch x).hear .terminal src true fun s =>
      if s.addressed target && s.inService then s.restartCanisters.emptyQueue.clearRecords.forget.beginWork else s

end Sys2Proof.Machine
end

