-- ==== Sys2Proof/Machine/Dispatch.lean ====
section
/-! DEFINITION. The meaning of every command, one arm per constructor of Instr. -/

namespace Sys2Proof.Machine

def exec (i : Instr) (s : State) : Host.Outcome State Fault Refusal :=
  match i with
  | .resetAsserted => Sys2Proof.Machine.execResetAsserted s
  | .powerOn straps pins => Sys2Proof.Machine.execPowerOn straps pins s
  | .startingEnd image x => Sys2Proof.Machine.execStartingEnd image x s
  | .quietGap => Sys2Proof.Machine.execQuietGap s
  | .arbitrationLost => Sys2Proof.Machine.execArbitrationLost s
  | .frameAbandoned => Sys2Proof.Machine.execFrameAbandoned s
  | .frameComplete => Sys2Proof.Machine.execFrameComplete s
  | .frameDiscarded f => Sys2Proof.Machine.execFrameDiscarded f s
  | .statusPeriod => Sys2Proof.Machine.execStatusPeriod s
  | .order src m => Sys2Proof.Machine.execOrder src m s
  | .cancel src id => Sys2Proof.Machine.execCancel src id s
  | .offer src id est => Sys2Proof.Machine.execOffer src id est s
  | .claim src id est committed => Sys2Proof.Machine.execClaim src id est committed s
  | .withdraw src id => Sys2Proof.Machine.execWithdraw src id s
  | .jobStatus src m => Sys2Proof.Machine.execJobStatus src m s
  | .cellStatus src m tag => Sys2Proof.Machine.execCellStatus src m tag s
  | .consign src m tag => Sys2Proof.Machine.execConsign src m tag s
  | .tinReport src m => Sys2Proof.Machine.execTinReport src m s
  | .stockRefill src target canister volume strength batch => Sys2Proof.Machine.execStockRefill src target canister volume strength batch s
  | .stockSetLevel src target canister level strength batch => Sys2Proof.Machine.execStockSetLevel src target canister level strength batch s
  | .stockLock src target canister => Sys2Proof.Machine.execStockLock src target canister s
  | .stockRelease src target canister gray => Sys2Proof.Machine.execStockRelease src target canister gray s
  | .stockReply src m => Sys2Proof.Machine.execStockReply src m s
  | .lidLoad src target size lid count lidOnHead => Sys2Proof.Machine.execLidLoad src target size lid count lidOnHead s
  | .clock src time day x => Sys2Proof.Machine.execClock src time day x s
  | .pause src => Sys2Proof.Machine.execPause src s
  | .resume src x => Sys2Proof.Machine.execResume src x s
  | .restart src target x => Sys2Proof.Machine.execRestart src target x s
  | .entryStale station => Sys2Proof.Machine.execEntryStale station s
  | .entryGone station => Sys2Proof.Machine.execEntryGone station s
  | .entryFreed station => Sys2Proof.Machine.execEntryFreed station s
  | .clockAdvance x => Sys2Proof.Machine.execClockAdvance x s
  | .idleTimeout => Sys2Proof.Machine.execIdleTimeout s
  | .capMoveEnd x => Sys2Proof.Machine.execCapMoveEnd x s
  | .emergencyStop x => Sys2Proof.Machine.execEmergencyStop x s
  | .estopReleased => Sys2Proof.Machine.execEstopReleased s
  | .loaded x => Sys2Proof.Machine.execLoaded x s
  | .skip => Sys2Proof.Machine.execSkip s
  | .confirm x => Sys2Proof.Machine.execConfirm x s
  | .offerWindowEnd id => Sys2Proof.Machine.execOfferWindowEnd id s
  | .claimSettleEnd id => Sys2Proof.Machine.execClaimSettleEnd id s
  | .claimWaitEnd id => Sys2Proof.Machine.execClaimWaitEnd id s
  | .loadGate x => Sys2Proof.Machine.execLoadGate x s
  | .tinOverdue tin => Sys2Proof.Machine.execTinOverdue tin s
  | .jobStatusRepeat id => Sys2Proof.Machine.execJobStatusRepeat id s
  | .retentionEnd id => Sys2Proof.Machine.execRetentionEnd id s
  | .stirringRunEnd canister => Sys2Proof.Machine.execStirringRunEnd canister s
  | .channelGrant => Sys2Proof.Machine.execChannelGrant s
  | .switchEnd channel => Sys2Proof.Machine.execSwitchEnd channel s
  | .strokeEnd channel gray => Sys2Proof.Machine.execStrokeEnd channel gray s
  | .refillEnd channel gray => Sys2Proof.Machine.execRefillEnd channel gray s
  | .driveFault channel gray => Sys2Proof.Machine.execDriveFault channel gray s
  | .channelFaultCleared channel => Sys2Proof.Machine.execChannelFaultCleared channel s
  | .spillAsserted => Sys2Proof.Machine.execSpillAsserted s
  | .spillReleased => Sys2Proof.Machine.execSpillReleased s
  | .indexCommand => Sys2Proof.Machine.execIndexCommand s
  | .indexComplete x => Sys2Proof.Machine.execIndexComplete x s
  | .indexTimeout => Sys2Proof.Machine.execIndexTimeout s
  | .indexFinish => Sys2Proof.Machine.execIndexFinish s
  | .loadWaitEnd => Sys2Proof.Machine.execLoadWaitEnd s
  | .loadWaitDisplay => Sys2Proof.Machine.execLoadWaitDisplay s
  | .chuteDoorOpened => Sys2Proof.Machine.execChuteDoorOpened s
  | .chuteDoorClosed => Sys2Proof.Machine.execChuteDoorClosed s
  | .dispatchFullChange full => Sys2Proof.Machine.execDispatchFullChange full s
  | .consignRepeat seq => Sys2Proof.Machine.execConsignRepeat seq s
  | .tinArrival tag => Sys2Proof.Machine.execTinArrival tag s
  | .tinLiftedOff => Sys2Proof.Machine.execTinLiftedOff s
  | .holdRead tag => Sys2Proof.Machine.execHoldRead tag s
  | .holdPeriodEnd => Sys2Proof.Machine.execHoldPeriodEnd s
  | .pressComplete => Sys2Proof.Machine.execPressComplete s
  | .pressTimeout => Sys2Proof.Machine.execPressTimeout s
  | .hatchOpened magazine => Sys2Proof.Machine.execHatchOpened magazine s
  | .hatchClosed magazine lidOnHead => Sys2Proof.Machine.execHatchClosed magazine lidOnHead s
  | .transferInComplete => Sys2Proof.Machine.execTransferInComplete s
  | .clampConfirmed => Sys2Proof.Machine.execClampConfirmed s
  | .clampConfirmationLost => Sys2Proof.Machine.execClampConfirmationLost s
  | .doorOpened => Sys2Proof.Machine.execDoorOpened s
  | .doorClosed => Sys2Proof.Machine.execDoorClosed s
  | .shakeRunEnd => Sys2Proof.Machine.execShakeRunEnd s
  | .returnComplete => Sys2Proof.Machine.execReturnComplete s
  | .lidLoadEntry size lid count lidOnHead => Sys2Proof.Machine.execLidLoadEntry size lid count lidOnHead s
  | .magazineView magazine => Sys2Proof.Machine.execMagazineView magazine s
  | .printerReady => Sys2Proof.Machine.execPrinterReady s
  | .attentionChange input asserted => Sys2Proof.Machine.execAttentionChange input asserted s

end Sys2Proof.Machine
end

