-- ==== Sys2Proof/Machine/Tick.lean ====
section
/-! DEFINITION. What happens when no command waits (log 2): the block takes a step of its own if one is due (the
grant of R122, the finish of R148, the index of R145, the load gate of R65), or else one millisecond passes and the
commands of the timers that have run out are put in the queue. Readings are not made here (log 6). -/

namespace Sys2Proof.Machine

/-! ## The block's own steps -/

/-- The load gate is due (R65). -/
def State.gateReady (s : State) : Bool := s.running && !s.seg.prompt.isSet && s.book.any OrderEntry.asksLoad

/-- The block's own step that is due now. Where several are, the index comes before the load gate, so that a
prompt that is asked for again and again does not hold the segment still (log 2). -/
def State.ownStep (s : State) : Option Instr :=
  if s.grant.isSome then some .channelGrant
  else if s.finishReady then some .indexFinish
  else if s.indexReady then some .indexCommand
  else if s.gateReady then some (.loadGate s.pins.sample)
  else none

/-! ## One millisecond -/

/-- The bus port's status period runs from the first status built (R20). -/
def State.tickBus (s : State) : State :=
  if s.buildsStatus then { s with bus := { s.bus with period := s.bus.period + 1 } } else s

/-- The entries of the station table age (R22). -/
def State.tickStations (s : State) : State :=
  { s with stations := s.stations.map (fun e => { e with age := e.age + 1 }) }

/-- The part of a second, the cap's move and the idle timer (R24, R32, R31). -/
def State.tickClock (s : State) : State :=
  { s with dck := { s.dck with
    sub := s.dck.sub + 1
    capTime := if CapPos.moving s.dck.cap then s.dck.capTime + 1 else s.dck.capTime
    idle := if s.dck.cell == .night && s.idleTest then s.dck.idle + 1 else 0 } }

/-- An entry's timers (R51, R71, R73). -/
def OrderEntry.tick (e : OrderEntry) : OrderEntry :=
  { e with
    timer := e.timer + 1
    retention := e.retention.map (· + 1)
    job := e.job.map (fun j => { j with repeatTime := j.repeatTime + 1 }) }

def State.tickBook (s : State) : State := { s with book := s.book.map OrderEntry.tick }

/-- The runs of the stirrers (R110). -/
def State.tickStirrers (s : State) : State :=
  { s with canisters := s.canisters.map (fun c =>
      if c.stir.st == .running then { c with stir := { c.stir with left := c.stir.left - 1 } } else c) }

/-- The movements of the pumps (R126, R129). -/
def State.tickPumps (s : State) : State :=
  { s with shots := { s.shots with pumps := s.shots.pumps.map (fun p =>
      if PumpState.inMotion p.st then { p with time := p.time + 1 } else p) } }

def IndexState.tick : IndexState → IndexState
  | .running d p t => .running d p (t + 1)
  | .idle => .idle
  | .stopped d p => .stopped d p

def LoadPrompt.tick : LoadPrompt → LoadPrompt
  | .standing id serial time shown => .standing id serial (time + 1) shown
  | .none => .none
  | .requested id => .requested id

/-- The index timer and the load wait (R146, R150). -/
def State.tickSegment (s : State) : State :=
  { s with seg := { s.seg with index := s.seg.index.tick, prompt := s.seg.prompt.tick } }

def Intake.tick : Intake → Intake
  | .hold good attempt time sinceRead last => .hold good attempt (time + 1) (sinceRead + 1) last
  | .opened => .opened
  | .cleared d => .cleared d

/-- The repeat timers, which stand still while the downstream entry is GONE (R165), and the hold timer (R173). -/
def State.tickTransfer (s : State) : State :=
  { s with xfr := { s.xfr with
    inTransit := if s.repeatsOn then s.xfr.inTransit.map (fun r => { r with time := r.time + 1 }) else s.xfr.inTransit
    intake := s.xfr.intake.tick } }

def LidBay.tick : LidBay → LidBay
  | .pressing t => .pressing (t + 1)
  | .idle => .idle
  | .pressStopped => .pressStopped
  | .lidWait m => .lidWait m

/-- The press timer and the shake run (R190, R196), whose remaining time falls by the ms (log 58). -/
def State.tickBays (s : State) : State :=
  { s with
    lids := { s.lids with bay := s.lids.bay.tick }
    shaker := if s.shaker.st == .running then { s.shaker with left := s.shaker.left - 1 } else s.shaker }

/-- One millisecond passes. -/
def State.pass (s : State) : State :=
  State.tickBays (State.tickTransfer (State.tickSegment (State.tickPumps (State.tickStirrers (State.tickBook
    (State.tickClock (State.tickStations (State.tickBus { s with now := s.now + 1 }))))))))

/-! ## Timers that have run out -/

/-- A command where its timer has run out. -/
def dueIf (b : Bool) (i : Instr) : List Instr := if b then [i] else []

def Station.due (e : Station) : List Instr :=
  match e.presence with
  | .present => dueIf (staleMs ≤ e.age) (.entryStale e.number)
  | .stale => dueIf (goneMs ≤ e.age) (.entryGone e.number)
  | .gone => dueIf (freedMs ≤ e.age) (.entryFreed e.number)

/-- The timer of an entry's state (R51). -/
def OrderEntry.dueTimer (e : OrderEntry) : List Instr :=
  match e.st with
  | .new => dueIf (offerWindowMs ≤ e.timer) (.offerWindowEnd e.id)
  | .ownPending => dueIf (claimSettleMs ≤ e.timer) (.claimSettleEnd e.id)
  | .waitingClaim => dueIf (claimWaitMs ≤ e.timer) (.claimWaitEnd e.id)
  | .placedElsewhere | .unplaced | .invalid | .cancelled | .ownActive | .ownBlocked | .ownComplete | .ownFailed
  | .ownCancelling => []

/-- The job's timers: the JOB STATUS repeat (R71) and the overdue limit of its tins (R69). -/
def State.dueJob (s : State) (e : OrderEntry) : List Instr :=
  match e.job with
  | none => []
  | some j =>
    dueIf (jobRepeatMs ≤ j.repeatTime && (OrderState.jobState e.st).isSome && s.terminalHeard e.id.term) (.jobStatusRepeat e.id) ++
      j.tins.flatMap (fun t => dueIf (t.fate == .inFlight && t.loadedAt + overdueMs ≤ s.now) (.tinOverdue t.tin))

def State.dueEntry (s : State) (e : OrderEntry) : List Instr :=
  e.dueTimer ++ s.dueJob e ++ dueIf (match e.retention with
    | some t => retentionMs ≤ t
    | none => false) (.retentionEnd e.id)

def State.dueStirrer (s : State) (n : Fin 16) : List Instr :=
  dueIf ((s.canister n).stir.st == .running && (s.canister n).stir.left == 0) (.stirringRunEnd n)

/-- A valve switch has lasted 150 ms (R126). -/
def State.dueSwitch (s : State) (ch : Fin 4) : List Instr :=
  match s.heldCanister ch with
  | none => []
  | some n => dueIf ((s.pump n).st == .switching && switchMs ≤ (s.pump n).time) (.switchEnd ch)

def IndexState.due : IndexState → List Instr
  | .running _ _ t => dueIf (indexMs ≤ t) .indexTimeout
  | .idle => []
  | .stopped _ _ => []

/-- The load wait has ended, or one second more of it has passed (R150, R208). -/
def LoadPrompt.due : LoadPrompt → List Instr
  | .standing _ _ time shown =>
    if loadWaitMs ≤ time then [.loadWaitEnd] else dueIf (10 < time / 1000 + shown) .loadWaitDisplay
  | .none => []
  | .requested _ => []

def State.dueTransfer (s : State) : List Instr :=
  s.xfr.inTransit.flatMap (fun r => dueIf (consignMs ≤ r.time && s.repeatsOn) (.consignRepeat r.seq)) ++
    (match s.xfr.intake with
     | .hold _ _ time _ _ => dueIf (s.holdPeriod * 1000 ≤ time) .holdPeriodEnd
     | .opened => []
     | .cleared _ => [])

def LidBay.due : LidBay → List Instr
  | .pressing t => dueIf (pressMs ≤ t) .pressTimeout
  | .idle => []
  | .pressStopped => []
  | .lidWait _ => []

/-- The commands of the timers that have run out. -/
def State.due (s : State) : List Instr :=
  dueIf (s.buildsStatus && statusPeriodMs ≤ s.bus.period) .statusPeriod ++
  s.stations.flatMap Station.due ++
  dueIf (1000 ≤ s.dck.sub) (.clockAdvance s.pins.sample) ++
  dueIf (CapPos.moving s.dck.cap && capMs ≤ s.dck.capTime) (.capMoveEnd s.pins.sample) ++
  dueIf (idleMs ≤ s.dck.idle) .idleTimeout ++
  s.book.flatMap s.dueEntry ++
  (List.finRange 16).flatMap s.dueStirrer ++
  (List.finRange 4).flatMap s.dueSwitch ++
  s.seg.index.due ++
  s.seg.prompt.due ++
  s.dueTransfer ++
  s.lids.bay.due ++
  dueIf (s.shaker.st == .running && s.shaker.left == 0) .shakeRunEnd

/-- One millisecond, and the commands then due put in the queue. -/
def State.tick (s : State) : State := { s.pass with pending := s.pass.due }

/-- What the block does with an empty queue (log 2): nothing while RESET_L is low. -/
def State.idleStep (s : State) : State :=
  if s.cfg.held then s
  else
    match s.ownStep with
    | some i => { s with pending := [i] }
    | none => s.tick

end Sys2Proof.Machine
end

