-- ==== Sys2Proof/Machine/Outputs.lean ====
section
/-! DEFINITION. The output pins, the frame on CBUS_TX and the prompt of the panel, as functions of the state (signal
summary of chapter Start-up, Panel and Signals; R208). While RESET_L is low every output is off (R201). -/

namespace Sys2Proof.Machine

/-- An output that is off while RESET_L is low. -/
def State.drives (s : State) (b : Bool) : Bool := !s.cfg.held && b

/-- CBUS_TX: the frame of the notice in transmission (R1, R2). -/
def State.txFrame (s : State) : Option (List Bool) :=
  if s.cfg.held then none
  else (s.bus.queue.find? Queued.sending).map (fun q => q.notice.frame s.self)

/-- STIR0-STIR15 (R107). -/
def State.stirOut (s : State) (n : Nat) : Bool := s.drives ((s.canister n).stir.st == .running)

/-- VALVE0-VALVE15: the position the valve stands at or turns to (R126). While the valve is UNKNOWN and not switching
the spec names no level, and a third value stands for it (log 39). -/
def State.valveOut (s : State) (n : Nat) : Valve :=
  if (s.pump n).st == .switching then (s.pump n).target else (s.pump n).valve

/-- PSEL0-PSEL3: the pump connected to a channel (R121). While no entry holds the channel the spec names none, and
neither does the model (log 55). -/
def State.pumpSelect (s : State) (ch : Nat) : Option Nat := s.heldCanister ch

/-- STEP0-STEP3: a stroke or a refill runs on the channel (R127, R128). -/
def State.stepping (s : State) (ch : Nat) : Bool :=
  match s.heldCanister ch with
  | none => false
  | some n => s.drives ((s.pump n).st == .stroking || (s.pump n).st == .refilling)

/-- DIR0-DIR3: the piston is driven forward (R127). Without a stroke on the channel it is off (log 55). -/
def State.forward (s : State) (ch : Nat) : Bool :=
  match s.heldCanister ch with
  | none => false
  | some n => s.drives ((s.pump n).st == .stroking)

/-- CAPOPEN (R32). -/
def State.capOpenOut (s : State) : Bool := s.drives (s.dck.cap == .opening)

/-- CAPCLOSE (R32). -/
def State.capCloseOut (s : State) : Bool := s.drives (s.dck.cap == .closing)

/-- CONV: the conveyor drive (R146). -/
def State.convOut (s : State) : Bool := s.drives s.seg.index.isRunning

/-- DIVERT: set to the chute (R146). With no index in progress or stopped it is onward (log 41). -/
def State.divertOut (s : State) : Bool :=
  match s.seg.index with
  | .running d _ _ => s.drives (d == .chute)
  | .stopped d _ => s.drives (d == .chute)
  | .idle => false

/-- LPRESS (R190). -/
def State.pressOut (s : State) : Bool :=
  match s.lids.bay with
  | .pressing _ => s.drives true
  | .idle => false
  | .pressStopped => false
  | .lidWait _ => false

/-- SKXIN (R195, R198). -/
def State.transferInOut (s : State) : Bool := s.drives (s.shaker.st == .loading && !s.shaker.halted)

/-- SKXOUT (R199, R198). -/
def State.transferOutOut (s : State) : Bool := s.drives (s.shaker.st == .returning && !s.shaker.halted)

/-- SKCLAMP (R195, R197, R199). -/
def State.clampOut (s : State) : Bool :=
  s.drives (s.shaker.st == .clamping || s.shaker.st == .running || s.shaker.st == .interrupted)

/-- SKDRV (R196). -/
def State.shakeOut (s : State) : Bool := s.drives (s.shaker.st == .running)

/-! ## The panel's prompt (R208) -/

/-- What the panel shows. -/
inductive Shown where
  | off
  | fault (f : Option ConfigFault)
  | starting
  | releaseStop
  | pressConfirm
  | reconcile (slots : Byte)
  | load (label : Label) (left : Nat) (unprinted : Bool)
  | lidWait (magazine lid : Nat) (misfeed : Bool)
  | emptyChute
  | message (m : Message)
  | idle (cell : CellState) (time : Nat) (pause unset : Bool)
  deriving DecidableEq, Repr

/-- Conditions 6 to 9 of R208. -/
def State.shownWork (s : State) : Shown :=
  match s.lids.bay, s.tinAt 4 with
  | .lidWait m, some t => .lidWait t.size t.lid m
  | _, _ =>
    if s.seg.chute = chuteMax then .emptyChute
    else
      match s.panel.message with
      | some m => .message m
      | none => .idle s.dck.cell s.dck.moment.sec s.dck.pause s.dck.unset

/-- The prompt of a part in operation: the first condition of R208 that holds. -/
def State.prompt (s : State) : Shown :=
  match s.dck.cell with
  | .configFault => .fault s.cfg.fault
  | .starting => .starting
  | .halted => if s.pins.estop then .releaseStop else .pressConfirm
  | .jammed => .reconcile s.pins.sample.slots
  | .run | .night | .capped | .paused =>
    match s.seg.prompt with
    | .standing id serial _ left => .load (s.labelFor id serial) left s.panel.label.isSome
    | .none => s.shownWork
    | .requested _ => s.shownWork

/-- The prompt shown: nothing while RESET_L is low (R201). -/
def State.shown (s : State) : Shown := if s.cfg.held then .off else s.prompt

end Sys2Proof.Machine
end

