-- ==== Sys2Proof/Safety.lean ====
section
/-! DEFINITION. What the laws of the spec ask of a state, in the terms of the statements: each law is one predicate
on State that every step keeps. -/

namespace Sys2Proof.Machine

/-- RESET_L is high: the blocks hold state (R201). -/
def State.Live (s : State) : Prop := s.cfg.held = false

/-- A notice from `src` whose kind is sent by `k` passes checks 3 and 4 of R12 at this cell. -/
def State.Hears (s : State) (k : Sender) (src : Nat) : Prop :=
  s.cfg.held = false ∧ s.cfg.station.isSome ∧ k.allows src = true ∧ src ≠ s.self

/-! ## What a reset leaves -/

/-- Every output of a drive or a transmitter is off. -/
def State.OutputsOff (s : State) : Prop :=
  s.txFrame = none ∧ s.capOpenOut = false ∧ s.capCloseOut = false ∧ s.convOut = false ∧ s.divertOut = false ∧
  s.pressOut = false ∧ s.transferInOut = false ∧ s.transferOutOut = false ∧ s.clampOut = false ∧ s.shakeOut = false ∧
  ∀ n, s.stirOut n = false ∧ s.pumpSelect n = none ∧ s.stepping n = false ∧ s.forward n = false

/-- The running records a power-on leaves (R10, R22, R24, R38, R51, R115, R119, R121, R142, R159, R163, R170, R183,
R193, R194, R200, R210). -/
def State.PowerOnValues (s : State) (pins : Pins) : Prop :=
  s.bus.queue = [] ∧ s.bus.rxErrors = 0 ∧ s.bus.sendDrops = 0 ∧ s.stations = [] ∧ s.book = [] ∧
  s.dck.moment = { day := 0, sec := 0 } ∧ s.dck.unset = true ∧ s.dck.pause = false ∧ s.dck.jam = false ∧
  s.dck.halt = false ∧ s.dck.cap = .stopped ∧ s.cfg.image = none ∧
  (∀ n, (s.canister n).stock = none ∧ (s.canister n).reserved = 0 ∧ (s.canister n).lock = false ∧
    (s.canister n).pendingLock = false ∧ (s.canister n).stir.st = .idle ∧ (s.canister n).stir.flag = false) ∧
  (∀ n, (s.pump n).st = .idle ∧ (s.pump n).valve = .unknown ∧ s.channel n = none) ∧ s.shots.waiting = [] ∧
  (∀ n, s.slot n = none) ∧ s.seg.index = .idle ∧
  s.seg.chute = 0 ∧ s.seg.serial = 1 ∧ s.seg.prompt = .none ∧ s.seg.pulled = false ∧
  s.xfr.release = 0 ∧ s.xfr.inTransit = [] ∧ s.xfr.pointer = 0 ∧ s.xfr.expected = [] ∧ s.xfr.intake = .opened ∧
  s.xfr.cutShort = false ∧ s.xfr.restarted = 0 ∧ (∀ n, (s.magazine n).layers = []) ∧ s.lids.bay = .idle ∧
  s.shaker.st = .empty ∧ s.shaker.tin = none ∧ s.panel.message = none ∧ s.panel.label = none ∧
  s.atn.records = [] ∧ s.atn.overwrite = false ∧ s.atn.settled = attentionLevels pins ∧ s.pins = pins

/-- The numbers of like parts: sixteen canisters and pumps (R97, R117), four drive channels (R121), eight slots (R142),
five magazines (R183). -/
def State.Shaped (s : State) : Prop :=
  s.canisters.length = 16 ∧ s.shots.pumps.length = 16 ∧ s.shots.channels.length = 4 ∧ s.seg.slots.length = 8 ∧
  s.lids.magazines.length = 5

/-- The entry an ORDER makes when it is booked (R51, R52), with `p` its per-tin figure. -/
def newBooking (m : OrderMsg) (now p : Nat) : OrderEntry :=
  { id := m.id, bookedAt := now, st := .new, order := some m, perTin := p, reason := none, offers := [], ownEst := none,
    recorded := none, heard := none, timer := 0, retention := none, job := none }

/-! ## Laws -/

/-- The send queue holds up to 16 notices, ordered by class, of which at most one is in transmission (R7), and both
counters run 0-255 (R13). -/
def State.QueueBound (s : State) : Prop :=
  s.bus.queue.length ≤ 16 ∧ (s.bus.queue.map (fun q => q.notice.cls)).Pairwise (· ≤ ·) ∧
  s.bus.queue.countP Queued.sending ≤ 1 ∧ s.bus.rxErrors ≤ 255 ∧ s.bus.sendDrops ≤ 255

/-- The shaker runs only while its clamp is confirmed and its door is closed (R196). -/
def State.ShakerGuarded (s : State) : Prop :=
  s.shaker.st = .running → s.pins.clamp = true ∧ s.pins.shakerDoor = false

/-- An index bound for the lane, under way or stopped. -/
def IndexState.forLane : IndexState → Bool
  | .running d _ _ => d == .lane
  | .stopped d _ => d == .lane
  | .idle => false

/-- The in-transit list never holds more than three records, and an index bound for the lane finds room (R163). -/
def State.LaneBound (s : State) : Prop :=
  s.xfr.inTransit.length ≤ 3 ∧ (s.seg.index.forLane = true → s.xfr.inTransit.length ≤ 2)

/-- A magazine holds at most six layers and sixty lids, and no layer holds zero lids (R183). -/
def Magazine.Sound (m : Magazine) : Prop :=
  m.layers.length ≤ 6 ∧ m.count ≤ 60 ∧ ∀ l ∈ m.layers, 1 ≤ l.count ∧ 1 ≤ l.lid

def State.MagazinesSound (s : State) : Prop := ∀ m ∈ s.lids.magazines, m.Sound

/-- In RUN and NIGHT the cap is OPEN (R32). -/
def State.CapOpen (s : State) : Prop := s.dck.cell = .run ∨ s.dck.cell = .night → s.dck.cap = .opened

/-- The cell state agrees with the pause, jam and halt flags (R34 to R38), and an index is in progress in RUN,
NIGHT, CAPPED and PAUSED alone (R36, R145, R149). -/
def State.FlagsAgree (s : State) : Prop :=
  (s.dck.halt = true ↔ s.dck.cell = .halted) ∧
  (s.dck.cell = .jammed → s.dck.jam = true) ∧
  (s.dck.jam = true → s.dck.cell = .jammed ∨ s.dck.cell = .halted) ∧
  (s.dck.cell = .paused → s.dck.pause = true) ∧
  (s.working = true → s.dck.pause = false) ∧
  (s.seg.index.isRunning = true → s.working = true ∨ s.dck.cell = .paused)

/-- The order book holds up to 32 entries, never two with the same order id, and no more than eight open own
jobs (R51). -/
def State.BookSound (s : State) : Prop :=
  s.book.length ≤ 32 ∧ (s.book.map OrderEntry.id).Nodup ∧ s.openJobs ≤ 8

/-- The level of a fitted canister never exceeds its capacity (R98), the dead volume of a fitted canister being
within it (R97). -/
def State.LevelsHeld (s : State) : Prop :=
  ∀ n < 16, ∀ c, s.fitted n = some c → c.dead ≤ c.capacity ∧ (s.canister n).level ≤ c.capacity * 1000

/-- Every pump's chamber content lies between zero and its stroke steps (R119). -/
def State.ContentHeld (s : State) : Prop := ∀ n, (s.pump n).content ≤ (s.pumpCfg n).strokeSteps

/-- The chute count is 0 to 6 (R156). -/
def State.ChuteBound (s : State) : Prop := s.seg.chute ≤ 6

end Sys2Proof.Machine
end

