-- ==== Sys2Proof/WellFormed.lean ====
section
/-! DEFINITION. When a command can be sent at all: every operand fits the field that carries it. -/

namespace Sys2Proof

/-- A field of `bytes` bytes holds `n` (R1). -/
def fits (bytes n : Nat) : Bool := n < 256 ^ bytes

/-- A sender station fits the five bits of the arbitration field (R1). -/
def stationFits (n : Nat) : Bool := n < 32

def OrderId.wf (i : OrderId) : Bool := fits 1 i.term && fits 2 i.serial

def TinId.wf (t : TinId) : Bool := fits 1 t.cell && fits 2 t.serial

def FormulaItem.wf (f : FormulaItem) : Bool := fits 1 f.colorant && fits 3 f.q

/-- A body holds at most 240 bytes (R1), so an ORDER carries at most 57 formula items. -/
def OrderMsg.wf (m : OrderMsg) : Bool :=
  m.id.wf && fits 1 m.size && fits 1 m.count && fits 1 m.priority && m.formula.length ≤ 57 && m.formula.all FormulaItem.wf

def JobStatusMsg.wf (m : JobStatusMsg) : Bool :=
  m.id.wf && fits 1 m.claimant && fits 1 m.ordered && fits 1 m.done && fits 1 m.rejected && fits 1 m.lost && fits 1 m.remakes

def CoverItem.wf (c : CoverItem) : Bool := fits 1 c.canister && fits 1 c.colorant

def Window.wf (w : Window) : Bool := fits 1 w.lid

def ChangeRec.wf (c : ChangeRec) : Bool := 1 ≤ c.input && c.input ≤ 7 && c.time < 86400

/-- Beside the field widths, a CELL STATUS holds four windows (R1). -/
def CellStatusMsg.wf (m : CellStatusMsg) : Bool :=
  fits 1 m.station && fits 1 m.restartedCount && m.cover.all CoverItem.wf && m.windows.length == 4 && m.windows.all Window.wf &&
    fits 2 m.pointer && fits 2 m.backlog && fits 1 m.lidWaitSize && m.attention.all ChangeRec.wf && fits 1 m.rxErrors && fits 1 m.sendDrops

def DosedItem.wf (d : DosedItem) : Bool := fits 1 d.colorant && fits 4 d.delivered && fits 1 d.station

def DeferItem.wf (d : DeferItem) : Bool := fits 1 d.colorant && fits 4 d.nominal && fits 1 d.index && fits 1 d.station

def ConsignMsg.wf (m : ConsignMsg) : Bool :=
  fits 2 m.seq && m.tin.wf && m.order.wf && fits 1 m.size && fits 1 m.lid && fits 4 m.total && m.dosed.all DosedItem.wf && m.deferral.all DeferItem.wf

def TinReportMsg.wf (m : TinReportMsg) : Bool := m.tin.wf && m.order.wf && fits 1 m.station && fits 4 m.total

def StockReplyMsg.wf (m : StockReplyMsg) : Bool := fits 1 m.canister && fits 4 m.overfill

/-- Sixteen encoders are read (R130). -/
def Sample.wf (x : Sample) : Bool := x.enc.length == 16 && x.tag.all TinId.wf

def HMS.wf (t : HMS) : Bool := fits 1 t.h && fits 1 t.m && fits 1 t.s

/-- An image holds four windows, sixteen canister records and sixteen pump records. -/
def Image.wf (i : Image) : Bool := i.windows.length == 4 && i.canisters.length == 16 && i.pumps.length == 16

/-- A command whose operands fit the fields that carry them. -/
def Instr.wf : Instr → Bool
  | .powerOn _ pins => pins.sample.wf
  | .startingEnd im x => im.fields.wf && x.wf
  | .frameDiscarded f => f.body.length ≤ 255
  | .order src m => stationFits src && m.wf
  | .cancel src id => stationFits src && id.wf
  | .offer src id est => stationFits src && id.wf && fits 2 est
  | .claim src id est _ => stationFits src && id.wf && fits 2 est
  | .withdraw src id => stationFits src && id.wf
  | .jobStatus src m => stationFits src && m.wf
  | .cellStatus src m tag => stationFits src && m.wf && tag.all TinId.wf
  | .consign src m tag => stationFits src && m.wf && tag.all TinId.wf
  | .tinReport src m => stationFits src && m.wf
  | .stockRefill src t c v s b => stationFits src && fits 1 t && fits 1 c && fits 4 v && fits 2 s && fits 2 b
  | .stockSetLevel src t c v s b => stationFits src && fits 1 t && fits 1 c && fits 4 v && fits 2 s && fits 2 b
  | .stockLock src t c => stationFits src && fits 1 t && fits 1 c
  | .stockRelease src t c _ => stationFits src && fits 1 t && fits 1 c
  | .stockReply src m => stationFits src && m.wf
  | .lidLoad src t size lid n _ => stationFits src && fits 1 t && fits 1 size && fits 1 lid && fits 1 n
  | .clock src time day x => stationFits src && time.wf && fits 2 day && x.wf
  | .pause src => stationFits src
  | .resume src x => stationFits src && x.wf
  | .restart src t x => stationFits src && fits 1 t && x.wf
  | .entryStale st => stationFits st
  | .entryGone st => stationFits st
  | .entryFreed st => stationFits st
  | .clockAdvance x => x.wf
  | .capMoveEnd x => x.wf
  | .emergencyStop x => x.wf
  | .loaded x => x.wf
  | .confirm x => x.wf
  | .offerWindowEnd id => id.wf
  | .claimSettleEnd id => id.wf
  | .claimWaitEnd id => id.wf
  | .loadGate x => x.wf
  | .tinOverdue tin => tin.wf
  | .jobStatusRepeat id => id.wf
  | .retentionEnd id => id.wf
  | .indexComplete x => x.wf
  | .consignRepeat seq => fits 2 seq
  | .tinArrival tag => tag.all TinId.wf
  | .holdRead tag => tag.all TinId.wf
  | .lidLoadEntry size lid n _ => fits 1 size && fits 1 lid && fits 1 n
  | .resetAsserted => true
  | .quietGap => true
  | .arbitrationLost => true
  | .frameAbandoned => true
  | .frameComplete => true
  | .statusPeriod => true
  | .idleTimeout => true
  | .estopReleased => true
  | .skip => true
  | .stirringRunEnd _ => true
  | .channelGrant => true
  | .switchEnd _ => true
  | .strokeEnd _ _ => true
  | .refillEnd _ _ => true
  | .driveFault _ _ => true
  | .channelFaultCleared _ => true
  | .spillAsserted => true
  | .spillReleased => true
  | .indexCommand => true
  | .indexTimeout => true
  | .indexFinish => true
  | .loadWaitEnd => true
  | .loadWaitDisplay => true
  | .chuteDoorOpened => true
  | .chuteDoorClosed => true
  | .dispatchFullChange _ => true
  | .tinLiftedOff => true
  | .holdPeriodEnd => true
  | .pressComplete => true
  | .pressTimeout => true
  | .hatchOpened _ => true
  | .hatchClosed _ _ => true
  | .transferInComplete => true
  | .clampConfirmed => true
  | .clampConfirmationLost => true
  | .doorOpened => true
  | .doorClosed => true
  | .shakeRunEnd => true
  | .returnComplete => true
  | .magazineView _ => true
  | .printerReady => true
  | .attentionChange _ _ => true

end Sys2Proof
end

