-- ==== Sys2Proof/Certificates/Slice0/Obligations.lean ====
section
/-! DEFINITION. The statements for the provers: what the rules of spec/ say the commands of a TS-620 do, command by
command, and the laws that every step keeps. -/

open Sys2Proof Sys2Proof.Machine

/-! ## The queue of commands, reset and start-up -/

/-- A step takes the command at the front of the queue and answers what exec answers on the state with the queue's
rest. -/
def Obligations.StepRunsFrontCommand : Prop :=
  ∀ (c : Instr) (rest : List Instr) (s : State), s.pending = c :: rest → step s = exec c { s with pending := rest }

/-- The model's choice (log 2): on an empty queue the block takes a step of its own if one is due, and otherwise 1 ms
passes, after which the commands of the timers that have run out stand in the queue: here those of the status period
(R20), of a PRESENT entry (R22), of the second (R24), of an offer window (R59), of the index timer (R146) and of the
press timer (R190). -/
def Obligations.EmptyQueueStep : Prop :=
  ∀ s : State, s.pending = [] → s.Live →
    (∀ i, s.ownStep = some i → step s = .next { s with pending := [i] }) ∧
    (s.ownStep = none → ∃ t, step s = .next t ∧ t.now = s.now + 1 ∧
      (s.buildsStatus = true → 249 ≤ s.bus.period → .statusPeriod ∈ t.pending) ∧
      (∀ e ∈ s.stations, e.presence = .present → 999 ≤ e.age → .entryStale e.number ∈ t.pending) ∧
      (999 ≤ s.dck.sub → .clockAdvance s.pins.sample ∈ t.pending) ∧
      (∀ e ∈ s.book, e.st = .new → 399 ≤ e.timer → .offerWindowEnd e.id ∈ t.pending) ∧
      (∀ d p n, s.seg.index = .running d p n → 2999 ≤ n → .indexTimeout ∈ t.pending) ∧
      (∀ n, s.lids.bay = .pressing n → 3999 ≤ n → .pressTimeout ∈ t.pending))

/-- Every command answers a next state in every state and leaves the queue of waiting commands as it is: the part
raises no exception and stops on nothing. The station number and the last-cell flag are held until the next power-on
or reset (R201), and the image with the fault from the end of STARTING (R202). -/
def Obligations.EveryCommandAnswersNext : Prop :=
  (∀ (c : Instr) (s : State), ∃ t, exec c s = .next t ∧ t.pending = s.pending) ∧
  (∀ (c : Instr) (s t : State), exec c s = .next t → c ≠ .resetAsserted → (∀ straps pins, c ≠ .powerOn straps pins) →
      t.cfg.station = s.cfg.station ∧ t.cfg.last = s.cfg.last ∧ t.cfg.held = s.cfg.held ∧
      (s.dck.cell ≠ .starting → t.cfg.image = s.cfg.image ∧ t.cfg.fault = s.cfg.fault))

/-- RESET_L low: every output is off, the panel's prompt with them, every block has lost what it held (slots, index,
shaker and the rest at their power-on values), and the pins keep their levels (R201); PSELn then names no pump (the
model's choice, log 55). While it is held low nothing but a power-on changes the state (R201; the model's choice, log
4). -/
def Obligations.ResetHoldsThePart : Prop :=
  (∀ s : State, ∃ t, exec .resetAsserted s = .next t ∧ t.cfg.held = true ∧ t.OutputsOff ∧ t.shown = .off ∧
      t.PowerOnValues s.pins ∧ t.cfg.station = none ∧ t.pending = s.pending) ∧
  (∀ (c : Instr) (s : State), s.cfg.held = true → c ≠ .resetAsserted → (∀ straps pins, c ≠ .powerOn straps pins) →
      exec c s = .next s)

/-- Power-on (R201): every block takes its power-on values, and the straps give the station number and the last-cell
flag. A station number of 1-12 leaves the cell in STARTING; any other leaves it in CONFIG_FAULT with code STRAP and no
station number. With no channel held PSELn names no pump and DIRn is off (the model's choice, log 55). -/
def Obligations.PowerOnReadsStraps : Prop :=
  ∀ (straps : Straps) (pins : Pins) (s : State), ∃ t, exec (.powerOn straps pins) s = .next t ∧
    t.PowerOnValues pins ∧ t.cfg.held = false ∧ t.cfg.last = straps.last ∧ t.pending = s.pending ∧
    t.OutputsOff ∧
    (1 ≤ straps.id.toNat → straps.id.toNat ≤ 12 →
      t.dck.cell = .starting ∧ t.cfg.station = some straps.id.toNat ∧ t.cfg.fault = none) ∧
    (straps.id.toNat = 0 ∨ 13 ≤ straps.id.toNat →
      t.dck.cell = .configFault ∧ t.cfg.station = none ∧ t.cfg.fault = some { code := .strap, item := none })

/-- The image check in its order (R203): an image passes where the format, the CRC, the window times, the base windows
(R44), the canister records (R97), the pump records of fitted canisters (R117) and the intake settings (R171) are in
range. Where every earlier check passes, each check that fails gives its own code, and checks 4 to 6 name the lowest
failing index. -/
def Obligations.ImageCheckFirstFailure : Prop :=
  ∀ (r : ImageRead) (crc times intake : Prop) (window : ImgWindow → Prop) (canister : CanisterCfg → Prop) (pump : Nat → Prop),
    r.fields.wf = true →
    (crc ↔ crc16 (byteBits r.bytes) = r.crc) →
    (times ↔ r.fields.openTime.h ≤ 23 ∧ r.fields.openTime.m ≤ 59 ∧ r.fields.openTime.s ≤ 59 ∧
      r.fields.closeTime.h ≤ 23 ∧ r.fields.closeTime.m ≤ 59 ∧ r.fields.closeTime.s ≤ 59) →
    (∀ w, window w ↔ w.enable ≠ .bad ∧ w.permit ≠ .bad ∧ w.shake ≠ .bad ∧
      (w.enable = .on → w.permit = .on → 1 ≤ w.lid ∧ w.lid ≤ 255 ∧ w.shake ≠ .absent)) →
    (∀ c, canister c ↔ c.colorant ≤ 250 ∧ (c.colorant ≠ 0 →
      500000 ≤ c.capacity ∧ c.capacity ≤ 4000000 ∧ c.dead ≤ 100000 ∧ c.dead < c.capacity ∧ c.lowMark ≤ c.capacity ∧
      1 ≤ c.interval ∧ c.interval ≤ 240 ∧ 5 ≤ c.duration ∧ c.duration ≤ 120)) →
    (∀ n, pump n ↔ ((r.fields.canisters.getD n default).colorant ≠ 0 → ∀ p, p = r.fields.pumps.getD n default →
      20 ≤ p.d ∧ p.d ≤ 5000 ∧ 500 ≤ p.strokeSteps ∧ p.strokeSteps ≤ 20000 ∧ 3 ≤ p.minShot ∧ p.minShot ≤ 50 ∧
      1 ≤ p.tolerance ∧ p.tolerance ≤ 31)) →
    (intake ↔ r.fields.goodReads ≤ 8 ∧ r.fields.holdPeriod ≤ 30 ∧ r.fields.attempts ≤ 8) →
    (checkImage r = none ↔ r.headerOk = true ∧ crc ∧ times ∧ (∀ w ∈ r.fields.windows, window w) ∧
      (∀ c ∈ r.fields.canisters, canister c) ∧ (∀ n < 16, pump n) ∧ intake) ∧
    (r.headerOk = false → checkImage r = some { code := .format, item := none }) ∧
    (r.headerOk = true → ¬ crc → checkImage r = some { code := .imageCrc, item := none }) ∧
    (r.headerOk = true → crc → ¬ times → checkImage r = some { code := .workWindow, item := none }) ∧
    (r.headerOk = true → crc → times → ∀ n < 4, ¬ window (r.fields.windows.getD n default) →
      (∀ m < n, window (r.fields.windows.getD m default)) → checkImage r = some { code := .baseWindow, item := some n }) ∧
    (r.headerOk = true → crc → times → (∀ w ∈ r.fields.windows, window w) →
      ∀ n < 16, ¬ canister (r.fields.canisters.getD n default) →
      (∀ m < n, canister (r.fields.canisters.getD m default)) → checkImage r = some { code := .canister, item := some n }) ∧
    (r.headerOk = true → crc → times → (∀ w ∈ r.fields.windows, window w) → (∀ c ∈ r.fields.canisters, canister c) →
      ∀ n < 16, ¬ pump n → (∀ m < n, pump m) → checkImage r = some { code := .pump, item := some n }) ∧
    (r.headerOk = true → crc → times → (∀ w ∈ r.fields.windows, window w) → (∀ c ∈ r.fields.canisters, canister c) →
      (∀ n < 16, pump n) → ¬ intake → checkImage r = some { code := .intake, item := none })

/-- The end of STARTING (R202, R203): a bad image puts the cell in CONFIG_FAULT with the fault, no part of it handed
out; a good one fills every block, and the cell state is HALTED while ESTOP_L is low, PAUSED under a pause, and
otherwise CAPPED with the stopped cap driven to the end its clock-given state needs (R38). The first CELL STATUS is
queued (R20). -/
def Obligations.StartingEnds : Prop :=
  ∀ (r : ImageRead) (x : Sample) (s : State), s.Live → s.dck.cell = .starting → s.dck.halt = false → s.bus.queue = [] →
    (∀ f, checkImage r = some f →
      ∃ t, exec (.startingEnd r x) s = .next t ∧ t.dck.cell = .configFault ∧ t.cfg.fault = some f ∧
        t.cfg.image = s.cfg.image ∧
        t = { s with bus := t.bus, dck := t.dck, cfg := t.cfg, pins := t.pins } ∧
        (t.bus.queue.map Queued.notice = [.cellStatus t.statusMsg])) ∧
    (checkImage r = none → r.fields.wf = true → x.laneHead = false →
      ∃ t, exec (.startingEnd r x) s = .next t ∧ t.cfg.image = some r.fields ∧
        (∀ n < 8, t.slot n = if x.slots.getLsbD n then some .unknown else none) ∧
        (∀ n < 16, ∀ c, t.fitted n = some c →
          (t.canister n).stock = none ∧ (t.canister n).reserved = 0 ∧ (t.canister n).stir.st = .idle ∧
          (t.canister n).stir.due = s.dck.moment.add (c.interval * 60) ∧
          (t.pump n).valve = .unknown ∧ (t.pump n).content = rederive (t.pumpCfg n) (x.enc.getD n 0) ∧
          ((t.pump n).st = if profileBad (t.pumpCfg n) then .unusable else .idle)) ∧
        (t.shaker.st = (if x.shakerTin then .unclamping else .empty)
          ∨ (x.shakerTin = true ∧ t.shaker.st = .returning)) ∧
        t.xfr.intake = .opened ∧ t.dck.moment = s.dck.moment ∧
        (s.pins.estop = true → t.dck.cell = .halted ∧ t.dck.halt = true) ∧
        (s.pins.estop = false → s.dck.pause = true → t.dck.cell = .paused) ∧
        (s.pins.estop = false → s.dck.pause = false → s.dck.cap = .stopped →
          t.dck.cell = .capped ∧ t.dck.cap = if t.inside then .opening else .closing) ∧
        (t.bus.queue.map Queued.notice = [.cellStatus t.statusMsg]))

/-- RESTART (R205): taken in the six working states by the cell it is addressed to. Orders, station table, records and
queue go, a notice in transmission alone staying to end (R10; never sent again: the model's choice, log 10); image,
station, day clock, levels but for the steps a cut stroke emitted, strengths, batches, locks, magazines, serial and
counters stay, but for a drop by a JOB STATUS of the re-test that the refresh of a STALE or GONE sender brings (R22,
R65); the tins of this cell become UNKNOWN where a sensor shows one, in the shaker too, which then returns its tin
(R200); every record of another cell's tin is reported REJECTED once; no entry, reservation or pending lock is left,
and a CELL STATUS with the restarted flag is placed. -/
def Obligations.RestartClearsRecords : Prop :=
  ∀ (src target : Nat) (x : Sample) (s : State), s.Hears .terminal src → s.inService = true →
    (target = s.self ∨ target = 31) → s.QueueBound → s.seg.slots.length = 8 → s.xfr.inTransit.length ≤ 3 →
    ∃ t, exec (.restart src target x) s = .next t ∧
      t.book = [] ∧ t.stations = [] ∧ t.xfr.inTransit = [] ∧ t.xfr.expected = [] ∧ t.xfr.pointer = 0 ∧
      t.xfr.release = 0 ∧ t.xfr.restarted = 0 ∧ t.xfr.cutShort = false ∧ t.shots.waiting = [] ∧ t.panel.message = none ∧ t.panel.label = none ∧
      (∀ n < 8, t.slot n = if x.slots.getLsbD n then some .unknown else none) ∧
      (∀ ch < 4, t.channel ch = none) ∧
      (∀ n, (t.canister n).reserved = 0 ∧ (t.canister n).pendingLock = false ∧
        (t.canister n).lock = ((s.canister n).lock || (s.canister n).pendingLock)) ∧
      (∀ n, (∀ ch < 4, s.heldCanister ch ≠ some n) → (t.canister n).stock = (s.canister n).stock) ∧
      (∀ n, (∃ ch < 4, s.heldCanister ch = some n) → (t.canister n).stock = (s.canister n).stock.map (fun k =>
        { k with level := k.level - (if (s.pump n).st = .stroking then s.driven n else 0) * (s.pumpCfg n).d })) ∧
      t.lids.magazines = s.lids.magazines ∧ t.lids.bay = .idle ∧ t.seg.prompt = .none ∧ t.seg.serial = s.seg.serial ∧
      (x.shakerTin = false → t.shaker = { st := .empty, tin := none, left := 0, resume := 0, halted := false }) ∧
      (x.shakerTin = true → t.shaker.tin = some .unknown ∧ t.shaker.st =
        if s.pins.clamp = false ∧ x.slots.getLsbD 7 = false ∧ x.offIndex = false ∧ t.working = true then .returning
        else .unclamping) ∧
      t.cfg = s.cfg ∧ t.dck.moment = s.dck.moment ∧ t.dck.unset = s.dck.unset ∧ t.dck.pause = s.dck.pause ∧
      t.dck.jam = false ∧ t.dck.halt = (s.dck.halt || s.pins.estop) ∧ t.atn = s.atn ∧
      t.seg.chute = s.seg.chute ∧ t.bus.rxErrors = s.bus.rxErrors ∧
      t.bus.sendDrops = ((s.latch x).refresh src none).bus.sendDrops ∧
      ((∀ e ∈ s.book, e.st ≠ .ownBlocked) ∨ s.bus.queue.length + s.book.length ≤ 16 ∨
        (∀ e, s.peer src = some e → e.presence = .present) → t.bus.sendDrops = s.bus.sendDrops) ∧
      (t.dck.halt = true → t.dck.cell = .halted) ∧ (t.dck.halt = false → t.dck.pause = true → t.dck.cell = .paused) ∧
      (t.dck.halt = false → t.dck.pause = false → t.dck.cell = .run ∨ t.dck.cell = .night ∨ t.dck.cell = .capped) ∧
      t.bus.queue.filter Queued.sending = (s.bus.queue.filter Queued.sending).map (fun q => { q with final := true }) ∧
      (t.bus.queue.filter (fun q => !q.sending)).length = (s.tinTable.filter (fun a => a.id.cell ≠ s.self)).length + 1 ∧
      (∀ a ∈ s.tinTable, a.id.cell ≠ s.self → ∃ q ∈ t.bus.queue, q.sending = false ∧ ∃ m, q.notice = .tinReport m ∧
        m = TinReportMsg.mk a.id a.order .rejected (some .unknownAfterRestart) s.self m.total a.raised a.omitted ∧
        (s.tinAt 2 ≠ some a → m.total = a.total)) ∧
      (∀ q ∈ t.bus.queue, q.sending = false →
        (∃ m, q.notice = .cellStatus m ∧ m.restarted = true ∧ m.restartedCount = 0) ∨
        (∃ m, q.notice = .tinReport m ∧ ∃ a ∈ s.tinTable, a.id.cell ≠ s.self ∧ m.tin = a.id)) ∧
      (∃ q ∈ t.bus.queue, q.sending = false ∧ ∃ m, q.notice = .cellStatus m ∧ m.restarted = true ∧ m.restartedCount = 0)

/-- Who may send a notice and to whom it is addressed (R12 to R15): a notice of any kind whose sender is this cell, or
is of the wrong kind of station, is counted and changes nothing but the pin readings it brings (log 5); a STOCK, LID
LOAD or RESTART with another target, a CONSIGN that is not the upstream neighbour's, a STOCK REPLY and a TIN REPORT of
another cell's tin leave the blocks they name as they are. A terminal's notice refreshes its entry in every state, in
STARTING too (the model's reading, log 8). -/
def Obligations.UnaddressedNoticesAreLeft : Prop :=
  ∀ (src : Nat) (s : State), s.Live → s.listening = true →
    (Sender.terminal.allows src = false ∨ src = s.self →
      (∀ m, exec (.order src m) s = .next s.rxError) ∧ (∀ id, exec (.cancel src id) s = .next s.rxError) ∧
      (∀ target n v k b, exec (.stockRefill src target n v k b) s = .next s.rxError ∧
        exec (.stockSetLevel src target n v k b) s = .next s.rxError) ∧
      (∀ target n g, exec (.stockLock src target n) s = .next s.rxError ∧ exec (.stockRelease src target n g) s = .next s.rxError) ∧
      (∀ time day x, exec (.clock src time day x) s = .next (s.latch x).rxError) ∧ exec (.pause src) s = .next s.rxError ∧
      (∀ x, exec (.resume src x) s = .next (s.latch x).rxError) ∧
      (∀ target x, exec (.restart src target x) s = .next (s.latch x).rxError)) ∧
    (Sender.either.allows src = false ∨ src = s.self → ∀ target size lid count b,
      exec (.lidLoad src target size lid count b) s = .next (s.latchLid b).rxError) ∧
    (Sender.cell.allows src = false ∨ src = s.self →
      (∀ id est, exec (.offer src id est) s = .next s.rxError) ∧
      (∀ id est committed, exec (.claim src id est committed) s = .next s.rxError) ∧
      (∀ id, exec (.withdraw src id) s = .next s.rxError) ∧ (∀ m, exec (.jobStatus src m) s = .next s.rxError) ∧
      (∀ m tag, exec (.cellStatus src m tag) s = .next (s.latchTag tag).rxError) ∧
      (∀ m tag, exec (.consign src m tag) s = .next (s.latchTag tag).rxError) ∧
      (∀ m, exec (.tinReport src m) s = .next s.rxError) ∧ (∀ m, exec (.stockReply src m) s = .next s.rxError)) ∧
    (s.Hears .terminal src → ∀ target, target ≠ s.self → target ≠ 31 → ∀ c v k b g,
      exec (.stockRefill src target c v k b) s = .next (s.refresh src none) ∧
      exec (.stockSetLevel src target c v k b) s = .next (s.refresh src none) ∧
      exec (.stockLock src target c) s = .next (s.refresh src none) ∧
      exec (.stockRelease src target c g) s = .next (s.refresh src none) ∧
      (∀ b, exec (.lidLoad src target c v k b) s = .next ((s.latchLid b).refresh src none)) ∧
      ∀ x, exec (.restart src target x) s = .next ((s.latch x).refresh src none)) ∧
    (s.Hears .cell src → ∀ m : TinReportMsg, m.tin.cell ≠ s.self → exec (.tinReport src m) s = .next s) ∧
    (s.Hears .cell src → ∀ m, exec (.stockReply src m) s = .next s) ∧
    (s.Hears .cell src → src + 1 ≠ s.self → ∀ m tag, consignOk m = true → exec (.consign src m tag) s = .next (s.latchTag tag))

/-! ## The cell bus -/

/-- QUIET_GAP (R2, R7, R10): with no notice in transmission, the head of the queue goes into transmission and its
frame is on CBUS_TX; a cell in STARTING, one whose queue is empty and one that is sending change nothing.
ARBITRATION_LOST (R3) leaves the notice in its place with its attempt count; FRAME_ABANDONED (R4) counts an attempt,
and at 8 attempts drops the notice and counts the drop. After a RESTART neither sends the notice again (R10; the
model's choice, log 10). -/
def Obligations.FramesSentLostAbandoned : Prop :=
  (∀ s : State, s.Live →
      (∀ q l, s.bus.queue = q :: l → (∀ a ∈ q :: l, a.sending = false) → s.dck.cell ≠ .starting →
        ∃ t, exec .quietGap s = .next t ∧ t = { s with bus := { s.bus with queue := { q with sending := true } :: l } } ∧
          t.txFrame = some (q.notice.frame s.self)) ∧
      (s.bus.queue = [] ∨ s.dck.cell = .starting ∨ (∃ a ∈ s.bus.queue, a.sending = true) → exec .quietGap s = .next s)) ∧
  (∀ (s : State) (q : Queued) (pre post : List Queued), s.Live → s.bus.queue = pre ++ q :: post → q.sending = true →
      (∀ a ∈ pre ++ post, a.sending = false) →
      (q.final = false →
        exec .arbitrationLost s = .next { s with bus := { s.bus with queue := pre ++ { q with sending := false } :: post } } ∧
        (q.attempts < 7 → exec .frameAbandoned s = .next { s with bus := { s.bus with
          queue := pre ++ { q with sending := false, attempts := q.attempts + 1 } :: post } })) ∧
      (7 ≤ q.attempts → exec .frameAbandoned s = .next { s with bus := { s.bus with
          queue := pre ++ post, sendDrops := min 255 (s.bus.sendDrops + 1) } }) ∧
      (q.final = true →
        exec .arbitrationLost s = .next { s with bus := { s.bus with queue := pre ++ post } } ∧
        (q.attempts < 7 → exec .frameAbandoned s = .next { s with bus := { s.bus with queue := pre ++ post } })))

/-- FRAME_COMPLETE (R5, R20, R165, R211): the notice leaves the queue. A CONSIGN starts its record's repeat timer
afresh; a CELL STATUS that carries the restarted flag is counted to 8, and the attention records it carried are
removed (by the model's record numbers, log 33). A CONSIGN finds its record by sequence alone (the model's choice, log
42). -/
def Obligations.CompletedFrameLeavesQueue : Prop :=
  ∀ (s : State) (q : Queued) (pre post : List Queued), s.Live → s.bus.queue = pre ++ q :: post → q.sending = true →
    (∀ a ∈ pre ++ post, a.sending = false) →
    ∃ t, exec .frameComplete s = .next t ∧ t.bus = { s.bus with queue := pre ++ post } ∧
      t = { s with bus := t.bus, xfr := t.xfr, atn := t.atn } ∧
      (∀ m, q.notice = .consign m → t.atn = s.atn ∧ t.xfr = { s.xfr with inTransit := s.xfr.inTransit.map (fun r =>
        if r.seq = m.seq then { r with time := 0 } else r) }) ∧
      (∀ m, q.notice = .cellStatus m →
        t.xfr = { s.xfr with restarted := if m.restarted then min 8 (s.xfr.restarted + 1) else s.xfr.restarted } ∧
        (∀ r, r ∈ t.atn.records ↔ r ∈ s.atn.records ∧ r.uid ∉ q.uids) ∧
        (t.atn.overwrite = true ↔ s.atn.overwrite = true ∧ ¬(m.overwrite = true ∧ s.atn.replaced = q.replaced)) ∧
        t.atn.settled = s.atn.settled) ∧
      ((∀ m, q.notice ≠ .consign m) → (∀ m, q.notice ≠ .cellStatus m) → t.xfr = s.xfr ∧ t.atn = s.atn)

/-- FRAME_DISCARDED (R11, R12, R13): a frame that is too long, cut short, wrong in its CRC, of an unknown kind, of the
wrong class, of a sender that may not send it or is this cell, or of a wrong length raises the receive-error counter
by 1, up to 255, and changes nothing else; an ORDER that fails the length check alone with 3 bytes or more is not
discarded. What this cell puts on the line passes every check at any other cell (R1). -/
def Obligations.FrameChecks : Prop :=
  (∀ (f : RawFrame) (s : State), s.Live → s.listening = true →
      (240 < f.len.toNat ∨ f.whole = false ∨ crc16 (coveredBits f.cls f.sender f.kind f.len f.body) ≠ f.crc ∨
          kindRow f.kind.toNat = none ∨ f.sender.toNat = s.self ∨
          (∃ c k, kindRow f.kind.toNat = some (c, k) ∧ (f.cls.toNat ≠ c ∨ k.allows f.sender.toNat = false)) ∨
          (lengthOk f.kind.toNat f.sender.toNat f.body = false ∧ (f.kind ≠ 0x01 ∨ f.body.length < 3)) →
        exec (.frameDiscarded f) s =
          .next { s with bus := { s.bus with rxErrors := min 255 (s.bus.rxErrors + 1) } }) ∧
      (RawFrame.bad f = false → RawFrame.fits f s.self = true → f.kind = 0x01 → 3 ≤ f.body.length →
        exec (.frameDiscarded f) s = .next s)) ∧
  (∀ (n : Notice) (self other : Nat), 1 ≤ self → self ≤ 12 → other ≠ self →
      (∀ m, n = .cellStatus m → m.station = self ∧ m.cover.length ≤ 16 ∧ m.windows.length = 4 ∧ m.attention.length ≤ 2) →
      (∀ m, n = .consign m → m.dosed.length + m.deferral.length ≤ 12) →
      n.body.length ≤ 240 ∧
      ∃ f : RawFrame, n.frame self = false :: coveredBits f.cls f.sender f.kind f.len f.body ++ bitsOf f.crc ∧
        f.whole = true ∧ f.cls.toNat = n.cls ∧ f.sender.toNat = self ∧ f.kind.toNat = n.kind ∧ f.body = n.body ∧
        RawFrame.discarded f other = false)

/-- Placing a notice (R7, R9): below 16 it takes its place behind the notices of its class and ahead of the next; at
16 the oldest notice of the highest class present among those not in transmission goes, or the new one where it is
alone in that class, and the drop is counted. -/
def Obligations.PlacedNoticeKeepsOrder : Prop :=
  ∀ (s : State) (n : Notice), s.QueueBound →
    s.place n = { s with bus := (s.place n).bus } ∧ (s.place n).bus.rxErrors = s.bus.rxErrors ∧
    (s.bus.queue.length < 16 → (s.place n).bus.sendDrops = s.bus.sendDrops ∧
      (s.place n).bus.queue = s.bus.queue.filter (fun a => a.notice.cls ≤ n.cls) ++
        n.queued :: s.bus.queue.filter (fun a => n.cls < a.notice.cls)) ∧
    (∀ pre a post, s.bus.queue = pre ++ a :: post → s.bus.queue.length = 16 → a.sending = false →
      (∀ b ∈ pre, b.sending = true ∨ b.notice.cls ≠ a.notice.cls) →
      (∀ b ∈ pre ++ post, b.sending = true ∨ b.notice.cls ≤ a.notice.cls) → n.cls ≤ a.notice.cls →
      (s.place n).bus.sendDrops = min 255 (s.bus.sendDrops + 1) ∧
      (s.place n).bus.queue = (pre ++ post).filter (fun b => b.notice.cls ≤ n.cls) ++
        n.queued :: (pre ++ post).filter (fun b => n.cls < b.notice.cls)) ∧
    (s.bus.queue.length = 16 → (∀ b ∈ s.bus.queue, b.sending = true ∨ b.notice.cls < n.cls) →
      (s.place n).bus.sendDrops = min 255 (s.bus.sendDrops + 1) ∧ (s.place n).bus.queue = s.bus.queue)

/-- STATUS_PERIOD (R19, R20, R8): a CELL STATUS carrying the state of its owning blocks is built, the period starts
again, and the status takes the place of a queued one or goes last. Of two queued ones the first is replaced (the
model's choice, log 9), and a cell in CONFIG_FAULT carries its attention records too (the model's reading, log 25). -/
def Obligations.StatusPeriodBuildsStatus : Prop :=
  ∀ s : State, s.Live → s.listening = true → s.dck.cell ≠ .starting →
    ∃ t m, exec .statusPeriod s = .next t ∧ t = { s with bus := t.bus } ∧ t.bus.period = 0 ∧
      t.bus.rxErrors = s.bus.rxErrors ∧
      m.station = s.self ∧ m.state = s.dck.cell ∧ m.last = s.cfg.last ∧
      (m.pause = true ↔ s.dck.pause = true ∧ s.dck.cell ≠ .configFault) ∧
      (m.unset = true ↔ s.dck.unset = true ∧ s.dck.cell ≠ .configFault) ∧
      (m.restarted = true ↔ s.xfr.restarted < 8) ∧ m.restartedCount = s.xfr.restarted ∧
      m.cover.map CoverItem.canister = (List.range 16).filter (fun n => (s.fitted n).isSome) ∧
      (∀ i ∈ m.cover, ∃ c, s.fitted i.canister = some c ∧ i.colorant = c.colorant ∧
        i.cls = s.levelClass i.canister ∧ i.cls ≠ .notFitted ∧
        (i.usable = true ↔ (i.cls = .full ∨ i.cls = .ok ∨ i.cls = .low) ∧ (s.canister i.canister).pendingLock = false)) ∧
      m.windows = s.windows ∧ m.pointer = s.xfr.pointer ∧
      (m.intakeHold = true ↔ ∃ g a h r l, s.xfr.intake = .hold g a h r l) ∧ m.backlog = s.backlog ∧
      (m.lidWait = true ↔ ∃ f, s.lids.bay = .lidWait f) ∧ (m.lidWait = false → m.lidWaitSize = 0) ∧
      (∀ f a, s.lids.bay = .lidWait f → s.tinAt 4 = some a → m.lidWaitSize = a.size) ∧
      (m.chuteFull = true ↔ s.seg.chute = 6 ∧ s.dck.cell ≠ .configFault) ∧
      (m.dispatchFull = true ↔ s.cfg.last = true ∧ s.pins.dispatchFull = true ∧ s.dck.cell ≠ .configFault) ∧
      m.attention = s.atn.records.map Captured.change ∧ m.overwrite = s.atn.overwrite ∧
      m.rxErrors = s.bus.rxErrors ∧ m.sendDrops = s.bus.sendDrops ∧
      ((∀ a ∈ s.bus.queue, a.sending = true ∨ ∀ o, a.notice ≠ .cellStatus o) → s.bus.queue.length < 16 →
        t.bus.queue.map Queued.notice = s.bus.queue.map Queued.notice ++ [.cellStatus m]) ∧
      (∀ pre a post o, s.bus.queue = pre ++ a :: post → a.notice = .cellStatus o → a.sending = false →
        (∀ b ∈ pre, b.sending = true ∨ ∀ o, b.notice ≠ .cellStatus o) →
        t.bus.queue.map Queued.notice = pre.map Queued.notice ++ .cellStatus m :: post.map Queued.notice ∧
        t.bus.sendDrops = s.bus.sendDrops)

/-! ## The station table -/

/-- The ageing of an entry (R22): PRESENT becomes STALE, STALE becomes GONE, both keeping the status heard, and a GONE
entry is freed; each change has the blocked jobs re-tested. With the upstream neighbour's entry the expected list
goes, but for the item the intake stands CLEARED against (R179). A re-test (R65, R71) makes each eligible blocked job
OWN_ACTIVE with a JOB STATUS ACTIVE and changes nothing else. -/
def Obligations.EntriesAgeOut : Prop :=
  (∀ (n : Nat) (e : Station) (s : State), s.Live → s.peer n = some e →
      (e.presence = .present → ∃ t, exec (.entryStale n) s = .next t ∧ t.peer n = some { e with presence := .stale } ∧
        (∀ m, m ≠ n → t.peer m = s.peer m) ∧
        t = State.retestBlocked { s with stations := t.stations }) ∧
      (e.presence = .stale → ∃ t, exec (.entryGone n) s = .next t ∧ t.peer n = some { e with presence := .gone } ∧
        (∀ m, m ≠ n → t.peer m = s.peer m) ∧ (n = s.downstream → t.repeatsOn = false) ∧
        t = State.retestBlocked { s with stations := t.stations }) ∧
      (e.presence = .gone → ∃ t, exec (.entryFreed n) s = .next t ∧ t.peer n = none ∧
        (∀ m, m ≠ n → t.peer m = s.peer m) ∧
        t = { State.retestBlocked { s with stations := t.stations } with xfr := t.xfr } ∧
        (n + 1 ≠ s.self → t.xfr = s.xfr) ∧
        (n + 1 = s.self → t.xfr = { s.xfr with expected := t.xfr.expected } ∧ (∀ i, i ∈ t.xfr.expected ↔
          i ∈ s.xfr.expected ∧ ∃ d, s.xfr.intake = .cleared d ∧ Disposition.seq d = some i.msg.seq)))) ∧
  (∀ s : State, (s.book.map OrderEntry.id).Nodup →
      s.retestBlocked = { s with book := s.retestBlocked.book, bus := s.retestBlocked.bus } ∧
      s.retestBlocked.book = s.book.map (fun e => if e.st = .ownBlocked ∧ s.eligibleEntry e = true then
        { e with st := .ownActive, job := e.job.map (fun j => { j with repeatTime := 0 }) } else e) ∧
      s.retestBlocked.bus.rxErrors = s.bus.rxErrors ∧
      (s.bus.queue.length + (s.book.filter (fun e => e.st = .ownBlocked)).length ≤ 16 →
        ∀ e ∈ s.book, ∀ j, e.st = .ownBlocked → s.eligibleEntry e = true → e.job = some j →
          Notice.jobStatus (jobStatusMsg s.self e j .active) ∈ s.retestBlocked.bus.queue.map Queued.notice))

/-- CELL_STATUS (R12, R21, R22): the sender's entry is PRESENT with age 0 and the status heard, replaced whole, and no
other entry changes. From a cell that is no neighbour it has the blocked jobs re-tested and does nothing else. A
status whose counts are out of range or whose station is not its sender is counted and changes nothing else; the
counts meant are those of its lists (the model's reading, log 38). -/
def Obligations.CellStatusRefreshesEntry : Prop :=
  ∀ (src : Nat) (m : CellStatusMsg) (tag : Option TinId) (s : State), s.Hears .cell src →
    ((16 < m.cover.length ∨ 2 < m.attention.length ∨ m.station ≠ src) →
      exec (.cellStatus src m tag) s = .next (s.latchTag tag).rxError) ∧
    (m.cover.length ≤ 16 → m.attention.length ≤ 2 → m.station = src → ∃ t, exec (.cellStatus src m tag) s = .next t ∧
      t.peer src = some { number := src, presence := .present, age := 0, status := some m } ∧
      (∀ n, n ≠ src → t.peer n = s.peer n) ∧ t.seg = { s.seg with prompt := t.seg.prompt } ∧ t.dck = s.dck ∧ t.canisters = s.canisters ∧ t.shots = s.shots ∧
      t.lids = s.lids ∧ t.shaker = s.shaker ∧
      (src + 1 ≠ s.self → src ≠ s.self + 1 → (s.book.map OrderEntry.id).Nodup →
        t = { s.latchTag tag with stations := t.stations, book := t.book, bus := t.bus } ∧
        t.book.map (fun e => (e.id, e.st)) = s.book.map (fun e =>
          (e.id, if e.st = .ownBlocked ∧ t.eligibleEntry e = true then .ownActive else e.st))))

/-! ## The day clock -/

/-- A duration added to a moment (R26): whole days are carried into the day count, which goes from 65535 to 0, and the
sum is never earlier. The later of two moments by the difference of the days modulo 65,536, and on one day by the time
(R27); a due moment is reached where the present moment, taken as the first of the two, is the same or later, so that
one exactly 32,768 days away is not (the model's choice, log 53). Membership of the working window by the open and
close times, at every time where they are equal, and always while the clock is unset (R24); it gives RUN inside and
NIGHT outside (R28, R29). -/
def Obligations.MomentsAndWindow : Prop :=
  (∀ (m : Moment) (d : Nat), m.day < 65536 → m.sec < 86400 →
      (m.add d).sec < 86400 ∧ (m.add d).day < 65536 ∧
      (∃ k, m.sec + d = k * 86400 + (m.add d).sec ∧ (m.add d).day = (m.day + k) % 65536) ∧
      (d ≤ 32767 * 86400 → Moment.later m (m.add d) = false ∧ Moment.reached (m.add d) m = true)) ∧
  (∀ a b : Moment, a.day < 65536 → b.day < 65536 →
      (a.day = b.day → (Moment.later a b = true ↔ b.sec < a.sec)) ∧
      (∀ k, a.day = (b.day + k) % 65536 → 1 ≤ k → k ≤ 32767 → Moment.later a b = true ∧ Moment.later b a = false) ∧
      (∀ k, a.day = (b.day + k) % 65536 → 32768 ≤ k → k ≤ 65535 → Moment.later a b = false) ∧
      (Moment.reached a b = true ↔ Moment.later a b = true ∨ a = b)) ∧
  (∀ s : State,
      (s.dck.unset = true → s.inside = true) ∧
      (∀ im, s.cfg.image = some im → s.dck.unset = false →
        (secsOf im.openTime < secsOf im.closeTime →
          (s.inside = true ↔ secsOf im.openTime ≤ s.dck.moment.sec ∧ s.dck.moment.sec < secsOf im.closeTime)) ∧
        (secsOf im.closeTime < secsOf im.openTime →
          (s.inside = true ↔ secsOf im.openTime ≤ s.dck.moment.sec ∨ s.dck.moment.sec < secsOf im.closeTime)) ∧
        (secsOf im.openTime = secsOf im.closeTime → s.inside = true)) ∧
      (s.inside = true → s.clockGiven = .run) ∧ (s.inside = false → s.clockGiven = .night))

/-- CLOCK (R25, R28, R30, R33, R112, R113): one out of range is counted and changes nothing else. Another sets the
moment and clears the unset flag; a closing moves RUN to NIGHT, an opening NIGHT to RUN, and a cap that is closed in
CAPPED opens inside the window; a backward setting or an opening pulls the due moment of an idle stirrer back to one
interval from the new moment (a setting by exactly 32,768 days counts as forward: the model's choice, log 48; a due
moment exactly that far away is neither reached nor ahead: log 53). CLOCK_ADVANCE (R24, R28, R30, R107, R108): the
time rises by one second, past 23:59:59 the day count rises, and a stirrer whose due moment is reached runs its full
duration, waits while an entry holds the canister, or keeps its flag where the state permits no run. -/
def Obligations.ClockMoves : Prop :=
  (∀ (src : Nat) (time : HMS) (day : Nat) (x : Sample) (s : State), s.Hears .terminal src →
      (23 < time.h ∨ 59 < time.m ∨ 59 < time.s →
        exec (.clock src time day x) s = .next ((s.latch x).refresh src none).rxError) ∧
      (time.h ≤ 23 → time.m ≤ 59 → time.s ≤ 59 → day < 65536 → ∃ t, exec (.clock src time day x) s = .next t ∧
        t.dck.moment = { day := day, sec := time.h * 3600 + time.m * 60 + time.s } ∧ t.dck.sub = 0 ∧ t.dck.unset = false ∧
        t.dck.pause = s.dck.pause ∧ t.dck.jam = s.dck.jam ∧ t.dck.halt = s.dck.halt ∧
        (s.dck.cell = .run → t.dck.cell = if s.inside = true ∧ t.inside = false then .night else .run) ∧
        (s.dck.cell = .night → t.dck.cell = if s.inside = false ∧ t.inside = true then .run else .night) ∧
        (s.dck.cell ≠ .run → s.dck.cell ≠ .night → t.dck.cell = s.dck.cell) ∧
        (s.dck.cell = .capped → t.inside = true → s.dck.cap = .closed → t.dck.cap = .opening) ∧
        (s.dck.cell ≠ .capped → t.dck.cap = s.dck.cap) ∧
        (∀ n, (t.canister n).stock = (s.canister n).stock ∧ (t.canister n).reserved = (s.canister n).reserved) ∧
        (∀ n < 16, ∀ c, s.fitted n = some c → s.canisters.length = 16 → (s.canister n).stir.st = .idle →
          (s.canister n).stir.flag = false → (s.canister n).stir.due.day < 65536 →
          (t.canister n).stir.due =
            if (Moment.later s.dck.moment t.dck.moment = true ∨ s.inside = false ∧ t.inside = true) ∧
                Moment.later (s.canister n).stir.due t.dck.moment = true ∧
                c.interval * 60 * (if t.inside then 1 else 4) < Moment.ahead (s.canister n).stir.due t.dck.moment
            then t.dck.moment.add (c.interval * 60 * (if t.inside then 1 else 4)) else (s.canister n).stir.due) ∧
        t.xfr = s.xfr ∧ t.atn = s.atn ∧ t.cfg = s.cfg ∧ t.seg.slots = s.seg.slots)) ∧
  (∀ (x : Sample) (s : State), s.Live → s.dck.moment.sec < 86400 →
      ∃ t, exec (.clockAdvance x) s = .next t ∧ t.dck.sub = 0 ∧ t.dck.unset = s.dck.unset ∧
        (s.dck.moment.sec < 86399 → t.dck.moment = { day := s.dck.moment.day % 65536, sec := s.dck.moment.sec + 1 }) ∧
        (s.dck.moment.sec = 86399 → t.dck.moment = { day := (s.dck.moment.day + 1) % 65536, sec := 0 }) ∧
        (s.dck.cell = .run → t.dck.cell = if s.inside = true ∧ t.inside = false then .night else .run) ∧
        (s.dck.cell = .night → t.dck.cell = if s.inside = false ∧ t.inside = true then .run else .night) ∧
        (s.dck.cell ≠ .run → s.dck.cell ≠ .night → t.dck.cell = s.dck.cell) ∧
        (∀ n < 16, ∀ c, s.fitted n = some c → s.canisters.length = 16 → (s.canister n).stir.st = .idle →
          (s.canister n).stir.flag = false → Moment.reached t.dck.moment (s.canister n).stir.due = true →
          (t.canister n).stir.due = (s.canister n).stir.due ∧
          (s.canisterHeld n = true → (t.canister n).stir.st = .waiting ∧ (t.canister n).stir.flag = true) ∧
          (s.canisterHeld n = false → s.working = true → (t.canister n).stir.st = .running ∧
            (t.canister n).stir.flag = false ∧ (t.canister n).stir.left = c.duration * 1000) ∧
          (s.canisterHeld n = false → s.working = false → (t.canister n).stir.st = .idle ∧ (t.canister n).stir.flag = true)) ∧
        t.book = s.book ∧ t.bus = s.bus ∧ t.stations = s.stations ∧ t.xfr = s.xfr ∧ t.atn = s.atn ∧ t.cfg = s.cfg)

/-- PAUSE and RESUME (R34, R35, R33): the flag follows the notice in every state; PAUSE moves RUN, NIGHT and CAPPED to
PAUSED and starts and stops no drive; RESUME moves PAUSED to the clock-given state with the cap OPEN, and to CAPPED
with the cap driven to where that state needs it otherwise. A STOPPED cap is driven by the clock-given state alone,
closed outside the window though a tin to be dosed stands at slot 2 (the model's reading, log 24). -/
def Obligations.PauseAndResume : Prop :=
  ∀ (src : Nat) (x : Sample) (s : State), s.Hears .terminal src →
    (∃ t, exec (.pause src) s = .next t ∧ t.dck.pause = true ∧
      (s.dck.cell = .run ∨ s.dck.cell = .night ∨ s.dck.cell = .capped →
        t.dck = { s.dck with pause := true, cell := .paused, idle := 0 } ∧ t.shots = s.shots ∧ t.lids = s.lids ∧
        t.shaker = s.shaker ∧ t.seg = { s.seg with prompt := t.seg.prompt } ∧ t.xfr = s.xfr ∧
        (s.seg.prompt.isRequested = false → t.seg = s.seg ∧ t.panel = s.panel) ∧
        ∀ n, (t.canister n).stock = (s.canister n).stock ∧
          ((t.canister n).stir.st = .running ↔ (s.canister n).stir.st = .running)) ∧
      (s.dck.cell ≠ .run → s.dck.cell ≠ .night → s.dck.cell ≠ .capped →
        t = { s.refresh src none with dck := { s.dck with pause := true } })) ∧
    (∃ t, exec (.resume src x) s = .next t ∧ t.dck.pause = false ∧ t.dck.halt = s.dck.halt ∧ t.dck.jam = s.dck.jam ∧
      (s.dck.cell ≠ .paused → t = { (s.latch x).refresh src none with dck := { s.dck with pause := false } }) ∧
      (s.dck.cell = .paused →
        (s.dck.cap = .opened → t.dck.cell = s.clockGiven ∧ t.dck.cap = .opened) ∧
        (s.dck.cap ≠ .opened → t.dck.cell = .capped) ∧
        (s.dck.cap = .closed → s.inside = true → t.dck.cap = .opening) ∧
        (s.dck.cap = .closed → s.inside = false → s.localAt2 = false → t.dck.cap = .closed) ∧
        (s.dck.cap = .closing → s.inside = true → t.dck.cap = .closing ∧ t.dck.kept = some .opened) ∧
        (s.dck.cap = .opening → t.dck.cap = .opening) ∧
        (s.dck.cap = .stopped → s.inside = true → t.dck.cap = .opening ∧ t.dck.capTime = 0) ∧
        (s.dck.cap = .stopped → s.inside = false → t.dck.cap = .closing ∧ t.dck.capTime = 0)))

/-- IDLE_TIMEOUT and CAP_MOVE_END (R31, R32, R33): a cell idle in NIGHT enters CAPPED with the cap commanded closed;
at the end of a move a kept command starts the next move (the model's reading, log 24), and a cap that reaches OPEN in
CAPPED takes the cell to its clock-given state. -/
def Obligations.CapMoves : Prop :=
  ∀ (x : Sample) (s : State), s.Live →
    (s.dck.cell = .night → s.idleTest = true → s.dck.cap = .opened → s.inside = false →
      ∃ t, exec .idleTimeout s = .next t ∧ t = { s with dck := t.dck, canisters := t.canisters } ∧
        t.dck = { s.dck with cell := .capped, idle := 0, cap := .closing, capTime := 0 }) ∧
    (s.dck.cell ≠ .night ∨ s.idleTest = false → exec .idleTimeout s = .next s) ∧
    (s.dck.cap = .closing → s.dck.kept = none →
      exec (.capMoveEnd x) s = .next { s.latch x with dck := { s.dck with cap := .closed, capTime := 0 } }) ∧
    (s.dck.cap = .closing → s.dck.kept = some .opened →
      exec (.capMoveEnd x) s = .next { s.latch x with dck := { s.dck with cap := .opening, kept := none, capTime := 0 } }) ∧
    (s.dck.cap = .opening → s.dck.kept = some .closed →
      exec (.capMoveEnd x) s = .next { s.latch x with dck := { s.dck with cap := .closing, kept := none, capTime := 0 } }) ∧
    (s.dck.cap = .opening → s.dck.kept = none → ∃ t, exec (.capMoveEnd x) s = .next t ∧ t.dck.cap = .opened ∧
      t.dck.kept = none ∧ (s.dck.cell = .capped → t.dck.cell = s.clockGiven ∧ t.dck.idle = 0) ∧
      (s.dck.cell ≠ .capped → t = { s.latch x with dck := { s.dck with cap := .opened, capTime := 0 } })) ∧
    (s.dck.cap = .opened ∨ s.dck.cap = .closed ∨ s.dck.cap = .stopped → exec (.capMoveEnd x) s = .next s)

/-- EMERGENCY_STOP (R36, R32, R111, R135, R148, R193, R198): the cell is HALTED and every drive stops: a running index
waits to be finished, a press stops, a shake run and its full time stand to be run again, transfers stop, stirrers
stop with their flag set, a moving cap is STOPPED, every channel is free, and the pump each channel drove is IDLE with
its content re-derived. Every ACTIVE entry is FAILED with the steps driven so far (read at whole ms, log 29), which
the colorant total and the level are charged with (R90, R100, R132), the cause is DOSE_FAULT unless one is held, and
the tin is REJECT (R91, R135); a tin with waiting entries and none ACTIVE is left as it is. The pause and jam flags
stay. In STARTING, CONFIG_FAULT and HALTED only the pin changes. -/
def Obligations.EmergencyStopHaltsMotion : Prop :=
  ∀ (x : Sample) (s : State), s.Live →
    (s.dck.cell = .starting ∨ s.dck.cell = .configFault ∨ s.dck.cell = .halted →
      exec (.emergencyStop x) s = .next { s.latch x with pins := { s.pins with sample := x, estop := true } }) ∧
    (s.inService = true → s.dck.cell ≠ .halted → ∃ t, exec (.emergencyStop x) s = .next t ∧
      t.dck.cell = .halted ∧ t.dck.halt = true ∧ t.dck.pause = s.dck.pause ∧ t.dck.jam = s.dck.jam ∧
      t.dck.moment = s.dck.moment ∧ t.pins.estop = true ∧
      t.dck.cap = (if s.dck.cap = .opening ∨ s.dck.cap = .closing then .stopped else s.dck.cap) ∧
      (∀ d p k, s.seg.index = .running d p k → t.seg.index = .stopped d p) ∧
      (s.seg.index.isRunning = false → t.seg.index = s.seg.index) ∧
      (∀ k, s.lids.bay = .pressing k → t.lids.bay = .pressStopped) ∧ t.lids.magazines = s.lids.magazines ∧
      (s.shaker.st = .running → t.shaker.st = .interrupted ∧ t.shaker.resume = s.shaker.mixMs) ∧
      (s.shaker.st = .loading ∨ s.shaker.st = .returning → t.shaker = { s.shaker with halted := true }) ∧
      (∀ n, (t.canister n).stir.st = .idle) ∧
      (∀ n, (s.canister n).stir.st = .running → (t.canister n).stir.flag = true) ∧
      (∀ ch < 4, t.channel ch = none) ∧
      (∀ ch < 4, ∀ n, s.heldCanister ch = some n → n < s.shots.pumps.length → n < s.canisters.length →
        (t.pump n).st = .idle ∧ (t.pump n).content = rederive (s.pumpCfg n) (x.enc.getD n 0) ∧
        ((s.pump n).st = .switching → (t.pump n).valve = .unknown) ∧ (t.canister n).reserved = 0) ∧
      (∀ n, (∀ ch < 4, s.heldCanister ch ≠ some n) → t.pump n = s.pump n ∧ (t.canister n).stock = (s.canister n).stock) ∧
      (∀ n, (∃ ch < 4, s.heldCanister ch = some n) → (t.canister n).stock = (s.canister n).stock.map (fun k =>
        { k with level := k.level - (if (s.pump n).st = .stroking then s.driven n else 0) * (s.pumpCfg n).d })) ∧
      (∀ m, m ≠ 2 → t.slot m = s.slot m) ∧ (s.tinAt 2 = none → t.slot 2 = s.slot 2) ∧
      (∀ a, s.tinAt 2 = some a → (∀ ch < 4, s.heldCanister ch = none) →
        a.st ≠ .dosing ∨ (a.hasLocal = true ∧ a.cause = none) → t.slot 2 = s.slot 2) ∧
      (∀ a, s.tinAt 2 = some a → (∃ ch < 4, s.heldCanister ch ≠ none) → ∃ b, t.tinAt 2 = some b ∧
        b = { a with entries := b.entries, total := b.total, cause := some (a.cause.getD .doseFault), st := b.st } ∧
        (∀ ch < 4, ∀ i e p, s.channel ch = some i → a.entry i = some e → e.st = .active p →
          (∀ k < ch, s.heldCanister k ≠ some p.canister) → b.entry i = some { e with st := .failed { p with
            emitted := p.emitted + (if (s.pump p.canister).st = .stroking then s.driven p.canister else 0) } }) ∧
        (∀ i, (∀ ch < 4, s.channel ch ≠ some i) → b.entry i = a.entry i) ∧
        (∀ v : Nat → Nat, (∀ ch < 4, (s.heldCanister ch = none → v ch = 0) ∧ ∀ n, s.heldCanister ch = some n → v ch =
            if (s.pump n).st = .stroking ∧ ∀ k < ch, s.heldCanister k ≠ some n then s.driven n * (s.pumpCfg n).d else 0) →
          b.total = a.total + v 0 + v 1 + v 2 + v 3) ∧
        (a.st ≠ .dosing → b.st = a.st) ∧
        (a.st = .dosing → (∀ e ∈ a.entries, ∀ p, e.st = .active p → ∃ ch < 4, s.heldEntry ch = some e) → b.st = .reject)) ∧
      t.convOut = false ∧ t.pressOut = false ∧ t.shakeOut = false ∧ t.transferInOut = false ∧ t.transferOutOut = false ∧
      t.capOpenOut = false ∧ t.capCloseOut = false ∧ (∀ n, t.stirOut n = false) ∧ (∀ ch < 4, t.stepping ch = false) ∧
      t.xfr = s.xfr ∧ t.stations = s.stations ∧ t.atn = s.atn ∧ t.cfg = s.cfg)

/-- ESTOP_RELEASED and CONFIRM (R37, R207, R208): the release changes the prompt of a HALTED cell and no state; a
CONFIRM in HALTED is not taken while ESTOP_L is low, and is taken once it is high: JAMMED under the jam flag, PAUSED
under the pause flag, else the state the cap's position gives, a STOPPED cap being driven by the clock-given state
alone, closed outside the window though a tin to be dosed stands at slot 2 (the model's reading, log 24). In RUN,
NIGHT, CAPPED and PAUSED it clears the message slot; in STARTING and CONFIG_FAULT it is ignored. -/
def Obligations.ConfirmLeavesHalted : Prop :=
  ∀ (x : Sample) (s : State), s.Live →
    (∃ t, exec .estopReleased s = .next t ∧ t = { s with pins := { s.pins with estop := false } } ∧
      (s.dck.cell = .halted → t.shown = .pressConfirm)) ∧
    (s.dck.cell = .halted → s.pins.estop = true → exec (.confirm x) s = .next (s.latch x)) ∧
    (s.dck.cell = .halted → s.pins.estop = false → ∃ t, exec (.confirm x) s = .next t ∧ t.dck.halt = false ∧
      t.dck.jam = s.dck.jam ∧ t.dck.pause = s.dck.pause ∧ t.panel.message = s.panel.message ∧
      (s.dck.jam = true → t.dck.cell = .jammed) ∧ (s.dck.jam = false → s.dck.pause = true → t.dck.cell = .paused) ∧
      (s.dck.jam = false → s.dck.pause = false →
        (s.dck.cap = .opened → t.dck.cell = s.clockGiven) ∧ (s.dck.cap ≠ .opened → t.dck.cell = .capped) ∧
        (s.dck.cap = .stopped → t.dck.cap = if s.inside then .opening else .closing)) ∧
      t.book = s.book ∧ t.bus = s.bus ∧ t.stations = s.stations ∧ t.xfr = s.xfr ∧ t.atn = s.atn ∧ t.cfg = s.cfg) ∧
    (s.dck.cell = .run ∨ s.dck.cell = .night ∨ s.dck.cell = .capped ∨ s.dck.cell = .paused →
      exec (.confirm x) s = .next { s.latch x with panel := { s.panel with message := none } }) ∧
    (s.dck.cell = .starting ∨ s.dck.cell = .configFault → exec (.confirm x) s = .next (s.latch x))

/-! ## The order book -/

/-- Validation (R53, R80): the first failing check gives the reason, and an order that fails none is valid.
Eligibility (R55): PERMIT by the own windows, each colorant held here or at a PRESENT permitting cell downstream, and
every station up to the last cell (R23) PRESENT and neither in CONFIG_FAULT nor JAMMED (none to ask where that cell
lies upstream: the model's reading, log 36). This cell answers for the line where every lower PRESENT cell is in
CONFIG_FAULT (R54), and the backlog is the sum over the open own jobs (R56). ORDER (R52, R53, R54, R56, R57): booked
at the end of the book, NEW with its per-tin figure and with an offer where the cell runs, is eligible and has room
among its eight jobs; or held INVALID with its reason, answered where no lower cell can book. A full book loses its
earliest entry that may go, or else the ORDER is counted as an error. One booked already is answered again if INVALID
and otherwise ignored. One of bad length is counted and booked INVALID with its id alone (R12, R53), its terminal's
entry refreshed all the same (the model's choice, log 37). The booking moment is the model's count of ms (its choice,
log 35). -/
def Obligations.OrdersValidatedAndBooked : Prop :=
  (∀ m : OrderMsg,
      (validate m = some .length ↔ m.lengthOk = false) ∧
      (m.lengthOk = true → (validate m = some .entryCount ↔ m.formula.length = 0 ∨ 12 < m.formula.length) ∧
        (1 ≤ m.formula.length → m.formula.length ≤ 12 →
          (validate m = some .size ↔ m.size = 0 ∨ 5 < m.size) ∧
          (1 ≤ m.size → m.size ≤ 5 →
            (validate m = some .tinCount ↔ m.count = 0 ∨ 24 < m.count) ∧
            (1 ≤ m.count → m.count ≤ 24 →
              (validate m = some .quantity ↔ ∃ f ∈ m.formula, f.q = 0 ∨ 200000 < f.q) ∧
              ((∀ f ∈ m.formula, 1 ≤ f.q ∧ f.q ≤ 200000) →
                (validate m = some .duplicateColorant ↔ ¬ (m.formula.map FormulaItem.colorant).Nodup) ∧
                ((m.formula.map FormulaItem.colorant).Nodup → ∀ r, sizeRow m.size = some r →
                  (validate m = some .headroom ↔
                    r.headroom * 4000 < (m.formula.map (fun f => f.q * r.nominal)).sum * 5) ∧
                  ((m.formula.map (fun f => f.q * r.nominal)).sum * 5 ≤ r.headroom * 4000 → validate m = none)))))))) ∧
  (∀ (s : State) (drawable : LevelClass → Prop) (toEnd : Station → Prop),
      (∀ c, drawable c ↔ c = .full ∨ c = .ok ∨ c = .low) →
      (∀ e, toEnd e ↔ e.presence ≠ .gone ∧ ∃ p, e.status = some p ∧ p.last = true) →
      (∀ m : OrderMsg, s.eligible m = true ↔
        (∃ lid shake, verdict s.windows m.base = .permit lid shake) ∧
        (∀ f ∈ m.formula,
          (∃ n < 16, ∃ c, s.fitted n = some c ∧ c.colorant = f.colorant ∧ drawable (s.levelClass n) ∧ s.usable n = true) ∨
          (∃ e ∈ s.stations, s.self < e.number ∧ e.presence = .present ∧ ∃ p, e.status = some p ∧
            (∃ lid shake, verdict p.windows m.base = .permit lid shake) ∧
            ∃ i ∈ p.cover, i.colorant = f.colorant ∧ drawable i.cls ∧ i.usable = true)) ∧
        (∃ l, s.lastCell = some l ∧ ∀ n < 32, s.self < n → n ≤ l → ∃ e p, s.peer n = some e ∧ e.presence = .present ∧
          e.status = some p ∧ p.state ≠ .configFault ∧ p.state ≠ .jammed)) ∧
      (∀ e, s.eligibleEntry e = true ↔ ∃ m, e.order = some m ∧ s.eligible m = true) ∧
      (s.cfg.last = true → s.lastCell = some s.self) ∧
      (s.cfg.last = false → (s.lastCell = none ↔ ∀ e ∈ s.stations, ¬ toEnd e) ∧
        (∀ l, s.lastCell = some l ↔ (∃ e ∈ s.stations, e.number = l ∧ toEnd e) ∧ ∀ e ∈ s.stations, toEnd e → l ≤ e.number)) ∧
      (s.answersInvalid = true ↔ ∀ e ∈ s.stations, e.number < s.self → e.presence = .present →
        ∀ p, e.status = some p → p.state = .configFault) ∧
      (∀ (opened : OrderEntry → Bool) (w : OrderEntry → Nat),
        (∀ e, opened e = true ↔ e.job ≠ none ∧
          (e.st = .ownPending ∨ e.st = .ownActive ∨ e.st = .ownBlocked ∨ e.st = .ownCancelling)) →
        (∀ e, (opened e = false → w e = 0) ∧ ∀ j, opened e = true → e.job = some j →
          w e = e.perTin * ((e.tinCount + j.remakes - j.loaded) + (j.loaded - j.done - j.rejected - j.lost))) →
        s.backlog = min 65535 (s.book.map w).sum ∧ s.openJobs = (s.book.filter opened).length) ∧
      s.pendingOffers = (s.book.filter (fun e => e.st = .new ∧ e.ownEst ≠ none)).length) ∧
  (∀ (src : Nat) (m : OrderMsg) (s s1 : State), s.Hears .terminal src → s.inService = true → m.lengthOk = true →
      s1 = s.refresh src none →
      (s.entry m.id = none → s.book.length < 32 →
        (∀ r, validate m = some r → ∃ t, exec (.order src m) s = .next t ∧
          t = { s1 with book := s1.book ++ [{ newBooking m s.now 0 with st := .invalid, reason := some r, retention := some 0 }]
                        bus := t.bus } ∧
          (s1.answersInvalid = false → t.bus = s1.bus) ∧
          (s1.answersInvalid = true → t.bus = (s1.place (.jobStatus
            (JobStatusMsg.mk m.id 0 .invalid m.count 0 0 0 0 false (some r)))).bus)) ∧
        (validate m = none → ∀ c, c * 4000 * 1000 < formulaNl m.formula m.size + 4000 * 1000 →
          formulaNl m.formula m.size ≤ c * 4000 * 1000 →
          ∃ t, exec (.order src m) s = .next t ∧
          (s1.dck.cell = .run → s1.eligible m = true → s1.openJobs + s1.pendingOffers < 8 →
            ∃ est, est = min 65535 (s1.backlog + m.count * (40 + c)) ∧
            t = { s1.place (.offer m.id est) with book := s1.book ++
              [{ newBooking m s.now (40 + c) with ownEst := some est, offers := [{ station := s.self, est := est }] }] }) ∧
          (s1.dck.cell ≠ .run ∨ s1.eligible m = false ∨ 8 ≤ s1.openJobs + s1.pendingOffers →
            t = { s1 with book := s1.book ++ [newBooking m s.now (40 + c)] }))) ∧
      (∀ e, s1.entry m.id = some e →
        (e.st ≠ .invalid ∨ s1.answersInvalid = false → exec (.order src m) s = .next s1) ∧
        (e.st = .invalid → s1.answersInvalid = true → exec (.order src m) s = .next (s1.place (.jobStatus
          (JobStatusMsg.mk e.id 0 .invalid e.tinCount 0 0 0 0 false e.reason))))) ∧
      (s.entry m.id = none → 32 ≤ s.book.length →
        (∀ e ∈ s1.book, e.st ≠ .placedElsewhere ∧ e.st ≠ .unplaced ∧ e.st ≠ .invalid ∧ e.st ≠ .cancelled) →
        exec (.order src m) s = .next s1.rxError) ∧
      (s.entry m.id = none → 32 ≤ s.book.length → ∀ pre e post, s1.book = pre ++ e :: post →
        (∀ a ∈ pre, a.st ≠ .placedElsewhere ∧ a.st ≠ .unplaced ∧ a.st ≠ .invalid ∧ a.st ≠ .cancelled) →
        (e.st = .placedElsewhere ∨ e.st = .unplaced ∨ e.st = .invalid ∨ e.st = .cancelled) →
        ∃ t n, exec (.order src m) s = .next t ∧ t.book = pre ++ post ++ [n] ∧ n.id = m.id ∧ n.order = some m)) ∧
  (∀ (src : Nat) (m : OrderMsg) (s s1 : State), s.Hears .terminal src → m.lengthOk = false →
      s1 = (s.refresh src none).rxError →
      (s.inService = false → exec (.order src m) s = .next s1) ∧
      (s.inService = true → s.entry m.id = none → s.book.length < 32 → ∃ t, exec (.order src m) s = .next t ∧
        t = { s1 with bus := t.bus, book := s1.book ++
          [{ newBooking m s.now 0 with order := none, st := .invalid, reason := some .length, retention := some 0 }] } ∧
        (s1.answersInvalid = false → t.bus = s1.bus) ∧
        (s1.answersInvalid = true → t.bus = (s1.place (.jobStatus
          (JobStatusMsg.mk m.id 0 .invalid 0 0 0 0 0 false (some .length)))).bus)) ∧
      (s.inService = true → ∀ e, s1.entry m.id = some e →
        (e.st ≠ .invalid ∨ s1.answersInvalid = false → exec (.order src m) s = .next s1) ∧
        (e.st = .invalid → s1.answersInvalid = true → exec (.order src m) s = .next (s1.place (.jobStatus
          (JobStatusMsg.mk e.id 0 .invalid e.tinCount 0 0 0 0 false e.reason))))))

/-- CANCEL (R70): from the ordering terminal alone, by the state of the entry: CANCELLED without a job, CANCELLED with
a JOB STATUS where no loaded tin is unresolved, CANCELLING where one is; a standing prompt of the job is withdrawn;
other states do not change. -/
def Obligations.CancelTaken : Prop :=
  ∀ (src : Nat) (id : OrderId) (s s1 : State) (e : OrderEntry), s.Hears .terminal src → s.inService = true →
    s1 = s.refresh src none → s1.entry id = some e → (s1.book.map OrderEntry.id).Nodup →
    (src ≠ id.term → exec (.cancel src id) s = .next s1) ∧
    (src = id.term → ∃ t, exec (.cancel src id) s = .next t ∧ (∀ i, i ≠ id → t.entry i = s1.entry i) ∧
      t = { s1 with book := t.book, bus := t.bus, seg := { s1.seg with prompt := t.seg.prompt }, panel := t.panel } ∧
      (e.st = .new ∨ e.st = .waitingClaim ∨ e.st = .placedElsewhere ∨ e.st = .unplaced →
        t = { s1 with book := t.book } ∧ t.entry id =
          some { e with st := .cancelled, retention := some 0, offers := [], recorded := none, heard := none, job := none }) ∧
      (∀ j, e.st = .ownPending → e.job = some j →
        t.bus = (s1.place (.jobStatus (jobStatusMsg s.self e j .cancelled))).bus ∧ t.seg = s1.seg ∧
        t.entry id =
          some { e with st := .cancelled, retention := some 0, offers := [], recorded := none, heard := none, job := none }) ∧
      (∀ j, e.st = .ownActive ∨ e.st = .ownBlocked → e.job = some j →
        (s1.seg.prompt.order = some id → t.seg.prompt = .none ∧ t.panel.label = none) ∧
        (s1.seg.prompt.order ≠ some id → t.seg = s1.seg ∧ t.panel = s1.panel) ∧
        (j.loaded ≤ j.done + j.rejected + j.lost →
          t.bus = (s1.place (.jobStatus (jobStatusMsg s.self e j .cancelled))).bus ∧
          t.entry id = some { e with st := .cancelled, retention := some 0, job := some { j with repeatTime := 0 } }) ∧
        (j.done + j.rejected + j.lost < j.loaded →
          t.bus = (s1.place (.jobStatus (jobStatusMsg s.self e j .cancelling))).bus ∧
          t.entry id = some { e with st := .ownCancelling, job := some { j with repeatTime := 0 } })) ∧
      (e.st = .ownCancelling ∨ e.st = .ownComplete ∨ e.st = .ownFailed ∨ e.st = .invalid ∨ e.st = .cancelled → t = s1))

/-- OFFER and WITHDRAW (R58, R63): an OFFER stands once for its sender in the list of an entry in NEW; a WITHDRAW from
the recorded claimant takes PLACED_ELSEWHERE to WAITING_CLAIM with a fresh wait and clears the claim of an entry in
NEW; anything else is ignored. JOB_STATUS (R54, R72, R73): from its claimant it places a waiting or unplaced entry
elsewhere, sets the heard job state of an entry placed there, cancels it, or starts its retention (the model's
reading, log 16); for an own job without the duplicate flag it is answered with the CLAIM; an INVALID one and one of
another claimant change nothing. -/
def Obligations.PeerNoticesHeard : Prop :=
  (∀ (src : Nat) (id : OrderId) (est : Nat) (s : State) (e : OrderEntry), s.Hears .cell src → s.inService = true →
      s.entry id = some e → (s.book.map OrderEntry.id).Nodup →
      (e.st = .new → ∃ t l, exec (.offer src id est) s = .next t ∧ t = { s with book := t.book } ∧
        (∀ i, i ≠ id → t.entry i = s.entry i) ∧ t.entry id = some { e with offers := l } ∧
        (∀ o, o.station ≠ src → (o ∈ l ↔ o ∈ e.offers)) ∧ Offer.mk src est ∈ l ∧
        ((e.offers.map Offer.station).Nodup → (l.map Offer.station).Nodup)) ∧
      (e.st ≠ .new → exec (.offer src id est) s = .next s) ∧
      (e.recorded.map Claim.station = some src →
        (e.st = .placedElsewhere → ∃ t, exec (.withdraw src id) s = .next t ∧ t = { s with book := t.book } ∧
          (∀ i, i ≠ id → t.entry i = s.entry i) ∧ t.entry id =
            some { e with st := .waitingClaim, recorded := none, heard := none, offers := [], retention := none, timer := 0 }) ∧
        (e.st = .new → ∃ t, exec (.withdraw src id) s = .next t ∧ t = { s with book := t.book } ∧
          (∀ i, i ≠ id → t.entry i = s.entry i) ∧ t.entry id = some { e with recorded := none })) ∧
      (e.recorded.map Claim.station ≠ some src ∨ (e.st ≠ .placedElsewhere ∧ e.st ≠ .new) →
        exec (.withdraw src id) s = .next s)) ∧
  (∀ (src : Nat) (m : JobStatusMsg) (s : State) (e : OrderEntry), s.Hears .cell src → s.inService = true →
      s.entry m.id = some e → (s.book.map OrderEntry.id).Nodup →
      (m.state = .invalid ∨ m.claimant ≠ src → exec (.jobStatus src m) s = .next s) ∧
      (m.state ≠ .invalid → m.claimant = src →
        (e.job = none → ∃ t e', exec (.jobStatus src m) s = .next t ∧ t = { s with book := t.book } ∧
          (∀ i, i ≠ m.id → t.entry i = s.entry i) ∧ t.entry m.id = some e' ∧
          (e.st = .waitingClaim ∨ e.st = .unplaced → e'.st = .placedElsewhere ∧ e'.heard = some m.state ∧
            e'.recorded = some { station := src, est := 65535, committed := decide (0 < m.done + m.rejected + m.lost) } ∧
            e'.retention = if m.state = .complete ∨ m.state = .failed then some 0 else none) ∧
          (e.st = .placedElsewhere → e.recorded.map Claim.station = some src →
            (m.state = .cancelled → e'.st = .cancelled ∧ e'.retention = some 0) ∧
            (m.state ≠ .cancelled → e'.st = .placedElsewhere ∧ e'.heard = some m.state ∧ e'.recorded = e.recorded) ∧
            (m.state = .complete ∨ m.state = .failed → e'.retention = some (e.retention.getD 0))) ∧
          (e.st = .placedElsewhere → e.recorded.map Claim.station ≠ some src → e' = e) ∧
          (e.st = .new ∨ e.st = .invalid ∨ e.st = .cancelled → e' = e)) ∧
        (∀ j, e.job = some j →
          (e.st = .cancelled ∨ j.duplicate = true → exec (.jobStatus src m) s = .next s) ∧
          (e.st ≠ .cancelled → j.duplicate = false → (j.committed = true ∨ s.dck.cell = .run) →
            exec (.jobStatus src m) s = .next (s.place (.claim m.id (e.ownEst.getD 0) j.committed))) ∧
          (e.st ≠ .cancelled → j.committed = false → s.dck.cell ≠ .run → exec (.jobStatus src m) s = .next s))))

/-- The order of claims (R60): committed first, then the lower estimate, then the lower station; of two claims of
different stations exactly one is better, and the order is transitive. CLAIM for an entry that is no own job (R61):
the best claim stands recorded; WAITING_CLAIM and UNPLACED become PLACED_ELSEWHERE; INVALID and CANCELLED ignore it; a
change of the recorded claimant clears the heard job state. For an own job (R62): a better claim against an
uncommitted one makes the cell withdraw; two committed claims set the duplicate flag once (before the test of a worse
claim: the model's reading, log 18); a worse claim is answered with the own claim, an uncommitted one only in RUN. -/
def Obligations.ClaimsOrderedAndHeard : Prop :=
  (∀ a b c : Claim,
      (a.committed = true → b.committed = false → a.better b = true ∧ b.better a = false) ∧
      (a.committed = b.committed → a.est < b.est → a.better b = true ∧ b.better a = false) ∧
      (a.committed = b.committed → a.est = b.est → (a.better b = true ↔ a.station < b.station)) ∧
      (a.station ≠ b.station → (a.better b = true ↔ b.better a = false)) ∧
      (a.better b = true → b.better c = true → a.better c = true) ∧
      (∀ (e : OrderEntry) (j : Job) (self est : Nat), e.job = some j → e.ownEst = some est →
        e.ownClaim self = { station := self, est := est, committed := j.committed })) ∧
  (∀ (src : Nat) (id : OrderId) (est : Nat) (committed : Bool) (s : State) (e : OrderEntry) (c : Claim),
      s.Hears .cell src → s.inService = true → s.entry id = some e → (s.book.map OrderEntry.id).Nodup → e.job = none →
      c = { station := src, est := est, committed := committed } →
      ∃ t e', exec (.claim src id est committed) s = .next t ∧ t = { s with book := t.book } ∧
        (∀ i, i ≠ id → t.entry i = s.entry i) ∧ t.entry id = some e' ∧
        (e.st = .new → e' = { e with recorded := e'.recorded }) ∧
        (e.st = .waitingClaim ∨ e.st = .unplaced →
          e' = { e with st := .placedElsewhere, offers := [], recorded := some c, heard := none, retention := none }) ∧
        (∀ r, e.st = .placedElsewhere → e.recorded = some r → e'.st = .placedElsewhere ∧
          ((src ≠ r.station ∧ c.better r = true) → e'.heard = none) ∧
          ((src = r.station ∨ c.better r = false) → e' = { e with recorded := e'.recorded })) ∧
        (e.st = .new ∨ e.st = .placedElsewhere →
          (e.recorded = none → e'.recorded = some c) ∧
          (∀ r, e.recorded = some r → e'.recorded = if c.better r = true then some c else some r)) ∧
        (e.st = .invalid ∨ e.st = .cancelled → e' = e)) ∧
  (∀ (src : Nat) (id : OrderId) (est : Nat) (committed : Bool) (s : State) (e : OrderEntry) (j : Job) (c own : Claim),
      s.Hears .cell src → s.inService = true → s.entry id = some e → (s.book.map OrderEntry.id).Nodup → e.job = some j →
      e.st ≠ .cancelled → c = { station := src, est := est, committed := committed } →
      own = { station := s.self, est := e.ownEst.getD 0, committed := j.committed } →
      (j.committed = false → c.better own = true → ∃ t, exec (.claim src id est committed) s = .next t ∧
        (∀ i, i ≠ id → t.entry i = s.entry i) ∧
        t.entry id =
          some { e with st := .placedElsewhere, offers := [], recorded := some c, heard := none, retention := none, job := none } ∧
        t.bus = (s.place (.withdraw id)).bus ∧
        t.seg = { s.seg with prompt := if s.seg.prompt.order = some id then .none else s.seg.prompt } ∧
        t = { s with book := t.book, bus := t.bus, seg := t.seg, panel := t.panel }) ∧
      (j.committed = true → committed = true → j.duplicate = true → exec (.claim src id est committed) s = .next s) ∧
      (j.committed = true → committed = true → j.duplicate = false → (OrderState.jobState e.st).isSome →
        ∃ t st, exec (.claim src id est committed) s = .next t ∧ OrderState.jobState e.st = some st ∧
          (∀ i, i ≠ id → t.entry i = s.entry i) ∧
          t.entry id = some { e with job := some { j with duplicate := true, repeatTime := 0 } } ∧
          t = { (s.place (.jobStatus (jobStatusMsg s.self e { j with duplicate := true } st))).place
            (.claim id own.est true) with book := t.book }) ∧
      (c.better own = false → ¬(j.committed = true ∧ committed = true) →
        (j.committed = true ∨ s.dck.cell = .run →
          exec (.claim src id est committed) s = .next (s.place (.claim id own.est j.committed))) ∧
        (j.committed = false → s.dck.cell ≠ .run → exec (.claim src id est committed) s = .next s)))

/-- The offer window's end (R59): the cell claims where its claim beats every other offer and the recorded claim, the
cell is in RUN and fewer than eight jobs are open; else a recorded claim places the entry elsewhere; else it waits.
The claim settle makes the job active with a JOB STATUS, the claim wait makes the entry UNPLACED with its retention,
the 5 s repeat places a JOB STATUS while the terminal is heard (R71), and the end of the retention removes the entry
(R73). The claim moment is the model's count of ms (its choice, log 35). -/
def Obligations.EntryTimersEnd : Prop :=
  (∀ (id : OrderId) (s : State) (e : OrderEntry) (wins : Prop), s.Live → s.entry id = some e → e.st = .new →
      (s.book.map OrderEntry.id).Nodup →
      (wins ↔ ∃ est, e.ownEst = some est ∧ s.dck.cell = .run ∧ s.openJobs < 8 ∧
        (∀ o ∈ e.offers, o.station = s.self ∨ est < o.est ∨ est = o.est ∧ s.self < o.station) ∧
        (∀ c, e.recorded = some c → c.committed = false ∧ (est < c.est ∨ est = c.est ∧ s.self < c.station))) →
      ∃ t, exec (.offerWindowEnd id) s = .next t ∧ (∀ i, i ≠ id → t.entry i = s.entry i) ∧
        (wins → t = { s.place (.claim id (e.ownEst.getD 0) false) with book := t.book } ∧
          t.entry id = some { e with st := .ownPending, offers := [], recorded := none, timer := 0
                                     job := some (Job.mk s.now false false 0 0 0 0 0 [] 0) }) ∧
        (¬ wins → t = { s with book := t.book } ∧
          (∀ c, e.recorded = some c → ∃ e', t.entry id = some e' ∧ e'.st = .placedElsewhere ∧ e'.recorded = some c ∧
            e'.offers = [] ∧ e'.heard = none) ∧
          (e.recorded = none → ∃ e', t.entry id = some e' ∧ e'.st = .waitingClaim ∧ e'.recorded = none ∧ e'.offers = [] ∧
            e'.timer = 0))) ∧
  (∀ (id : OrderId) (s : State) (e : OrderEntry), s.Live → s.entry id = some e → (s.book.map OrderEntry.id).Nodup →
      (∀ j, e.st = .ownPending → e.job = some j → ∃ t, exec (.claimSettleEnd id) s = .next t ∧
        t = { s.place (.jobStatus (jobStatusMsg s.self e j .active)) with book := t.book } ∧
        (∀ i, i ≠ id → t.entry i = s.entry i) ∧
        t.entry id = some { e with st := .ownActive, job := some { j with repeatTime := 0 } }) ∧
      (e.st ≠ .ownPending → exec (.claimSettleEnd id) s = .next s) ∧
      (e.st = .waitingClaim → ∃ t, exec (.claimWaitEnd id) s = .next t ∧ t = { s with book := t.book } ∧
        (∀ i, i ≠ id → t.entry i = s.entry i) ∧ t.entry id = some { e with st := .unplaced, retention := some 0 }) ∧
      (e.st ≠ .waitingClaim → exec (.claimWaitEnd id) s = .next s) ∧
      (∀ j st p, e.job = some j → OrderState.jobState e.st = some st → s.peer id.term = some p → p.presence ≠ .gone →
        ∃ t, exec (.jobStatusRepeat id) s = .next t ∧
          t = { s.place (.jobStatus (jobStatusMsg s.self e j st)) with book := t.book } ∧
          (∀ i, i ≠ id → t.entry i = s.entry i) ∧ t.entry id = some { e with job := some { j with repeatTime := 0 } }) ∧
      ((∀ p, s.peer id.term = some p → p.presence = .gone) → exec (.jobStatusRepeat id) s = .next s) ∧
      (e.retention ≠ none → ∃ t, exec (.retentionEnd id) s = .next t ∧ t = { s with book := t.book } ∧ t.entry id = none ∧
        (∀ i, i ≠ id → t.entry i = s.entry i)) ∧
      (e.retention = none → exec (.retentionEnd id) s = .next s))

/-- TIN_REPORT and TIN_OVERDUE (R67, R68, R69): the tin of an own job is resolved once, the matching count rises by 1,
and the job completes at its last DONE, remakes a lost or rejected tin three times and then fails, and ends CANCELLED
when a cancelled job's last tin is resolved. A tin in no list is ignored. -/
def Obligations.TinResolutionSettlesJob : Prop :=
  ∀ (src : Nat) (m : TinReportMsg) (s : State) (e : OrderEntry) (j : Job), s.Hears .cell src → s.inService = true →
    m.tin.cell = s.self → (s.book.map OrderEntry.id).Nodup →
    ((∀ a ∈ s.book, ∀ b, a.job = some b → b.inFlight m.tin = false) →
      exec (.tinReport src m) s = .next s ∧ exec (.tinOverdue m.tin) s = .next s) ∧
    (s.jobOfTin m.tin = some e → e.job = some j → j.done + j.rejected + j.lost < j.loaded →
      ∃ t u e' o j' k, exec (.tinReport src m) s = .next t ∧ exec (.tinOverdue m.tin) s = .next u ∧
        t = { s with book := t.book, bus := t.bus, seg := { s.seg with prompt := t.seg.prompt }, panel := t.panel } ∧
        u = { s with book := u.book, bus := u.bus, seg := { s.seg with prompt := u.seg.prompt }, panel := u.panel } ∧
        (∀ i, i ≠ e.id → t.entry i = s.entry i ∧ u.entry i = s.entry i) ∧
        t.entry e.id = some e' ∧ e'.job = some j' ∧ u.entry e.id = some o ∧ o.job = some k ∧
        j'.inFlight m.tin = false ∧ k.inFlight m.tin = false ∧
        j'.done = j.done + (if m.result = .done then 1 else 0) ∧
        j'.rejected = j.rejected + (if m.result = .rejected then 1 else 0) ∧
        j'.lost = j.lost + (if m.result = .lost then 1 else 0) ∧
        k.done = j.done ∧ k.rejected = j.rejected ∧ k.lost = j.lost + 1 ∧
        j'.loaded = j.loaded ∧ k.loaded = j.loaded ∧
        (e.st = .ownActive ∨ e.st = .ownBlocked →
          (m.result = .done → j'.remakes = j.remakes ∧
            e'.st = if j.done + 1 = e.tinCount then .ownComplete else e.st) ∧
          (m.result ≠ .done → j.remakes < 3 → e'.st = e.st ∧ j'.remakes = j.remakes + 1) ∧
          (m.result ≠ .done → 3 ≤ j.remakes → e'.st = .ownFailed ∧ j'.remakes = j.remakes ∧ e'.retention = some 0 ∧
            t.seg.prompt.order ≠ some e.id) ∧
          (j.remakes < 3 → o.st = e.st ∧ k.remakes = j.remakes + 1) ∧
          (3 ≤ j.remakes → o.st = .ownFailed ∧ k.remakes = j.remakes)) ∧
        (e.st = .ownCancelling → j'.remakes = j.remakes ∧ k.remakes = j.remakes ∧
          e'.st = o.st ∧ o.st = if j.done + j.rejected + j.lost + 1 = j.loaded then .cancelled else .ownCancelling) ∧
        (e.st = .ownFailed → e'.st = .ownFailed ∧ o.st = .ownFailed ∧ j'.remakes = j.remakes ∧ k.remakes = j.remakes))

/-- LOAD_GATE (R65): in RUN with no prompt set, the first job in load order, URGENT before NORMAL and then by claim
moment, is tested afresh: it gets the prompt, or is OWN_BLOCKED with a JOB STATUS BLOCKED placed, no other entry but
the jobs that ask for a load changes, and the gate goes on with the next job as a gate that finds the job blocked
would. In any other case nothing is asked. -/
def Obligations.LoadGateTakesFirstJob : Prop :=
  ∀ (x : Sample) (s : State), s.Live →
    (s.dck.cell ≠ .run ∨ s.seg.prompt ≠ .none ∨
        (∀ e ∈ s.book, e.st = .ownActive → ∀ j, e.job = some j → e.tinCount + j.remakes ≤ j.loaded) →
      exec (.loadGate x) s = .next (s.latch x)) ∧
    (s.dck.cell = .run → s.seg.prompt = .none → (s.book.map OrderEntry.id).Nodup → ∀ e j, e ∈ s.book → e.st = .ownActive →
      e.job = some j → j.loaded < e.tinCount + j.remakes →
      (∀ a ∈ s.book, a.st = .ownActive → (∀ b, a.job = some b → b.loaded < a.tinCount + b.remakes →
        a.id = e.id ∨ (e.urgent = true ∧ a.urgent = false) ∨ (e.urgent = a.urgent ∧ j.claimedAt < b.claimedAt))) →
      ∃ t, exec (.loadGate x) s = .next t ∧
        (s.eligibleEntry e = true → t.seg.prompt.order = some e.id ∧
          t = { s.latch x with seg := { s.seg with prompt := t.seg.prompt, serial := t.seg.serial }, panel := t.panel }) ∧
        (s.eligibleEntry e = false →
          t = { s.latch x with book := t.book, bus := t.bus, panel := t.panel
                               seg := { s.seg with prompt := t.seg.prompt, serial := t.seg.serial } } ∧
          t.seg.prompt.order ≠ some e.id ∧
          t.entry e.id = some { e with st := .ownBlocked, job := some { j with repeatTime := 0 } } ∧
          (∀ i, (∀ a, s.entry i = some a → a.st ≠ .ownActive) → t.entry i = s.entry i) ∧
          (s.bus.queue.length + s.book.length ≤ 16 →
            .jobStatus (jobStatusMsg s.self e j .blocked) ∈ t.bus.queue.map Queued.notice) ∧
          ∃ b, b = { s.place (.jobStatus (jobStatusMsg s.self e j .blocked)) with book := b.book } ∧
            b.entry e.id = t.entry e.id ∧ (∀ i, i ≠ e.id → b.entry i = s.entry i) ∧ exec (.loadGate x) b = .next t))

/-! ## Dose planning and canisters -/

/-- The verdict on a base (R42, R43): the first enabled window whose mask positions all agree decides, and without one
the verdict is DENY. -/
def Obligations.FirstMatchingWindowDecides : Prop :=
  ∀ (ws pre post : List Window) (w : Window) (base : Code16) (hit : Window → Prop),
    (∀ v, hit v ↔ v.enable = true ∧ ∀ i < 16, v.mask.getLsbD i = true → base.getLsbD i = v.pattern.getLsbD i) →
    (∀ v, windowMatches v base = true ↔ hit v) ∧
    ((∀ v ∈ ws, ¬ hit v) → verdict ws base = .deny) ∧
    (ws = pre ++ w :: post → (∀ v ∈ pre, ¬ hit v) → hit w →
      (w.action = some .permit → verdict ws base = .permit w.lid w.shake) ∧
      (w.action = some .deny → verdict ws base = .deny))

/-- From nominal volume to steps (R77): the nearest integer to N x 1,000 / (s x d), an exact half rounded up, then the
trace rule; a canister without a strength is no candidate. The strokes (R79): k = ceil(steps / S), the first (steps
mod k) one step longer, sum to the steps, none longer than S, no two further apart than one step; more than 32 are out
of the pump's reach. Fewer steps than min shot are raised to it, and 0 stays 0 (R78). -/
def Obligations.StepsAndStrokes : Prop :=
  (∀ (s : State) (n nominal str d colorant : Nat), str = (s.canister n).strength → d = (s.pumpCfg n).d →
      (0 < str → 0 < d → s.rawSteps n nominal = (2 * nominal * 1000 + str * d) / (2 * str * d) ∧
        2 * (s.rawSteps n nominal * (str * d)) ≤ 2 * (nominal * 1000) + str * d ∧
        2 * (nominal * 1000) < 2 * (s.rawSteps n nominal * (str * d)) + str * d) ∧
      s.stepsAt n nominal = traceSteps (s.rawSteps n nominal) (s.pumpCfg n).minShot ∧
      ((s.canister n).stock = none → s.candidate n colorant = false)) ∧
  (∀ (steps minShot S : Nat), 1 ≤ S →
      traceSteps 0 minShot = 0 ∧ (1 ≤ steps → steps < minShot → traceSteps steps minShot = minShot) ∧
      (minShot ≤ steps → traceSteps steps minShot = steps) ∧
      (raisedBy steps minShot = true ↔ 1 ≤ steps ∧ steps < minShot) ∧
      (1 ≤ steps → ∃ k, strokeCount steps S = k ∧ k * S < steps + S ∧ steps ≤ k * S ∧ 1 ≤ k ∧
        (strokesOf steps k).length = k ∧ (strokesOf steps k).sum = steps ∧ (∀ c ∈ strokesOf steps k, c ≤ S) ∧
        (∀ a ∈ strokesOf steps k, ∀ b ∈ strokesOf steps k, a ≤ b + 1) ∧
        (∀ i < k, (strokesOf steps k)[i]? = some (if i < steps % k then steps / k + 1 else steps / k))) ∧
      (∀ (s : State) (n nominal : Nat), 32 < s.strokesAt n (s.stepsAt n nominal) → s.stepsAt n nominal ≠ 0 →
        s.canTake n nominal = false) ∧
      (∀ k d : Nat, 1 ≤ steps → strokeCount steps S = k → ((strokesOf steps k).map (· * d)).sum = steps * d))

/-- The level class and the usable flag (R101), in the order of the rule. The choice of a canister (R82): among the
candidates that can take the entry the one with the largest available volume, and between equal volumes the lower
index. -/
def Obligations.CanisterClassesAndChoice : Prop :=
  (∀ (s : State) (n : Nat) (c : CanisterCfg) (k : Canister), s.fitted n = some c → k = s.canister n →
      (s.levelClass n = .unknown ↔ k.stock = none) ∧
      (∀ stock, k.stock = some stock →
        (s.levelClass n = .locked ↔ k.lock = true ∨ (s.pump n).st = .locked ∨ (s.pump n).st = .unusable) ∧
        (k.lock = false → (s.pump n).st ≠ .locked → (s.pump n).st ≠ .unusable →
          s.available n = stock.level - c.dead * 1000 - k.reserved ∧
          (s.levelClass n = .empty ↔ s.available n < (s.pumpCfg n).minShot * (s.pumpCfg n).d) ∧
          ((s.pumpCfg n).minShot * (s.pumpCfg n).d ≤ s.available n →
            (s.levelClass n = .low ↔ s.available n < c.lowMark * 1000) ∧
            (c.lowMark * 1000 ≤ s.available n →
              (s.levelClass n = .full ↔ c.capacity * 500 ≤ stock.level) ∧
              (stock.level < c.capacity * 500 → s.levelClass n = .ok))))) ∧
      (s.usable n = true ↔ (s.levelClass n = .full ∨ s.levelClass n = .ok ∨ s.levelClass n = .low) ∧ k.pendingLock = false)) ∧
  (∀ (s : State) (colorant nominal : Nat) (ok : Nat → Prop),
      (∀ n, ok n ↔ n < 16 ∧ (∃ c, s.fitted n = some c ∧ c.colorant = colorant) ∧
        (s.levelClass n = .full ∨ s.levelClass n = .ok ∨ s.levelClass n = .low) ∧ (s.canister n).pendingLock = false ∧
        (s.stepsAt n nominal = 0 ∨ s.strokesAt n (s.stepsAt n nominal) ≤ 32 ∧
          s.stepsAt n nominal * (s.pumpCfg n).d ≤ s.available n)) →
      (s.choose colorant nominal = none ↔ ∀ n, ¬ ok n) ∧
      (∀ n, s.choose colorant nominal = some n ↔
        ok n ∧ ∀ m, ok m → s.available m < s.available n ∨ s.available m = s.available n ∧ n ≤ m))

/-- The mix time (R95): t_size plus 3 s for each 2,000,000 nl begun, two thirds of that for GENTLE, capped at 300 s;
it is written into the record of a tin that becomes FINISHING, and it is the time the shake unit runs. -/
def Obligations.MixTimeFromTotal : Prop :=
  ∀ (t : Tin) (r : SizeRow) (c : Nat), sizeRow t.size = some r → t.total ≤ c * 2000000 → c * 2000000 < t.total + 2000000 →
    t.finish.st = .finishing ∧ t.finish = { t with st := .finishing, mix := t.finish.mix } ∧
    (t.shake = some .normal → t.finish.mix = some (min 300 (r.shakeTime + 3 * c))) ∧
    (t.shake = some .gentle → t.finish.mix = some (min 300 (r.shakeTime + 3 * c * 2 / 3))) ∧
    (t.total = 0 → t.finish.mix = some r.shakeTime) ∧
    (∀ k : Shaker, k.tin = some (.known t.finish) → some k.mixMs = t.finish.mix.map (· * 1000))

/-- STOCK REFILL (R102, R103, R114): refused RANGE for a strength outside 800-1,250 or a volume of 0 and LEVEL_UNKNOWN
before a SET LEVEL; else the level rises by what the capacity allows, the strength is the blend rounded half up, the
overfill of a clamped refill is answered, and a new batch makes the stirrer due. STOCK SET LEVEL (R102, R104, R114):
refused RANGE above the capacity and BUSY while volume is reserved; else level, strength and batch are those carried,
the level not below the dead volume, and a changed batch makes the stirrer due, a first SET LEVEL not, and it is
answered ACCEPTED with the level class it leaves. -/
def Obligations.StockRefilledAndSet : Prop :=
  (∀ (src target n volume strength batch : Nat) (s : State) (s1 : State) (c : CanisterCfg), s.Hears .terminal src →
      s.inService = true → (target = s.self ∨ target = 31) → n ≤ 15 → s.fitted n = some c → s.Shaped →
      s1 = s.refresh src none →
      (strength < 800 ∨ 1250 < strength ∨ volume = 0 → exec (.stockRefill src target n volume strength batch) s =
        .next (s1.place (.stockReply (StockReplyMsg.mk n .refill .refused (some .range) (s.levelClass n) 0)))) ∧
      (800 ≤ strength → strength ≤ 1250 → 1 ≤ volume → (s.canister n).stock = none →
        exec (.stockRefill src target n volume strength batch) s =
          .next (s1.place (.stockReply (StockReplyMsg.mk n .refill .refused (some .levelUnknown) (s.levelClass n) 0)))) ∧
      (∀ k accepted, 800 ≤ strength → strength ≤ 1250 → 1 ≤ volume → (s.canister n).stock = some k →
        k.level ≤ c.capacity * 1000 → accepted = min (volume * 1000) (c.capacity * 1000 - k.level) →
        ∃ t l, exec (.stockRefill src target n volume strength batch) s = .next t ∧ (t.canister n).stock = some l ∧
          l.level = k.level + accepted ∧ l.batch = batch ∧
          (0 < accepted → l.strength =
            (2 * (k.strength * k.level + strength * accepted) + l.level) / (2 * l.level)) ∧
          (accepted = 0 → l.strength = k.strength) ∧
          (t.canister n).reserved = (s.canister n).reserved ∧ (t.canister n).lock = (s.canister n).lock ∧
          (t.canister n).pendingLock = (s.canister n).pendingLock ∧
          (k.batch = batch → (t.canister n).stir = (s.canister n).stir) ∧
          (k.batch ≠ batch → (s.canister n).stir.st = .idle → s.canisterHeld n = false → s.working = true →
            (t.canister n).stir.st = .running ∧ (t.canister n).stir.left = c.duration * 1000) ∧
          (k.batch ≠ batch → (s.canister n).stir.st = .running →
            (t.canister n).stir = { (s.canister n).stir with left := c.duration * 1000 }) ∧
          (∀ m, m ≠ n → t.canister m = s.canister m) ∧
          t = { s1 with canisters := t.canisters, book := t.book, bus := t.bus } ∧
          (s1.bus.queue.length + s.book.length < 16 → ∃ r, .stockReply r ∈ t.bus.queue.map Queued.notice ∧ r.canister = n ∧
            r.action = .refill ∧ r.code = none ∧ r.cls = t.levelClass n ∧
            (accepted = volume * 1000 → r.outcome = .accepted ∧ r.overfill = 0) ∧
            (accepted ≠ volume * 1000 → r.outcome = .clamped ∧ volume * 1000 ≤ accepted + r.overfill * 1000 ∧
              accepted + r.overfill * 1000 < volume * 1000 + 1000)))) ∧
  (∀ (src target n level strength batch : Nat) (s : State) (s1 : State) (c : CanisterCfg), s.Hears .terminal src →
      s.inService = true → (target = s.self ∨ target = 31) → n ≤ 15 → s.fitted n = some c → s.Shaped →
      s1 = s.refresh src none →
      (strength < 800 ∨ 1250 < strength ∨ c.capacity < level → exec (.stockSetLevel src target n level strength batch) s =
        .next (s1.place (.stockReply (StockReplyMsg.mk n .setLevel .refused (some .range) (s.levelClass n) 0)))) ∧
      (800 ≤ strength → strength ≤ 1250 → level ≤ c.capacity → 0 < (s.canister n).reserved →
        exec (.stockSetLevel src target n level strength batch) s =
          .next (s1.place (.stockReply (StockReplyMsg.mk n .setLevel .refused (some .busy) (s.levelClass n) 0)))) ∧
      (800 ≤ strength → strength ≤ 1250 → level ≤ c.capacity → (s.canister n).reserved = 0 →
        ∃ t, exec (.stockSetLevel src target n level strength batch) s = .next t ∧
          (t.canister n).stock = some { level := max level c.dead * 1000, strength := strength, batch := batch } ∧
          (t.canister n).reserved = 0 ∧ (t.canister n).lock = (s.canister n).lock ∧
          (t.canister n).pendingLock = (s.canister n).pendingLock ∧
          ((s.canister n).stock = none ∨ (s.canister n).stock.map Stock.batch = some batch →
            (t.canister n).stir = (s.canister n).stir) ∧
          (∀ k, (s.canister n).stock = some k → k.batch ≠ batch → (s.canister n).stir.st = .idle →
            s.canisterHeld n = false → s.working = true → (t.canister n).stir.st = .running ∧
            (t.canister n).stir.left = c.duration * 1000) ∧
          (∀ m, m ≠ n → t.canister m = s.canister m) ∧
          t = { s1 with canisters := t.canisters, book := t.book, bus := t.bus } ∧
          (s1.bus.queue.length + s.book.length < 16 → .stockReply (StockReplyMsg.mk n .setLevel .accepted none
            (t.levelClass n) 0) ∈ t.bus.queue.map Queued.notice)))

/-- The tests every STOCK meets (R102): an index above 15 is refused RANGE with class UNKNOWN, a canister not fitted
NOT_FITTED; the canister is left as it is and one STOCK REPLY is placed. STOCK LOCK and RELEASE (R105, R106, R138): a
lock takes effect at once, or is left pending while an entry holds the canister; a release clears both flags and a
LOCKED pump, whose content is re-derived from the encoder while its valve stays. Each is answered ACCEPTED with the
level class it leaves. -/
def Obligations.StockRefusedLockedReleased : Prop :=
  (∀ (src target n v k b : Nat) (g : Gray) (s : State) (s1 : State) (code : StockCode) (cls : LevelClass),
      s.Hears .terminal src → s.inService = true → (target = s.self ∨ target = 31) →
      s1 = s.refresh src none → (15 < n ∧ code = .range ∧ cls = .unknown ∨ n ≤ 15 ∧ s.fitted n = none ∧ code = .notFitted ∧
        cls = .notFitted) →
      exec (.stockRefill src target n v k b) s = .next (s1.place (.stockReply (StockReplyMsg.mk n .refill .refused (some code) cls 0))) ∧
      exec (.stockSetLevel src target n v k b) s = .next (s1.place (.stockReply (StockReplyMsg.mk n .setLevel .refused (some code) cls 0))) ∧
      exec (.stockLock src target n) s = .next (s1.place (.stockReply (StockReplyMsg.mk n .lock .refused (some code) cls 0))) ∧
      exec (.stockRelease src target n g) s =
        .next ((s1.latchGray n g).place (.stockReply (StockReplyMsg.mk n .release .refused (some code) cls 0)))) ∧
  (∀ (src target n : Nat) (g : Gray) (s : State) (s1 : State) (c : CanisterCfg), s.Hears .terminal src →
      s.inService = true → (target = s.self ∨ target = 31) → n ≤ 15 → s.fitted n = some c → s.Shaped →
      s1 = s.refresh src none →
      (∃ t, exec (.stockLock src target n) s = .next t ∧
        t = { s1 with canisters := t.canisters, book := t.book, bus := t.bus } ∧ (∀ m, m ≠ n → t.canister m = s.canister m) ∧
        ((s.canister n).lock = true ∨ (s.canister n).pendingLock = true → t.canister n = s.canister n) ∧
        ((s.canister n).lock = false → (s.canister n).pendingLock = false → s.canisterHeld n = false →
          t.canister n = { s.canister n with lock := true }) ∧
        ((s.canister n).lock = false → (s.canister n).pendingLock = false → s.canisterHeld n = true →
          t.canister n = { s.canister n with pendingLock := true } ∧ t.levelClass n = s.levelClass n ∧
          t.usable n = false) ∧
        (s1.bus.queue.length + s.book.length < 16 →
          .stockReply (StockReplyMsg.mk n .lock .accepted none (t.levelClass n) 0) ∈ t.bus.queue.map Queued.notice)) ∧
      (∃ t, exec (.stockRelease src target n g) s = .next t ∧
        t = { s1 with canisters := t.canisters, shots := t.shots, book := t.book, bus := t.bus, pins := t.pins } ∧
        t.canister n = { s.canister n with lock := false, pendingLock := false } ∧
        (∀ m, m ≠ n → t.canister m = s.canister m ∧ t.pump m = s.pump m) ∧
        ((s.pump n).st ≠ .locked → t.pump n = s.pump n) ∧
        ((s.pump n).st = .locked →
          t.pump n = { s.pump n with st := .idle, content := rederive (s.pumpCfg n) g }) ∧
        (s1.bus.queue.length + s.book.length < 16 →
          .stockReply (StockReplyMsg.mk n .release .accepted none (t.levelClass n) 0) ∈ t.bus.queue.map Queued.notice)))

/-- The end of a stirring run (R110): the stirrer is IDLE with its flag clear, due one effective interval from now,
which is four times as long outside the window (R107). -/
def Obligations.StirringRunEnds : Prop :=
  ∀ (n : Fin 16) (s : State) (c : CanisterCfg), s.Live → s.fitted n = some c → s.Shaped →
    (s.canister n).stir.st = .running → ∃ t, exec (.stirringRunEnd n) s = .next t ∧
      t = { s with canisters := t.canisters } ∧ (∀ m, m ≠ n.val → t.canister m = s.canister m) ∧
      t.canister n = { s.canister n with stir := (t.canister n).stir } ∧ t.stirOut n = false ∧
      (t.canister n).stir.st = .idle ∧ (t.canister n).stir.flag = false ∧
      (s.inside = true → (t.canister n).stir.due = s.dck.moment.add (c.interval * 60)) ∧
      (s.inside = false → (t.canister n).stir.due = s.dck.moment.add (c.interval * 60 * 4))

/-! ## Pumps and shots -/

/-- The encoder (R130, R136): Gray to binary bit by bit from the top, the expected code rounded half up, a pass within
the tolerance either way, and the content re-derived by the same rounding and held to the stroke steps. The profile
and the movement (R118, R129): N stages from the start rate to the top rate whose counts sum to the ramp steps; a
movement drives its P steps and no other, up through the stages and down again, over all N where P is at least twice
the ramp steps and else over as many as twice their sum allows. -/
def Obligations.EncoderAndProfile : Prop :=
  (∀ (p : PumpCfg) (g : Gray) (e b x : Nat), 1 ≤ p.strokeSteps → b = (grayToBinary g).toNat →
      x = (2 * (e * 1023) + p.strokeSteps) / (2 * p.strokeSteps) →
      (grayToBinary g).getLsbD 9 = g.getLsbD 9 ∧
      (∀ i < 9, (grayToBinary g).getLsbD i = (g.getLsbD i ^^ (grayToBinary g).getLsbD (i + 1))) ∧
      (encoderOk p e g = true ↔ b ≤ x + p.tolerance ∧ x ≤ b + p.tolerance) ∧
      rederive p g ≤ p.strokeSteps ∧
      rederive p g = min p.strokeSteps ((2 * (b * p.strokeSteps) + 1023) / (2 * 1023))) ∧
  (∀ (p : PumpCfg) (steps : Nat), profileBad p = false →
      stageRate p 0 = p.startRate ∧ stageRate p (p.stages - 1) = p.topRate ∧ rampSum p p.stages = p.rampSteps ∧
      (∀ i j, i ≤ j → j < p.stages → stageRate p i ≤ stageRate p j ∧ stageCount p j ≤ stageCount p i ∧
        stageCount p i ≤ stageCount p j + 1) ∧
      ((movementRuns p steps).map Prod.fst).sum = steps ∧
      (∀ r ∈ movementRuns p steps, p.startRate ≤ r.2 ∧ r.2 ≤ p.topRate) ∧
      (2 * p.rampSteps ≤ steps → movementRuns p steps = rampUp p p.stages ++
        (steps - 2 * p.rampSteps, p.topRate) :: (rampUp p p.stages).reverse) ∧
      (steps < 2 * p.rampSteps → ∃ m < p.stages, 2 * rampSum p m ≤ steps ∧ (m + 1 < p.stages → steps < 2 * rampSum p (m + 1)) ∧
        movementRuns p steps = rampUp p m ++
          (steps - 2 * rampSum p m, if m = 0 then p.startRate else stageRate p (m - 1)) :: (rampUp p m).reverse) ∧
      (∀ time, stepsWithin (movementRuns p steps) time 1000 ≤ steps))

/-- The arbiter's choice (R121, R122, R124, R146): a grant goes to the lowest free channel that is not faulted and the
lowest formula index whose pump is ready, in a state that permits entry starts, with the cap OPEN and the spill input
released; where there is no grant to make, a grant changes nothing. -/
def Obligations.ArbiterChoosesLowest : Prop :=
  ∀ (s : State) (free : Nat → Prop) (ready : Nat → Prop), s.Live →
    (∀ ch, free ch ↔ ch < 4 ∧ s.channel ch = none ∧ s.pins.driveFault.getLsbD ch = false) →
    (∀ i, ready i ↔ i ∈ s.shots.waiting ∧ ∃ t e p, s.tinAt 2 = some t ∧ t.entry i = some e ∧ e.st = .toDose p ∧
      (s.pump p.canister).st ≠ .switching ∧ (s.pump p.canister).st ≠ .stroking ∧ (s.pump p.canister).st ≠ .refilling ∧
      (s.canister p.canister).stir.st ≠ .running) →
    (∀ ch i, s.grant = some (ch, i) ↔
      (s.dck.cell = .run ∨ s.dck.cell = .night) ∧ s.dck.cap = .opened ∧ s.pins.spill = false ∧
      s.seg.index.isRunning = false ∧ free ch ∧ (∀ k < ch, ¬ free k) ∧ ready i ∧ (∀ k < i, ¬ ready k)) ∧
    (s.grant = none → exec .channelGrant s = .next s)

/-- CHANNEL_GRANT where the start check passes (R81, R85, R86, R99, R123, R125): the entry is ACTIVE with its steps
and strokes worked out afresh, its volume is reserved, the channel is its own, and its first movement begins. Where it
does not pass (R85, R87, R88, R91, R123): refused for a reject cause, deferred for a canister that is no candidate,
out of reach or short, OMITTED for 0 steps, FAILED with OVERLOAD for the headroom; the channel is free again, nothing
is reserved and no pump moves. -/
def Obligations.GrantTaken : Prop :=
  (∀ (s : State) (ch i n steps vol : Nat) (a : Tin) (e : DoseEntry) (p : Plan) (c : CanisterCfg), s.Live → s.Shaped →
      s.grant = some (ch, i) → s.tinAt 2 = some a → a.entry i = some e → e.st = .toDose p → n = p.canister → n < 16 →
      s.fitted n = some c → c.colorant = e.colorant → s.usable n = true → a.cause = none →
      steps = s.stepsAt n e.nominal → vol = steps * (s.pumpCfg n).d → 1 ≤ steps → 1 ≤ (s.pumpCfg n).strokeSteps →
      s.strokesAt n steps ≤ 32 → vol ≤ s.available n → a.total + s.outstanding a + vol ≤ headroomNl a.size →
      ∃ t b k, exec .channelGrant s = .next t ∧
        t = { s with shots := t.shots, seg := { s.seg with slots := t.seg.slots }, canisters := t.canisters, book := t.book
                     bus := t.bus } ∧
        (∀ m, m ≠ 2 → t.slot m = s.slot m) ∧ t.channel ch = some i ∧ (∀ m, m ≠ ch → t.channel m = s.channel m) ∧
        (∀ m, m ∈ t.shots.waiting ↔ m ∈ s.shots.waiting ∧ m ≠ i) ∧
        t.canister n = { s.canister n with reserved := (s.canister n).reserved + vol } ∧
        (∀ m, m ≠ n → t.canister m = s.canister m ∧ t.pump m = s.pump m) ∧
        t.tinAt 2 = some b ∧ b = { a with entries := b.entries, raised := b.raised } ∧
        (b.raised = true ↔ a.raised = true ∨ 1 ≤ s.rawSteps n e.nominal ∧ s.rawSteps n e.nominal < (s.pumpCfg n).minShot) ∧
        k = { canister := n, steps := steps, strokes := strokesOf steps (s.strokesAt n steps), emitted := 0 } ∧
        b.entry i = some { e with st := .active k } ∧ (∀ m, m ≠ i → b.entry m = a.entry m) ∧
        (∀ f l, k.strokes = f :: l →
          (f ≤ (s.pump n).content → (s.pump n).valve = .outlet → (t.pump n).st = .stroking ∧ (t.pump n).steps = f) ∧
          (f ≤ (s.pump n).content → (s.pump n).valve ≠ .outlet → (t.pump n).st = .switching ∧ (t.pump n).target = .outlet) ∧
          ((s.pump n).content < f → (s.pump n).valve = .inlet → (t.pump n).st = .refilling ∧
            (t.pump n).steps = (s.pumpCfg n).strokeSteps - (s.pump n).content) ∧
          ((s.pump n).content < f → (s.pump n).valve ≠ .inlet → (t.pump n).st = .switching ∧ (t.pump n).target = .inlet))) ∧
  (∀ (s : State) (ch i n steps : Nat) (a : Tin) (e : DoseEntry) (p : Plan) (cand : Prop), s.Live → s.Shaped →
      s.grant = some (ch, i) → s.tinAt 2 = some a → a.entry i = some e → e.st = .toDose p → n = p.canister →
      steps = s.stepsAt n e.nominal →
      (cand ↔ s.usable n = true ∧ ∃ c, s.fitted n = some c ∧ c.colorant = e.colorant) →
      (a.cause ≠ none ∨ ¬ cand ∨ steps = 0 ∨ 32 < s.strokesAt n steps ∨ s.available n < steps * (s.pumpCfg n).d ∨
        headroomNl a.size < a.total + s.outstanding a + steps * (s.pumpCfg n).d) →
      ∃ t b, exec .channelGrant s = .next t ∧ t.channel ch = none ∧ t.shots.pumps = s.shots.pumps ∧
        (∀ m, m ∈ t.shots.waiting ↔ m ∈ s.shots.waiting ∧ m ≠ i) ∧
        (∀ m, (t.canister m).reserved = (s.canister m).reserved ∧ (t.canister m).stock = (s.canister m).stock) ∧
        t.tinAt 2 = some b ∧ b.total = a.total ∧ b.dosed = a.dosed ∧ b.raised = a.raised ∧
        (∀ m, m ≠ i → b.entry m = a.entry m) ∧
        (a.cause ≠ none → b.entry i = some e ∧ b.cause = a.cause ∧ b.deferral = a.deferral) ∧
        (a.cause = none → ¬ cand ∨ (steps ≠ 0 ∧ (32 < s.strokesAt n steps ∨ s.available n < steps * (s.pumpCfg n).d)) →
          b.entry i = some { e with st := .deferred } ∧ b.cause = none ∧
          DeferItem.mk e.colorant e.nominal e.index s.self ∈ b.deferral) ∧
        (a.cause = none → cand → steps = 0 → b.entry i = some { e with st := .omitted } ∧ b.omitted = true ∧
          b.deferral = a.deferral ∧ b.cause = none) ∧
        (a.cause = none → cand → steps ≠ 0 → s.strokesAt n steps ≤ 32 → steps * (s.pumpCfg n).d ≤ s.available n →
          b.entry i = some { e with st := .failed p } ∧ b.cause = some .overload ∧ b.deferral = a.deferral) ∧
        t = { s with shots := t.shots, seg := { s.seg with slots := t.seg.slots }, canisters := t.canisters, book := t.book
                     bus := t.bus })

/-- SWITCH_END (R125, R126): the valve stands where it was turned to and the movement the switch was for begins, or
the pump stands IDLE where the state permits no entry start; no colorant moves. REFILL_END COMPLETE (R125, R128): the
chamber is full, neither level, reservation nor total moves, and the pump turns its valve for the stroke the refill
was for, or stands IDLE where the state permits no movement. -/
def Obligations.SwitchAndRefillEnd : Prop :=
  (∀ (ch : Fin 4) (s : State) (i n f : Nat) (a : Tin) (e : DoseEntry) (p : Plan), s.Live → s.Shaped →
      s.channel ch = some i → s.tinAt 2 = some a → a.entry i = some e → e.st = .active p → n = p.canister → n < 16 →
      (s.pump n).st = .switching → nextStroke p.strokes p.emitted = some f →
      ∃ t, exec (.switchEnd ch) s = .next t ∧ t = { s with shots := t.shots } ∧ t.shots.channels = s.shots.channels ∧
        t.shots.waiting = s.shots.waiting ∧ (∀ m, m ≠ n → t.pump m = s.pump m) ∧ (t.pump n).valve = (s.pump n).target ∧
        (t.pump n).content = (s.pump n).content ∧
        (s.dosingState = false → (t.pump n).st = .idle) ∧
        (s.dosingState = true → f ≤ (s.pump n).content → (s.pump n).target = .outlet →
          (t.pump n).st = .stroking ∧ (t.pump n).steps = f ∧ (t.pump n).time = 0) ∧
        (s.dosingState = true → (s.pump n).content < f → (s.pump n).target = .inlet →
          (t.pump n).st = .refilling ∧ (t.pump n).steps = (s.pumpCfg n).strokeSteps - (s.pump n).content ∧ (t.pump n).time = 0)) ∧
  (∀ (ch : Fin 4) (g : Gray) (s : State) (i n f : Nat) (a : Tin) (e : DoseEntry) (p : Plan), s.Live → s.Shaped →
      s.channel ch = some i → s.tinAt 2 = some a → a.entry i = some e → e.st = .active p → n = p.canister → n < 16 →
      (s.pump n).st = .refilling → nextStroke p.strokes p.emitted = some f → f ≤ (s.pumpCfg n).strokeSteps →
      encoderOk (s.pumpCfg n) (s.pumpCfg n).strokeSteps g = true →
      ∃ t, exec (.refillEnd ch g) s = .next t ∧ t = { s with shots := t.shots, pins := t.pins } ∧
        t.shots.channels = s.shots.channels ∧ (∀ m, m ≠ n → t.pump m = s.pump m) ∧
        (t.pump n).content = (s.pumpCfg n).strokeSteps ∧ (t.pump n).valve = (s.pump n).valve ∧
        (s.dosingState = false → (t.pump n).st = .idle) ∧
        (s.dosingState = true → (s.pump n).valve ≠ .outlet → (t.pump n).st = .switching ∧ (t.pump n).target = .outlet) ∧
        (s.dosingState = true → (s.pump n).valve = .outlet → (t.pump n).st = .stroking ∧ (t.pump n).steps = f))

/-- STROKE_END COMPLETE (R89, R93, R100, R127, R131): content, level and reservation fall by the stroke, the entry's
emitted steps and the tin's colorant total rise by it; after the last stroke the entry is DOSED, joins the dosed list
and frees its channel with the pump IDLE, and otherwise the entry keeps its channel. -/
def Obligations.StrokeEndsComplete : Prop :=
  ∀ (ch : Fin 4) (g : Gray) (s : State) (i n c vol : Nat) (a : Tin) (e : DoseEntry) (p : Plan) (k : Stock), s.Live → s.Shaped →
    s.channel ch = some i → s.tinAt 2 = some a → a.entry i = some e → e.st = .active p → n = p.canister → n < 16 →
    (s.pump n).st = .stroking → c = (s.pump n).steps → c ≤ (s.pump n).content → vol = c * (s.pumpCfg n).d →
    (s.canister n).stock = some k → encoderOk (s.pumpCfg n) ((s.pump n).content - c) g = true →
    ∃ t b, exec (.strokeEnd ch g) s = .next t ∧ t.tinAt 2 = some b ∧
      (t.pump n).content = (s.pump n).content - c ∧
      (t.canister n).stock = some { k with level := k.level - vol } ∧
      (t.canister n).reserved = (s.canister n).reserved - vol ∧
      b.total = a.total + vol ∧ b.cause = a.cause ∧ b.deferral = a.deferral ∧ (∀ m, m ≠ i → b.entry m = a.entry m) ∧
      (nextStroke p.strokes (p.emitted + c) ≠ none → t.channel ch = some i ∧ b.dosed = a.dosed ∧ b.st = a.st ∧
        b.entry i = some { e with st := .active { p with emitted := p.emitted + c } } ∧
        (s.dosingState = false → (t.pump n).st = .idle)) ∧
      (nextStroke p.strokes (p.emitted + c) = none → t.channel ch = none ∧ (t.pump n).st = .idle ∧
        b.entry i = some { e with st := .dosed { p with emitted := p.emitted + c } } ∧
        b.dosed = a.dosed ++ [DosedItem.mk e.colorant (p.steps * (s.pumpCfg n).d) s.self] ∧
        (a.st = .dosing → (∀ x ∈ a.entries, x.index ≠ i → DoseState.isToDose x.st = false ∧ DoseState.isActive x.st = false) →
          (a.cause ≠ none → b.st = .reject) ∧ (a.cause = none → a.deferral = [] → b.st = .finishing) ∧
          (a.cause = none → a.deferral ≠ [] → b.st = .deferred))) ∧
      (∀ m, m ≠ n → t.canister m = s.canister m ∧ t.pump m = s.pump m) ∧ (∀ m, m ≠ 2 → t.slot m = s.slot m) ∧
      t = { s with shots := t.shots, seg := { s.seg with slots := t.seg.slots }, canisters := t.canisters, book := t.book
                   bus := t.bus, pins := t.pins }

/-- A movement that ends otherwise (R90, R100, R132, R133, R134, R136): a failed encoder check, or a drive fault on
the held channel, LOCKS the pump, re-derives its content, fails the entry with DOSE_FAULT unless a cause is held,
counts and charges the steps emitted in a stroke, releases the reservation and frees the channel. -/
def Obligations.MovementEndsInFault : Prop :=
  ∀ (ch : Fin 4) (g : Gray) (s : State) (i n emitted vol : Nat) (a : Tin) (e : DoseEntry) (p : Plan) (k : Stock) (cmd : Instr),
    s.Live → s.Shaped → s.channel ch = some i → s.tinAt 2 = some a → a.entry i = some e → e.st = .active p →
    n = p.canister → n < 16 → (s.canister n).stock = some k → vol = emitted * (s.pumpCfg n).d →
    (cmd = .strokeEnd ch g ∧ (s.pump n).st = .stroking ∧ emitted = (s.pump n).steps ∧
        encoderOk (s.pumpCfg n) ((s.pump n).content - emitted) g = false ∨
      cmd = .refillEnd ch g ∧ (s.pump n).st = .refilling ∧ emitted = 0 ∧
        encoderOk (s.pumpCfg n) (s.pumpCfg n).strokeSteps g = false ∨
      cmd = .driveFault ch g ∧ emitted = (if (s.pump n).st = .stroking then s.driven n else 0)) →
    ∃ t b, exec cmd s = .next t ∧ t.tinAt 2 = some b ∧ t.channel ch = none ∧
      (t.pump n).st = .locked ∧ (t.pump n).content = rederive (s.pumpCfg n) g ∧
      ((s.pump n).st = .switching → (t.pump n).valve = .unknown) ∧
      ((s.pump n).st ≠ .switching → (t.pump n).valve = (s.pump n).valve) ∧
      (t.canister n).stock = some { k with level := k.level - vol } ∧ (t.canister n).reserved = 0 ∧
      t.levelClass n = (if s.fitted n = none then .notFitted else .locked) ∧
      b.total = a.total + vol ∧ b.dosed = a.dosed ∧ b.deferral = a.deferral ∧
      b.cause = some (a.cause.getD .doseFault) ∧ (∀ m, m ≠ i → b.entry m = a.entry m) ∧
      b.entry i = some { e with st := .failed { p with emitted := p.emitted + emitted } } ∧
      (a.st = .dosing → (∀ x ∈ a.entries, x.index ≠ i → DoseState.isActive x.st = false) → b.st = .reject) ∧
      (cmd = .driveFault ch g → t.pins.driveFault.getLsbD ch = true) ∧
      (∀ m, m ≠ n → t.canister m = s.canister m ∧ t.pump m = s.pump m) ∧ (∀ m, m ≠ 2 → t.slot m = s.slot m) ∧
      t = { s with shots := t.shots, seg := { s.seg with slots := t.seg.slots }, canisters := t.canisters, book := t.book
                   bus := t.bus, pins := t.pins }

/-- Channel faults and the spill input (R121, R124): a fault on a free channel and its clearing change the input
alone, a spill stops every grant and no movement, and its release changes nothing else. The chute and the dispatch
table (R156, R157): an open door lets no tin into the chute, and its closing makes the count 0; DISPFULL_L decides
whether a tin can leave for the dispatch table. -/
def Obligations.InputLevelsTaken : Prop :=
  (∀ (ch : Fin 4) (g : Gray) (s : State), s.Live →
      (s.channel ch = none → ∃ t, exec (.driveFault ch g) s = .next t ∧ t = { s with pins := t.pins } ∧
        t.pins = { s.pins with driveFault := t.pins.driveFault } ∧ t.faulted ch = true ∧
        (∀ k < 4, k ≠ ch.val → t.faulted k = s.faulted k) ∧ t.freeChannel? ≠ some ch) ∧
      (∃ t, exec (.channelFaultCleared ch) s = .next t ∧ t = { s with pins := t.pins } ∧
        t.pins = { s.pins with driveFault := t.pins.driveFault } ∧ t.faulted ch = false ∧
        (∀ k < 4, k ≠ ch.val → t.faulted k = s.faulted k)) ∧
      (∃ t, exec .spillAsserted s = .next t ∧ t = { s with pins := { s.pins with spill := true } } ∧ t.grant = none) ∧
      (∃ t, exec .spillReleased s = .next t ∧ t = { s with pins := { s.pins with spill := false } })) ∧
  (∀ (full : Bool) (s : State), s.Live →
      (∃ t, exec .chuteDoorOpened s = .next t ∧ t = { s with pins := { s.pins with chuteDoor := true } } ∧ t.canLeave .chute = false) ∧
      (∃ t, exec .chuteDoorClosed s = .next t ∧
        t = { s with pins := { s.pins with chuteDoor := false }, seg := { s.seg with chute := 0 } } ∧ t.canLeave .chute = true) ∧
      (∃ t, exec (.dispatchFullChange full) s = .next t ∧ t = { s with pins := { s.pins with dispatchFull := full } } ∧
        t.canLeave .dispatch = !full))

/-! ## The conveyor segment -/

/-- INDEX_COMMAND (R145, R146, R147, R155): an index is taken only where the eight conditions hold together. It fixes
the destination of the tin at slot 7, decides the pull by the intake's offer and the gap rule, and starts the drive
with a fresh timer, the cell ceasing to be idle (R31); a LIDDED tin that cannot wait for the shaker, and at the last
cell an undosed tin at slot 7, become REJECT with cause UNFINISHED. Where a condition fails the command changes
nothing. -/
def Obligations.IndexCommanded : Prop :=
  ∀ s : State, s.Live → s.seg.slots.length = 8 →
    (s.indexReady = true ↔ (s.dck.cell = .run ∨ s.dck.cell = .night ∨ s.dck.cell = .capped) ∧ s.seg.index = .idle ∧
      (∀ id n k d, s.seg.prompt ≠ .standing id n k d) ∧ (∀ a, s.tinAt 2 = some a → a.st ≠ .loaded ∧ a.st ≠ .dosing) ∧
      (∀ k, s.lids.bay ≠ .pressing k) ∧ s.lids.bay ≠ .pressStopped ∧ (∀ a, s.tinAt 4 = some a → a.st ≠ .finishing) ∧
      s.shaker.st ≠ .loading ∧ s.shaker.st ≠ .returning ∧
      (s.shaker.st = .empty → ∀ a, s.tinAt 6 = some a → a.st ≠ .lidded) ∧
      (s.shaker.st ≠ .empty → s.slot 6 = none ∨ s.slot 7 ≠ none) ∧
      (∀ r, s.slot 7 = some r → s.canLeave (s.destination r) = true) ∧
      ((∃ n < 8, s.slot n ≠ none) ∨ s.takesPull = true)) ∧
    (s.takesPull = true ↔ (∃ d, s.xfr.intake = .cleared d ∧ ((∃ q, d = .normal q) ∨ s.seg.chute < 6)) ∧
      ¬ ((∃ id, s.seg.prompt = .requested id) ∧ s.seg.pulled = true)) ∧
    s.destination .unknown = .chute ∧
    (∀ a : Tin, (a.st = .reject → s.destination (.known a) = .chute) ∧
      (a.st = .done → s.destination (.known a) = if s.cfg.last then .dispatch else .lane) ∧
      (a.st = .deferred ∨ a.st = .pass → s.destination (.known a) = if s.cfg.last then .chute else .lane)) ∧
    (s.canLeave .chute = true ↔ s.seg.chute < 6 ∧ s.pins.chuteDoor = false) ∧
    (s.canLeave .dispatch = true ↔ s.pins.dispatchFull = false) ∧
    (s.canLeave .lane = true ↔ s.xfr.inTransit.length < 3) ∧
    (s.indexReady = false → exec .indexCommand s = .next s) ∧
    (s.indexReady = true → ∃ t d, exec .indexCommand s = .next t ∧ t = { s with seg := t.seg, dck := { s.dck with idle := 0 } } ∧
      t.seg = { s.seg with slots := t.seg.slots, index := .running d s.takesPull 0, pulled := s.takesPull } ∧
      t.convOut = true ∧ (∀ r, s.slot 7 = some r → d = s.destination r) ∧ (∀ n, n ≠ 6 → n ≠ 7 → t.slot n = s.slot n) ∧
      (∀ a, s.tinAt 6 = some a → a.st = .lidded → t.slot 6 =
        some (.known { a with st := .reject, cause := some (a.cause.getD .unfinished) })) ∧
      ((∀ a, s.tinAt 6 = some a → a.st ≠ .lidded) → t.slot 6 = s.slot 6) ∧
      (∀ a, s.tinAt 7 = some a → s.cfg.last = true → a.st = .deferred ∨ a.st = .pass → t.slot 7 =
        some (.known { a with st := .reject, cause := some (a.cause.getD .unfinished) })) ∧
      ((∀ a, s.tinAt 7 = some a → s.cfg.last = false ∨ (a.st ≠ .deferred ∧ a.st ≠ .pass)) → t.slot 7 = s.slot 7))

/-- INDEX_FINISH and INDEX_TIMEOUT (R148, R149, R178). A stopped index is finished, with its destination and pull
decision and a fresh timer, as soon as the state permits an index and, for a tin bound for the chute, the chute takes
it. An index whose timer runs out stops with the register as it was, a pull counted as cut short where the intake
still stands CLEARED (the model's reading, log 43), and the cell JAMMED. -/
def Obligations.IndexFinishedOrFailed : Prop :=
  ∀ s : State, s.Live →
    (∀ d p, s.seg.index = .stopped d p →
      (s.dck.cell = .run ∨ s.dck.cell = .night ∨ s.dck.cell = .capped →
        s.slot 7 = none ∨ d ≠ .chute ∨ (s.seg.chute < 6 ∧ s.pins.chuteDoor = false) →
        exec .indexFinish s =
          .next { s with seg := { s.seg with index := .running d p 0 }, dck := { s.dck with idle := 0 } }) ∧
      (s.working = false ∨ (s.slot 7 ≠ none ∧ d = .chute ∧ (6 ≤ s.seg.chute ∨ s.pins.chuteDoor = true)) →
        exec .indexFinish s = .next s) ∧
      exec .indexTimeout s = .next s) ∧
    (s.seg.index = .idle → exec .indexFinish s = .next s ∧ exec .indexTimeout s = .next s) ∧
    (∀ d p k, s.seg.index = .running d p k → exec .indexFinish s = .next s ∧ ∃ t, exec .indexTimeout s = .next t ∧
      t = { s with seg := t.seg, dck := t.dck, canisters := t.canisters, panel := t.panel, xfr := t.xfr } ∧
      t.dck = { s.dck with cell := .jammed, jam := true, idle := 0 } ∧ t.convOut = false ∧
      t.seg = { s.seg with index := .idle, prompt := t.seg.prompt } ∧
      (s.seg.prompt.isRequested = true → t.seg.prompt = .none) ∧
      (s.seg.prompt.isRequested = false → t.seg.prompt = s.seg.prompt ∧ t.panel = s.panel) ∧
      t.xfr = { s.xfr with cutShort := t.xfr.cutShort } ∧
      (t.xfr.cutShort = true ↔ p = true ∧ ∃ c, s.xfr.intake = .cleared c) ∧
      (∀ n, (t.canister n).stock = (s.canister n).stock ∧ (t.canister n).reserved = (s.canister n).reserved))

/-- INDEX_COMPLETE (R146, R149, R153, R155, R156, R157, R164). The record at slot 7 goes to its destination: into the
chute, whose count rises (to 6 at most, log 34; with the door opened since the command too: the model's choice, log
40) and where a REJECT tin is reported once; onto the dispatch table; or into the lane with the next consign sequence
and its CONSIGN. The records of slots 0-6 move to slots 1-7 and slot 0 is empty without a pull. Where every sensor
agrees with the register, the tin now at slot 2 is dealt with by its state, its waiting set is formed, the lid unit
and the shake unit look at their slots, and an undosed tin at slot 7 of the last cell is REJECT; where one does not,
the cell jams and no bay is told. -/
def Obligations.IndexCompletes : Prop :=
  ∀ (x : Sample) (s : State) (d : Destination) (p : Bool) (k : Nat) (agree : Prop), s.Live → s.seg.slots.length = 8 →
    s.seg.index = .running d p k →
    (agree ↔ ∀ n < 8, (x.slots.getLsbD n = true ↔ if n = 0 then p = true else s.slot (n - 1) ≠ none)) →
    ∃ t, exec (.indexComplete x) s = .next t ∧ t.seg.index = .idle ∧ t.convOut = false ∧ t.seg.pulled = s.seg.pulled ∧
      t.stations = s.stations ∧ t.cfg = s.cfg ∧ t.atn = s.atn ∧ t.dck.moment = s.dck.moment ∧
      (p = false → t.slot 0 = none ∧ t.xfr = { s.xfr with inTransit := t.xfr.inTransit, release := t.xfr.release }) ∧
      (p = true → t.slot 0 ≠ none) ∧
      (∀ n, 1 ≤ n → n ≤ 7 → n ≠ 2 → n ≠ 7 → t.slot n = s.slot (n - 1)) ∧
      (s.slot 7 = none ∨ d ≠ .chute → t.seg.chute = s.seg.chute) ∧
      (s.slot 7 ≠ none → d = .chute → t.seg.chute = min 6 (s.seg.chute + 1)) ∧
      (s.slot 7 = none ∨ s.slot 7 = some .unknown ∨ d = .dispatch →
        t.bus = s.bus ∧ t.book = s.book ∧ t.xfr.inTransit = s.xfr.inTransit ∧ t.xfr.release = s.xfr.release) ∧
      (∀ a m, s.tinAt 7 = some a → d = .chute → m = TinReportMsg.mk a.id a.order .rejected a.cause s.self a.total a.raised a.omitted →
        t.bus = (s.report m).bus ∧ t.book = (s.report m).book ∧ t.xfr.inTransit = s.xfr.inTransit ∧
        (a.id.cell ≠ s.self → t.bus = (s.place (.tinReport m)).bus ∧ t.book = s.book)) ∧
      (∀ a q, s.tinAt 7 = some a → d = .lane → q = (if s.xfr.release = 0 ∨ 65535 ≤ s.xfr.release then 1 else s.xfr.release + 1) →
        t.xfr.release = q ∧ t.xfr.inTransit = s.xfr.inTransit ++ [{ seq := q, tin := a, time := 0 }] ∧ t.book = s.book ∧
        t.bus = (s.place (.consign (ConsignMsg.mk q a.id a.order a.base a.size a.lid a.shake a.total
          (if a.st = .done then .done else .deferred) a.raised a.omitted a.dosed a.deferral))).bus) ∧
      (agree → t.dck.cell = s.dck.cell ∧ t.dck.jam = s.dck.jam ∧ t.canisters = s.canisters ∧
        (∀ i, i ∈ t.shots.waiting ↔ ∃ a e, s.tinAt 1 = some a ∧ e ∈ a.entries ∧ e.index = i ∧ ∃ c, e.st = .toDose c) ∧
        (s.tinAt 1 = none → t.slot 2 = s.slot 1) ∧
        (∀ a, s.tinAt 1 = some a → ∃ b, t.slot 2 = some (.known b) ∧
          (a.st = .loaded → a.hasLocal = true → b = { a with st := .dosing }) ∧
          (a.st = .loaded ∨ a.st = .pass → a.hasLocal = false → a.cause = none →
            (a.deferral = [] → b = { a with st := .finishing, mix := some (mixTime a.size a.total a.shake) }) ∧
            (a.deferral ≠ [] → b = { a with st := if a.st = .pass then .pass else .deferred })) ∧
          (a.st = .dosing → a.hasLocal = true → a.cause = none → b = a) ∧
          (a.st = .done ∨ a.st = .reject → b = a)) ∧
        (∀ a, s.tinAt 6 = some a → s.cfg.last = true → a.st = .deferred ∨ a.st = .pass → t.slot 7 =
          some (.known { a with st := .reject, cause := some (a.cause.getD .unfinished) })) ∧
        ((∀ a, s.tinAt 6 = some a → s.cfg.last = false ∨ (a.st ≠ .deferred ∧ a.st ≠ .pass)) → t.slot 7 = s.slot 6) ∧
        (s.lids.bay = .idle → s.working = true →
          t.lids = (State.pressStart { s with seg := { s.seg with slots := t.seg.slots }, pins := { s.pins with sample := x } }).lids) ∧
        (s.shaker.st = .empty → s.working = true → (∀ a, s.tinAt 5 = some a → a.st = .lidded → t.shaker.st = .loading)) ∧
        (s.shaker.st = .unclamping → s.pins.clamp = false → s.working = true → s.slot 6 = none → t.shaker.st = .returning)) ∧
      (¬ agree → t.dck = { s.dck with cell := .jammed, jam := true, idle := 0 } ∧ t.slot 2 = s.slot 1 ∧ t.slot 7 = s.slot 6 ∧
        t.lids = s.lids ∧ t.shaker = s.shaker ∧ t.shots.waiting = [])

/-- The load prompt (R150, R151, R152, R207, R208, R209): a REQUESTED prompt stands where slot 1 is free by register
and sensor and no index is busy in RUN, taking a serial that no record of this cell's origin holds. LOADED takes it: a
PERMIT makes the label's LOADED record and counts the load, a DENY an UNKNOWN record. The load moment is that of the
command (log 35), and a later load of the job places no notice (the model's reading, log 15). SKIP and the load wait's
end give the load up; each second of the wait is shown. LOADED without a standing prompt makes an UNKNOWN record of a
tin the register does not hold, and the cell ceases to be idle (R31). -/
def Obligations.LoadsTakenOrGivenUp : Prop :=
  ∀ (x : Sample) (s : State), s.Live → s.inService = true → s.seg.slots.length = 8 →
    (∀ id, s.seg.prompt = .requested id → s.seg.serial ≤ 65535 → s.tinTable.length ≤ 12 → s.dck.cell = .run →
      s.slot 1 = none → s.seg.index = .idle → s.sensed 1 = false →
      ∃ n, s.judgePrompt.seg = { s.seg with prompt := .standing id n 0 10, serial := if n = 65535 then 1 else n + 1 } ∧
        (∀ a ∈ s.tinTable, a.id.cell = s.self → a.id.serial ≠ n) ∧
        ((∀ a ∈ s.tinTable, a.id.cell = s.self → a.id.serial ≠ s.seg.serial) → n = s.seg.serial) ∧
        (s.pins.sample.printerReady = true → s.judgePrompt.panel.printed = some (s.labelFor id n)) ∧
        (s.pins.sample.printerReady = false → s.judgePrompt.panel.label = some (s.labelFor id n))) ∧
    (∀ id n k w, s.seg.prompt = .standing id n k w →
      (∃ t, exec .skip s = .next t ∧ exec .loadWaitEnd s = .next t ∧
        t = { s with seg := { s.seg with prompt := .none }, panel := { s.panel with label := none } }) ∧
      exec .loadWaitDisplay s = .next { s with seg := { s.seg with prompt := .standing id n k (w - 1) } } ∧
      (x.slots.getLsbD 1 = false → exec (.loaded x) s = .next (s.latch x)) ∧
      (x.slots.getLsbD 1 = true → ∃ t, exec (.loaded x) s = .next t ∧ t.seg.prompt = .none ∧ t.panel.label = none ∧
        t.seg.serial = s.seg.serial ∧ t.seg.index = s.seg.index ∧ t.dck = s.dck ∧ t.canisters = s.canisters ∧
        t.shots = s.shots ∧ t.lids = s.lids ∧ t.shaker = s.shaker ∧ t.xfr = s.xfr ∧
        (∀ m, m ≠ 1 → t.slot m = s.slot m) ∧ (∀ i, i ≠ id → t.entry i = s.entry i) ∧
        (∀ e m lid shake, s.entry id = some e → e.order = some m → verdict s.windows m.base = .permit lid shake →
          (∃ a, t.slot 1 = some (.known a) ∧ a.st = .loaded ∧ a.id = { cell := s.self, serial := n } ∧ a.order = m.id ∧
            a.base = m.base ∧ a.size = m.size ∧ a.lid = lid ∧ a.shake = shake ∧ a.total = 0 ∧ a.dosed = [] ∧
            a.cause = none ∧ a.entries.map (fun v => (v.index, v.colorant, v.nominal)) =
              m.formula.zipIdx.map (fun f => (f.2 + 1, f.1.colorant, f.1.q * nominalOf m.size))) ∧
          (∀ j, e.job = some j → t.entry id = some { e with job := some { j with
              loaded := j.loaded + 1, committed := true
              tins := j.tins ++ [{ tin := { cell := s.self, serial := n }, loadedAt := s.now, fate := .inFlight }] } } ∧
            (j.loaded = 0 → t.bus = (s.place (.claim id (e.ownEst.getD 0) true)).bus) ∧ (j.loaded ≠ 0 → t.bus = s.bus))) ∧
        (∀ e m, s.entry id = some e → e.order = some m → verdict s.windows m.base = .deny →
          t.slot 1 = some .unknown ∧ (e.st = .ownActive → ∃ b, t.entry id = some b ∧ b.st = .ownBlocked) ∧
          (e.st ≠ .ownActive → t.entry id = some e ∧ t.bus = s.bus)))) ∧
    ((∀ id n k w, s.seg.prompt ≠ .standing id n k w) →
      exec .skip s = .next s ∧ exec .loadWaitEnd s = .next s ∧ exec .loadWaitDisplay s = .next s ∧
      (x.slots.getLsbD 1 = true → s.slot 1 = none → exec (.loaded x) s =
        .next { (s.latch x).setSlot 1 (some .unknown) with dck := { s.dck with idle := 0 } }) ∧
      (x.slots.getLsbD 1 = false ∨ s.slot 1 ≠ none → exec (.loaded x) s = .next (s.latch x)))

/-- CONFIRM in JAMMED (R158, R178): the sensors settle each slot, 0 first. A record sensed is kept, a tin sensed in an
empty slot is UNKNOWN, a record not sensed goes, and one with a tin id is reported LOST with cause JAM_RECONCILE. A
cut-short pull whose tin has left the gate takes its item off the list and sets the pointer. The jam flag is cleared,
and the cell is PAUSED under the pause flag and otherwise in the state its cap gives it. -/
def Obligations.ConfirmReconcilesJam : Prop :=
  ∀ (x : Sample) (s : State), s.Live → s.dck.cell = .jammed → s.seg.slots.length = 8 → s.seg.index = .idle →
    ∃ t, exec (.confirm x) s = .next t ∧ t.dck.jam = false ∧ t.dck.pause = s.dck.pause ∧ t.dck.halt = s.dck.halt ∧
      (s.dck.pause = true → t.dck.cell = .paused) ∧
      (s.dck.pause = false → (s.dck.cap = .opened → t.dck.cell = s.clockGiven) ∧ (s.dck.cap ≠ .opened → t.dck.cell = .capped)) ∧
      (∀ n < 8, n ≠ 2 → n ≠ 7 → t.slot n =
        if x.slots.getLsbD n then some ((s.slot n).getD .unknown) else none) ∧
      (∀ n < 8, t.slot n = none ↔ x.slots.getLsbD n = false) ∧
      (∀ n < 8, s.tinAt n = none → x.slots.getLsbD n = true → t.slot n = some .unknown) ∧
      (∀ a, s.tinAt 2 = some a → x.slots.getLsbD 2 = true → a.st = .done ∨ a.st = .reject ∨ a.st = .deferred → t.tinAt 2 = some a) ∧
      t.xfr.inTransit = s.xfr.inTransit ∧ t.xfr.release = s.xfr.release ∧ t.xfr.cutShort = false ∧ t.stations = s.stations ∧
      (s.xfr.cutShort = false ∨ x.laneHead = true → t.xfr = { s.xfr with cutShort := false }) ∧
      (∀ c q e, s.xfr.cutShort = true → x.laneHead = false → s.xfr.intake = .cleared c → Disposition.seq c = some q →
        s.item q = some e → t.xfr.intake = .opened ∧ t.xfr.pointer = q ∧ e ∉ t.xfr.expected) ∧
      ((∀ n < 8, ∀ a, s.tinAt n = some a → x.slots.getLsbD n = false → a.id.cell ≠ s.self) → s.xfr.cutShort = false →
        t.book = s.book ∧ t.bus = ((List.range 8).foldl (fun (b : State) n =>
          match s.tinAt n with
          | some a => if x.slots.getLsbD n then b else b.place (.tinReport
              (TinReportMsg.mk a.id a.order .lost (some .jamReconcile) s.self a.total a.raised a.omitted))
          | none => b) s).bus)

/-! ## Consignment between cells -/

/-- Consign sequences (R162): the step count is the difference modulo 65,535, after is a step count of 1-32,767, at or
before one of 0-32,767, and 0 is before every sequence, its step count to b being b; an advance goes from 65535 to 1
and never back to 0. -/
def Obligations.SequencesCompared : Prop :=
  ∀ a b : Nat, a ≤ 65535 → 1 ≤ b → b ≤ 65535 →
    (1 ≤ a → stepCount a b < 65535 ∧ (a + stepCount a b) % 65535 = b % 65535 ∧
      (isAfter b a = true ↔ 1 ≤ stepCount a b ∧ stepCount a b ≤ 32767) ∧ (atOrBefore a b = true ↔ stepCount a b ≤ 32767)) ∧
    stepCount 0 b = b ∧ isAfter b 0 = true ∧
    seqNext 0 = 1 ∧ seqNext 65535 = 1 ∧ (a < 65535 → seqNext a = a + 1) ∧ 1 ≤ seqNext a ∧ seqNext a ≤ 65535 ∧
    (stepCount 41 42 = 1 ∧ stepCount 65534 1 = 2 ∧ stepCount 65535 65535 = 0 ∧ stepCount 5 3 = 65533)

/-- CONSIGN (R14, R168, R169): one of the upstream neighbour is discarded outside the window of three after the
pointer, ignored as a repeat, takes the place of a held item of another tin, which re-opens an intake cleared against
it, or is added in sequence order, the cell ceasing to be idle (R31). The first failing check marks it. A cut-short
pull stays CLEARED (R178), against a marked new item as MARKED (the model's choice, log 46). -/
def Obligations.ConsignTaken : Prop :=
  ∀ (src : Nat) (m : ConsignMsg) (tag : Option TinId) (s : State) (bad : Prop), s.Hears .cell src → src + 1 = s.self →
    s.inService = true →
    (bad ↔ m.size = 0 ∨ 5 < m.size ∨ m.lid = 0 ∨ m.shake = none ∨ (m.status = .deferred ∧ m.deferral = []) ∨
      (m.status = .done ∧ m.deferral ≠ []) ∨
      ¬ (m.dosed.map DosedItem.colorant ++ m.deferral.map DeferItem.colorant).Nodup) →
    (bad → consignMark m = some .unidentified) ∧
    (¬ bad → ∀ r, sizeRow m.size = some r → consignMark m = if r.headroom * 1000 < m.total then some .overload else none) ∧
    (12 < m.dosed.length + m.deferral.length → exec (.consign src m tag) s = .next (s.latchTag tag).rxError) ∧
    (m.dosed.length + m.deferral.length ≤ 12 →
      (m.tin.cell = 0 ∨ 12 < m.tin.cell ∨ m.tin.serial = 0 ∨ isAfter m.seq s.xfr.pointer = false ∨
          3 < stepCount s.xfr.pointer m.seq → exec (.consign src m tag) s = .next (s.latchTag tag)) ∧
      (1 ≤ m.tin.cell → m.tin.cell ≤ 12 → m.tin.serial ≠ 0 → m.seq ≠ 0 → isAfter m.seq s.xfr.pointer = true →
        stepCount s.xfr.pointer m.seq ≤ 3 →
        (s.item m.seq = none → ∃ t, exec (.consign src m tag) s = .next t ∧
          t = { s.latchTag tag with xfr := { s.xfr with expected := t.xfr.expected }, dck := { s.dck with idle := 0 } } ∧
          (∀ e, e ∈ t.xfr.expected ↔ e ∈ s.xfr.expected ∨ e = { msg := m, mark := consignMark m }) ∧
          (s.xfr.expected.Pairwise (fun a b => stepCount s.xfr.pointer a.msg.seq ≤ stepCount s.xfr.pointer b.msg.seq) →
            t.xfr.expected.Pairwise (fun a b => stepCount s.xfr.pointer a.msg.seq ≤ stepCount s.xfr.pointer b.msg.seq))) ∧
        (∀ e, s.item m.seq = some e → e.msg.tin = m.tin → exec (.consign src m tag) s = .next (s.latchTag tag)) ∧
        (∀ e, s.item m.seq = some e → e.msg.tin ≠ m.tin → ∃ t, exec (.consign src m tag) s = .next t ∧
          t = { s.latchTag tag with xfr := { s.xfr with expected := t.xfr.expected, intake := t.xfr.intake } } ∧
          t.xfr.expected = s.xfr.expected.map (fun i => if i.msg.seq = m.seq then { msg := m, mark := consignMark m } else i) ∧
          (s.xfr.cutShort = true → t.xfr.intake = if s.xfr.intake = .cleared (.normal m.seq) ∧ consignMark m ≠ none
            then .cleared (.marked m.seq) else s.xfr.intake) ∧
          (s.xfr.intake.clearedSeq ≠ some m.seq → t.xfr.intake = s.xfr.intake) ∧
          (s.xfr.intake.clearedSeq = some m.seq → s.xfr.cutShort = false →
            (s.pins.sample.laneHead = false → t.xfr.intake = .opened) ∧
            (s.pins.sample.laneHead = true → tag = none → t.xfr.intake = .hold 0 1 0 0 none) ∧
            (s.pins.sample.laneHead = true → tag = some m.tin → m.seq = seqNext s.xfr.pointer →
              t.xfr.intake = .cleared (if consignMark m = none then .normal m.seq else .marked m.seq))))))

/-- The tin at the gate (R161, R171 to R173): its arrival at an OPEN intake is read at once, and the id of the item at
pointer + 1 clears it while any other read starts a hold; in HOLD the K-th good read clears it, any other read sets
the count back, and every id read is kept; a tin lifted off leaves the intake OPEN, but for a pull cut short and for
an intake CLEARED while its pull is under way (log 21). Station 1 reads nothing. HOLD_PERIOD_END (R174, R175): below
the attempt limit the next attempt begins. After the last attempt a later item that carries the last id read is taken
(of two the nearer: the model's choice, log 57), the items before it reported LOST with cause SKIPPED_AT_INTAKE and
the pointer moved up to it; else an absent id or the next item's own presumes the next item; else the tin has no
record. -/
def Obligations.GateReadsAndHolds : Prop :=
  (∀ (tag : Option TinId) (s : State) (next : Option Expected) (good : Expected → Prop), s.Live → s.inService = true →
      next = s.item (seqNext s.xfr.pointer) → (∀ e, good e ↔ next = some e ∧ tag = some e.msg.tin) →
      (∃ t, exec (.tinArrival tag) s = .next t ∧ t.pins.sample.laneHead = true ∧
        t = { s with pins := t.pins, xfr := { s.xfr with intake := t.xfr.intake } } ∧
        (s.xfr.intake ≠ .opened ∨ s.self ≤ 1 → t.xfr = s.xfr) ∧
        (s.xfr.intake = .opened → 2 ≤ s.self →
          (∀ e, good e → t.xfr.intake = .cleared (if e.mark = none then .normal e.msg.seq else .marked e.msg.seq)) ∧
          ((∀ e, ¬ good e) → t.xfr.intake = .hold 0 1 0 0 tag))) ∧
      (∃ t, exec .tinLiftedOff s = .next t ∧ t.pins.sample.laneHead = false ∧
        t = { s with pins := t.pins, xfr := { s.xfr with intake := t.xfr.intake } } ∧
        (s.xfr.cutShort = true → t.xfr = s.xfr) ∧
        (s.xfr.cutShort = false → s.pullUnderWay = false ∨ (∀ c, s.xfr.intake ≠ .cleared c) → t.xfr.intake = .opened) ∧
        (∀ c, s.xfr.intake = .cleared c → s.pullUnderWay = true → t.xfr = s.xfr)) ∧
      (∀ im, s.cfg.image = some im → s.goodReads = (if im.goodReads = 0 then 3 else im.goodReads) ∧
        s.holdPeriod = (if im.holdPeriod = 0 then 5 else im.holdPeriod) ∧
        s.attemptLimit = if im.attempts = 0 then 4 else im.attempts) ∧
      (∀ g a h r l, s.xfr.intake = .hold g a h r l → ∃ t, exec (.holdRead tag) s = .next t ∧
        t = { s.latchTag tag with xfr := { s.xfr with intake := t.xfr.intake } } ∧
        (∀ e, good e → s.goodReads ≤ g + 1 →
          t.xfr.intake = .cleared (if e.mark = none then .normal e.msg.seq else .marked e.msg.seq)) ∧
        (∀ e, good e → g + 1 < s.goodReads → t.xfr.intake = .hold (g + 1) a h 0 tag) ∧
        ((∀ e, ¬ good e) → t.xfr.intake = .hold 0 a h 0 (if tag = none then l else tag))) ∧
      ((∀ g a h r l, s.xfr.intake ≠ .hold g a h r l) → exec (.holdRead tag) s = .next s ∧ exec .holdPeriodEnd s = .next s)) ∧
  (∀ (s : State) (g a h r : Nat) (l : Option TinId) (q1 q2 q3 : Nat) (lost : ConsignMsg → TinReportMsg), s.Live →
      s.xfr.intake = .hold g a h r l → q1 = seqNext s.xfr.pointer → q2 = seqNext q1 → q3 = seqNext q2 →
      (∀ m, lost m = TinReportMsg.mk m.tin m.order .lost (some .skippedAtIntake) s.self m.total m.raised m.omitted) →
      (a < s.attemptLimit → exec .holdPeriodEnd s = .next { s with xfr := { s.xfr with intake := .hold g (a + 1) 0 r l } }) ∧
      (s.attemptLimit ≤ a → ∃ t, exec .holdPeriodEnd s = .next t ∧
        (∀ e, s.item q2 = some e → l = some e.msg.tin → t.xfr.pointer = q1 ∧
          t.xfr.intake = .cleared (if e.mark = none then .normal q2 else .marked q2) ∧
          (∀ i, i ∈ t.xfr.expected ↔ i ∈ s.xfr.expected ∧ i.msg.seq ≠ q1 ∧ isAfter i.msg.seq q1 = true) ∧
          (s.item q1 = none → t.bus = s.bus ∧ t.book = s.book) ∧
          (∀ e1, s.item q1 = some e1 → t.bus = (s.report (lost e1.msg)).bus ∧ t.book = (s.report (lost e1.msg)).book)) ∧
        (∀ e, s.item q3 = some e → l = some e.msg.tin → (∀ e2, s.item q2 = some e2 → e2.msg.tin ≠ e.msg.tin) →
          t.xfr.pointer = q2 ∧ t.xfr.intake = .cleared (if e.mark = none then .normal q3 else .marked q3) ∧
          (∀ e1 e2, s.item q1 = some e1 → s.item q2 = some e2 → q1 ≠ q2 →
            t.bus = ((s.report (lost e1.msg)).report (lost e2.msg)).bus)) ∧
        ((∀ e, s.item q2 = some e ∨ s.item q3 = some e → l ≠ some e.msg.tin) →
          t = { s with xfr := { s.xfr with intake := t.xfr.intake } } ∧
          (∀ e, s.item q1 = some e → l = none ∨ l = some e.msg.tin → t.xfr.intake = .cleared (.presumed q1)) ∧
          ((∀ e, s.item q1 = some e → l ≠ none ∧ l ≠ some e.msg.tin) → t.xfr.intake = .cleared .unknown))))

/-- The pull at the completion of an index (R177): the record by the disposition that stands at the completion (also
where the intake was opened and CLEARED anew since the index command: the model's choice, log 50), the cause of a
MARKED tin being the mark its item has then (also where the item was replaced under a cut-short pull: the model's
choice, log 51), the pointer at the item's sequence, the item gone, and the intake OPEN or reading the next tin. A tin
id the tin table holds already, and a marked or presumed item of no size, give an UNKNOWN record. -/
def Obligations.PulledTinEntersSlotZero : Prop :=
  ∀ (x : Sample) (s : State) (d : Destination) (k : Nat) (c : Disposition), s.Live → s.seg.slots.length = 8 →
    s.inService = true → s.seg.index = .running d true k → s.xfr.intake = .cleared c →
    ∃ t rec, exec (.indexComplete x) s = .next t ∧ t.slot 0 = some rec ∧
      (x.laneHead = false → t.xfr.intake = .opened) ∧ (x.laneHead = true → 2 ≤ s.self → t.xfr.intake ≠ .opened) ∧
      (c = .unknown → rec = .unknown ∧ t.xfr.pointer = s.xfr.pointer ∧ t.xfr.expected = s.xfr.expected) ∧
      (∀ q, Disposition.seq c = some q → t.xfr.pointer = q ∧
        (∀ i, i ∈ t.xfr.expected ↔ i ∈ s.xfr.expected ∧ i.msg.seq ≠ q ∧ isAfter i.msg.seq q = true) ∧
        (s.item q = none → rec = .unknown) ∧
        (∀ e, s.item q = some e →
          ((∃ n < 7, ∃ a, s.tinAt n = some a ∧ a.id = e.msg.tin) ∨ (∃ a, s.shaker.tin = some (.known a) ∧ a.id = e.msg.tin) ∨
            (∃ v ∈ s.xfr.inTransit, v.tin.id = e.msg.tin) → rec = .unknown) ∧
          ((∀ a ∈ s.tinTable, a.id ≠ e.msg.tin) →
            (c = .marked q ∨ c = .presumed q → e.msg.size = 0 ∨ 5 < e.msg.size → rec = .unknown) ∧
            (c = .normal q ∨ (1 ≤ e.msg.size ∧ e.msg.size ≤ 5) → ∃ a, rec = .known a ∧ a.id = e.msg.tin ∧
              a.order = e.msg.order ∧ a.base = e.msg.base ∧ a.size = e.msg.size ∧ a.lid = e.msg.lid ∧
              a.shake = e.msg.shake ∧ a.raised = e.msg.raised ∧ a.dosed = e.msg.dosed ∧ a.mix = none ∧
              (c = .normal q → e.msg.status = .done → a.st = .done ∧ a.entries = [] ∧ a.total = e.msg.total ∧
                a.omitted = e.msg.omitted ∧ a.deferral = e.msg.deferral ∧ a.cause = none) ∧
              (c = .normal q → e.msg.status = .deferred → a.total = e.msg.total ∧ a.cause = none ∧
                (a.st = .dosing ↔ a.hasLocal = true) ∧ (a.st = .dosing ∨ a.st = .pass) ∧
                a.entries.map (fun v => (v.index, v.colorant, v.nominal)) =
                  e.msg.deferral.map (fun v => (v.index, v.colorant, v.nominal)) ∧
                (permits s.windows e.msg.base = false → a.st = .pass ∧ a.deferral = e.msg.deferral)) ∧
              (c = .marked q ∨ c = .presumed q → a.st = .reject ∧ a.entries = [] ∧ a.omitted = e.msg.omitted ∧
                a.total = min e.msg.total (headroomNl e.msg.size) ∧
                (c = .presumed q → a.cause = some .unidentified) ∧ (∀ v, c = .marked q → e.mark = some v → a.cause = some v))))))

/-- A neighbour's CELL STATUS (R23, R165, R166, R167, R181, R182). A restarted upstream neighbour sets the pointer to
0 and empties the expected list, the intake OPEN again but for a cut-short pull. A restarted downstream neighbour
empties the lane, each record reported LOST; a newly set hold flag, or its return, has every record announced at once;
its pointer retires the records at or before it (in this order: the model's choice, log 12). CONSIGN_REPEAT (R8,
R165): while the downstream entry is PRESENT or STALE the record's CONSIGN is placed again, in the place of a queued
one of its sequence (of two the first: the model's choice, log 9), and its timer starts from 0; while the entry is
GONE or absent nothing is placed. -/
def Obligations.NeighbourStatusHeard : Prop :=
  (∀ (src : Nat) (m : CellStatusMsg) (tag : Option TinId) (s : State) (old : Option CellStatusMsg) (restart burst : Prop),
      s.Hears .cell src → statusOk src m = true → s.inService = true → old = (s.peer src).bind Station.status →
      (restart ↔ m.restarted = true ∧ ∀ b, old = some b → b.restarted = false ∨ m.restartedCount < b.restartedCount) →
      (burst ↔ (∀ e, s.peer src = some e → e.presence = .gone) ∨
        (m.intakeHold = true ∧ ∀ b, old = some b → b.intakeHold = false)) →
      (src + 1 = s.self → ∃ t, exec (.cellStatus src m tag) s = .next t ∧ (¬ restart → t.xfr = s.xfr) ∧
        (restart → t.xfr = { s.xfr with pointer := 0, expected := [], intake := t.xfr.intake } ∧
          (s.xfr.cutShort = true → t.xfr.intake = .cleared .unknown) ∧
          (s.xfr.cutShort = false → s.pins.sample.laneHead = false ∨ s.xfr.intake = .opened → t.xfr.intake = .opened) ∧
          (s.xfr.cutShort = false → s.pins.sample.laneHead = true → s.xfr.intake ≠ .opened →
            t.xfr.intake = .hold 0 1 0 0 tag))) ∧
      (src = s.self + 1 → (∀ e ∈ s.book, e.st ≠ .ownBlocked) → ∃ t, exec (.cellStatus src m tag) s = .next t ∧
        (restart → t.xfr = { s.xfr with inTransit := [], release := 0 } ∧
          ((∀ v ∈ s.xfr.inTransit, v.tin.id.cell ≠ s.self) → t.bus = (s.xfr.inTransit.foldl (fun (b : State) v =>
            b.place (.tinReport (TinReportMsg.mk v.tin.id v.tin.order .lost (some .downstreamRestarted) s.self v.tin.total
              v.tin.raised v.tin.omitted))) s).bus)) ∧
        (¬ restart → t.book.map OrderEntry.st = s.book.map OrderEntry.st ∧ t.xfr = { s.xfr with inTransit := t.xfr.inTransit } ∧
          (∀ v, v ∈ t.xfr.inTransit ↔ (m.pointer = 0 ∨ atOrBefore v.seq m.pointer = false) ∧
            ∃ u ∈ s.xfr.inTransit, (burst → v = { u with time := 0 }) ∧ (¬ burst → v = u)) ∧
          (¬ burst → t.bus = s.bus) ∧
          (burst → (s.xfr.inTransit.map Transit.seq).Nodup → s.bus.queue.length + s.xfr.inTransit.length ≤ 16 →
            ∀ v ∈ s.xfr.inTransit, .consign v.msg ∈ t.bus.queue.map Queued.notice)))) ∧
  (∀ (q : Nat) (s : State), s.Live →
      (∀ r e, s.xfr.inTransit.find? (fun r => r.seq == q) = some r → s.peer (s.self + 1) = some e → e.presence ≠ .gone →
        ∃ t, exec (.consignRepeat q) s = .next t ∧ t = { s with bus := t.bus, xfr := t.xfr } ∧
          t.xfr = { s.xfr with inTransit := s.xfr.inTransit.map (fun v => if v.seq = q then { v with time := 0 } else v) } ∧
          ((∀ a ∈ s.bus.queue, a.sending = true ∨ ∀ m, a.notice = .consign m → m.seq ≠ q) →
            t.bus = (s.place (.consign r.msg)).bus) ∧
          (∀ pre a post m, s.bus.queue = pre ++ a :: post → a.notice = .consign m → m.seq = q → a.sending = false →
            (∀ b ∈ pre, b.sending = true ∨ ∀ m, b.notice = .consign m → m.seq ≠ q) →
            t.bus = { s.bus with queue := pre ++ (Notice.consign r.msg).queued :: post })) ∧
      (s.xfr.inTransit.find? (fun r => r.seq == q) = none ∨ s.peer (s.self + 1) = none ∨
          (∃ e, s.peer (s.self + 1) = some e ∧ e.presence = .gone) → exec (.consignRepeat q) s = .next s))

/-! ## Lidding and shaking -/

/-- LID_LOAD and LID_LOAD_ENTRY (R183, R184, R185, R192, R208): the first failing test refuses the load and leaves the
magazines as they are; else the lids go onto a top layer of their type or as a new layer, up to 60, and a tin waiting
for that magazine is judged afresh. Each gives one load result (for a size of no magazine with the count 0: the
model's choice, log 45); a keyed load is also placed as a LID LOAD. -/
def Obligations.LidLoadPushed : Prop :=
  ∀ (src target size lid count held n : Nat) (b : Bool) (s : State) (layers pushed : List Layer) (waiting : Prop)
    (out : State → State → Prop), s.inService = true → s.lids.magazines.length = 5 →
    held = (s.magazine size).count → layers = (s.magazine size).layers → n = min count (60 - held) →
    (∀ top rest, layers = top :: rest → top.lid = lid → pushed = { top with count := top.count + n } :: rest) →
    ((∀ top rest, layers = top :: rest → top.lid ≠ lid) → pushed = { lid := lid, count := n } :: layers) →
    (waiting ↔ ∃ f a, s.lids.bay = .lidWait f ∧ s.tinAt 4 = some a ∧ a.size = size ∧ s.working = true) →
    (∀ u t, out u t ↔
      (∀ code, (code = .range ∧ (size = 0 ∨ 5 < size ∨ lid = 0 ∨ count = 0)) ∨
          (1 ≤ size ∧ size ≤ 5 ∧ lid ≠ 0 ∧ count ≠ 0 ∧ (code = .full ∧ 60 ≤ held ∨
            code = .layers ∧ held < 60 ∧ 6 ≤ layers.length ∧ ∀ top rest, layers = top :: rest → top.lid ≠ lid)) →
        t = { u with panel := t.panel } ∧ t.panel = { u.panel with message := t.panel.message } ∧
        t.panel.message = some (.loadResult (LoadResult.mk size lid count .refused (some code) 0 held))) ∧
      (1 ≤ size → size ≤ 5 → lid ≠ 0 → count ≠ 0 → held < 60 →
        layers.length < 6 ∨ (∃ top rest, layers = top :: rest ∧ top.lid = lid) →
        t = { u with lids := t.lids, panel := t.panel } ∧ t.panel = { u.panel with message := t.panel.message } ∧
        t.panel.message = some (.loadResult
          (LoadResult.mk size lid count (if n = count then .accepted else .clamped) none n (held + n))) ∧
        (∀ m, m ≠ size → t.magazine m = s.magazine m) ∧
        (¬ waiting → t.lids.bay = s.lids.bay ∧ (t.magazine size).layers = pushed ∧ (t.magazine size).count = held + n) ∧
        (waiting → t.lids = (State.pressStart (u.modMagazine size (fun m => { m with layers := pushed }))).lids))) →
    (s.Hears .either src → target = s.self ∨ target = 31 →
      ∃ t, exec (.lidLoad src target size lid count b) s = .next t ∧
        out (if 16 ≤ src then (s.latchLid b).refresh src none else s.latchLid b) t) ∧
    (s.Live → ∃ t, exec (.lidLoadEntry size lid count b) s = .next (t.place (.lidLoad s.self size lid count)) ∧
      out (s.latchLid b) t)

/-- A press start (R187 to R190) works from the top layer alone. A lid of the tin's type under a closed hatch is
popped: the press begins where LIDPK_L shows the lid, and otherwise the account of the magazine is emptied and the bay
waits with the misfeed mark. In every other case nothing is popped and the bay waits. A hatch opened removes every
layer of its magazine and touches no press; one closed has a tin that waits for that magazine judged afresh (R186,
R192). A complete press makes the tin at slot 4 LIDDED, a timed out one REJECT with cause LID_FAULT, and the bay is
IDLE with LPRESS low (R190, R191). -/
def Obligations.LidsChosenAndPressed : Prop :=
  (∀ (s : State) (a : Tin), s.tinAt 4 = some a → a.st = .finishing → 1 ≤ a.size → a.size ≤ 5 →
      s.lids.magazines.length = 5 →
      s.pressStart = { s with lids := s.pressStart.lids } ∧
      (∀ m, m ≠ a.size → s.pressStart.magazine m = s.magazine m) ∧
      (∀ top rest, (s.magazine a.size).layers = top :: rest → top.lid = a.lid → s.hatchOpen a.size = false →
        (s.pins.sample.lidOnHead = true → s.pressStart.lids.bay = .pressing 0 ∧
          (s.pressStart.magazine a.size).layers = if top.count ≤ 1 then rest else { top with count := top.count - 1 } :: rest) ∧
        (s.pins.sample.lidOnHead = false → s.pressStart.lids.bay = .lidWait true ∧
          (s.pressStart.magazine a.size).layers = [])) ∧
      ((∀ top rest, (s.magazine a.size).layers = top :: rest → top.lid ≠ a.lid) ∨ s.hatchOpen a.size = true →
        s.pressStart.lids.magazines = s.lids.magazines ∧
        (∀ f, s.lids.bay = .lidWait f → s.pressStart.lids.bay = .lidWait f) ∧
        ((∀ f, s.lids.bay ≠ .lidWait f) → s.pressStart.lids.bay = .lidWait false))) ∧
  (∀ (m : Fin 5) (b : Bool) (s : State) (waiting : Prop), s.Live → s.lids.magazines.length = 5 →
      (waiting ↔ ∃ f a, s.lids.bay = .lidWait f ∧ s.tinAt 4 = some a ∧ a.size = m.val + 1 ∧ s.working = true) →
      (∃ t, exec (.hatchOpened m) s = .next t ∧ t = { s with pins := t.pins, lids := t.lids } ∧
        t.pins = { s.pins with hatch := t.pins.hatch } ∧ t.hatchOpen (m.val + 1) = true ∧
        (∀ k : Fin 5, k ≠ m → t.hatchOpen (k.val + 1) = s.hatchOpen (k.val + 1)) ∧ t.lids.bay = s.lids.bay ∧
        (t.magazine (m.val + 1)).layers = [] ∧ (t.magazine (m.val + 1)).count = 0 ∧
        (∀ k, k ≠ m.val + 1 → t.magazine k = s.magazine k)) ∧
      (∃ t, exec (.hatchClosed m b) s = .next t ∧ t = { s with pins := t.pins, lids := t.lids } ∧
        t.pins.sample = { s.pins.sample with lidOnHead := b } ∧ t.hatchOpen (m.val + 1) = false ∧
        (∀ k : Fin 5, k ≠ m → t.hatchOpen (k.val + 1) = s.hatchOpen (k.val + 1)) ∧
        (¬ waiting → t.lids = s.lids) ∧
        (waiting → t.lids = (State.pressStart { s with pins := t.pins }).lids))) ∧
  (∀ s : State, s.Live → s.seg.slots.length = 8 →
      (∀ k, s.lids.bay = .pressing k → ∃ t u, exec .pressComplete s = .next t ∧ exec .pressTimeout s = .next u ∧
        t = { s with lids := { s.lids with bay := .idle }, seg := { s.seg with slots := t.seg.slots } } ∧
        u = { s with lids := { s.lids with bay := .idle }, seg := { s.seg with slots := u.seg.slots } } ∧
        t.pressOut = false ∧ u.pressOut = false ∧ (∀ n, n ≠ 4 → t.slot n = s.slot n ∧ u.slot n = s.slot n) ∧
        (∀ a, s.tinAt 4 = some a → t.slot 4 = some (.known { a with st := .lidded }) ∧
          u.slot 4 = some (.known { a with st := .reject, cause := some (a.cause.getD .lidFault) })) ∧
        (s.tinAt 4 = none → t.slot 4 = s.slot 4 ∧ u.slot 4 = s.slot 4)) ∧
      ((∀ k, s.lids.bay ≠ .pressing k) → exec .pressComplete s = .next s ∧ exec .pressTimeout s = .next s))

/-- TRANSFER_IN_COMPLETE and RETURN_COMPLETE (R195, R196, R199): a tin drawn in is SHAKING in the bay with slot 6
empty, and its run begins once clamp, door and state allow (judged at the end of the transfer too: the model's choice,
log 52). A SHAKING tin returned is DONE at slot 7 and reported DONE once; one returned UNKNOWN or REJECT keeps its
state without a report. The run (R196, R197, R199) begins with the mix time and resumes with the resume time; an
opened door or a lost clamp interrupts it, with 10 s added up to 300 s (to the ms, a part of a second counting: the
model's choice, log 58); its end leaves the shaker UNCLAMPING, and the return begins with the clamp open and slot 7
free. A transfer stopped by the emergency stop that reaches its sensor ends too (the model's reading, log 27). -/
def Obligations.ShakerTransfersAndRuns : Prop :=
  (∀ s : State, s.Live → s.seg.slots.length = 8 →
      (s.shaker.st = .loading → ∃ t, exec .transferInComplete s = .next t ∧
        t = { s with seg := { s.seg with slots := t.seg.slots }, shaker := t.shaker, pins := t.pins } ∧
        t.pins = { s.pins with sample := { s.pins.sample with shakerTin := true } } ∧ t.slot 6 = none ∧
        (∀ n, n ≠ 6 → t.slot n = s.slot n) ∧ t.transferInOut = false ∧ t.clampOut = true ∧
        (∀ a, s.tinAt 6 = some a → t.shaker.tin = some (.known { a with st := .shaking })) ∧
        (s.pins.clamp = true → s.pins.shakerDoor = false → s.working = true → t.shaker.st = .running ∧
          (∀ a k, s.tinAt 6 = some a → a.mix = some k → t.shaker.left = k * 1000)) ∧
        (s.pins.clamp = false ∨ s.pins.shakerDoor = true ∨ s.working = false → t.shaker.st = .clamping)) ∧
      (s.shaker.st ≠ .loading → ∃ t, exec .transferInComplete s = .next t ∧ t = { s with pins := t.pins }) ∧
      (∀ r, s.shaker.st = .returning → s.shaker.tin = some r → ∃ t, exec .returnComplete s = .next t ∧
        t = { s with seg := t.seg, shaker := t.shaker, bus := t.bus, book := t.book, panel := t.panel, pins := t.pins } ∧
        t.sensed 7 = true ∧ (∀ n, n ≠ 7 → t.slot n = s.slot n ∧ t.sensed n = s.sensed n) ∧ t.shaker.tin = none ∧
        t.transferOutOut = false ∧
        ((∃ a, s.tinAt 6 = some a ∧ a.st = .lidded) → s.seg.index = .idle → s.working = true → t.shaker.st = .loading) ∧
        (s.working = false ∨ (∀ a, s.tinAt 6 = some a → a.st ≠ .lidded) → t.shaker.st = .empty) ∧
        (∀ a, r = .known a → a.st = .shaking → t.slot 7 = some (.known { a with st := .done }) ∧
          ∀ m, m = TinReportMsg.mk a.id a.order .done none s.self a.total a.raised a.omitted →
            t.bus = (s.report m).bus ∧ t.book = (s.report m).book ∧
            (a.id.cell ≠ s.self → t.bus = (s.place (.tinReport m)).bus ∧ t.book = s.book)) ∧
        (r = .unknown ∨ (∃ a, r = .known a ∧ a.st ≠ .shaking) → t.slot 7 = some r ∧ t.bus = s.bus ∧ t.book = s.book)) ∧
      (s.shaker.st ≠ .returning → ∃ t, exec .returnComplete s = .next t ∧ t = { s with pins := t.pins })) ∧
  (∀ s : State, s.Live → s.shaker.st ≠ .empty →
      (∃ t, exec .clampConfirmed s = .next t ∧ t = { s with pins := { s.pins with clamp := true }, shaker := t.shaker } ∧
        (s.shaker.st = .clamping → s.pins.shakerDoor = false → s.working = true →
          t.shaker = { s.shaker with st := .running, left := s.shaker.mixMs, resume := 0 }) ∧
        (s.shaker.st = .interrupted → s.pins.shakerDoor = false → s.working = true →
          t.shaker = { s.shaker with st := .running, left := s.shaker.resume, resume := 0 }) ∧
        (s.pins.shakerDoor = true ∨ s.working = false ∨ (s.shaker.st ≠ .clamping ∧ s.shaker.st ≠ .interrupted) →
          t.shaker = s.shaker)) ∧
      (∃ t, exec .doorClosed s = .next t ∧ t = { s with pins := { s.pins with shakerDoor := false }, shaker := t.shaker } ∧
        (s.shaker.st = .clamping → s.pins.clamp = true → s.working = true →
          t.shaker = { s.shaker with st := .running, left := s.shaker.mixMs, resume := 0 }) ∧
        (s.shaker.st = .interrupted → s.pins.clamp = true → s.working = true →
          t.shaker = { s.shaker with st := .running, left := s.shaker.resume, resume := 0 }) ∧
        (s.shaker.st = .loading ∨ s.shaker.st = .running ∨ s.shaker.st = .returning ∨
            (s.shaker.st ≠ .unclamping ∧ (s.pins.clamp = false ∨ s.working = false)) → t.shaker = s.shaker)) ∧
      (∃ t u, exec .doorOpened s = .next t ∧ exec .clampConfirmationLost s = .next u ∧
        t = { s with pins := { s.pins with shakerDoor := true }, shaker := t.shaker } ∧
        u = { s with pins := { s.pins with clamp := false }, shaker := u.shaker } ∧
        (s.shaker.st = .running → t.shakeOut = false ∧ u.shakeOut = false ∧ u.shaker = t.shaker ∧
          t.shaker = { s.shaker with st := .interrupted, resume := min (s.shaker.left + 10000) 300000 }) ∧
        (s.shaker.st ≠ .running → s.shaker.st ≠ .unclamping → t.shaker = s.shaker ∧ u.shaker = s.shaker) ∧
        (s.shaker.st = .unclamping → s.slot 7 = none → s.seg.index = .idle → s.working = true →
          u.shaker.st = .returning ∧ u.transferOutOut = true) ∧
        (s.shaker.st = .unclamping → s.slot 7 ≠ none ∨ s.working = false → u.shaker = s.shaker)) ∧
      (s.shaker.st = .running → s.pins.clamp = true → ∃ t, exec .shakeRunEnd s = .next t ∧ t.shakeOut = false ∧
        t.clampOut = false ∧ t = { s with shaker := { s.shaker with st := .unclamping, left := 0, resume := 0 } }) ∧
      (s.shaker.st ≠ .running → exec .shakeRunEnd s = .next s))

/-- MAGAZINE_VIEW, PRINTER_READY and ATTENTION_CHANGE (R208, R209, R210): the view replaces the message slot; a held
label is sent; an input that leaves its settled level makes a change record with the time of day, the second of two
being replaced with the overwrite flag set. -/
def Obligations.PanelAndAttention : Prop :=
  ∀ (n : Fin 5) (i : Fin 7) (asserted : Bool) (s : State), s.Live →
    (s.inService = true → exec (.magazineView n) s = .next (s.setMessage
      (.view (n.val + 1) (s.magazine (n.val + 1)).layers (s.magazine (n.val + 1)).count))) ∧
    (s.inService = false → exec (.magazineView n) s = .next s) ∧
    (∃ t, exec .printerReady s = .next t ∧ t = { s with pins := t.pins, panel := t.panel } ∧
      t.pins = { s.pins with sample := { s.pins.sample with printerReady := true } } ∧
      (s.panel.label = none → t.panel = s.panel) ∧
      (∀ l, s.panel.label = some l → t.panel = { s.panel with label := none, printed := some l })) ∧
    (∃ t r, exec (.attentionChange i asserted) s = .next t ∧ t = { s with atn := t.atn, pins := t.pins } ∧
      (i.val < 5 → t.pins = s.pins) ∧ (i = 5 → t.pins = { s.pins with atn1 := asserted }) ∧
      (i = 6 → t.pins = { s.pins with atn2 := asserted }) ∧
      (s.atn.settled.getLsbD i = asserted → t.atn = s.atn) ∧
      (s.atn.settled.getLsbD i ≠ asserted →
        r = { uid := s.atn.nextUid, change := ChangeRec.mk (i.val + 1) asserted s.dck.moment.sec } ∧
        t.atn.settled.getLsbD i = asserted ∧
        (∀ j < 7, j ≠ i.val → t.atn.settled.getLsbD j = s.atn.settled.getLsbD j) ∧
        (s.atn.records = [] → t.atn.records = [r] ∧ t.atn.overwrite = s.atn.overwrite) ∧
        (∀ a, s.atn.records = [a] → t.atn.records = [a, r] ∧ t.atn.overwrite = s.atn.overwrite) ∧
        (∀ a b l, s.atn.records = a :: b :: l → t.atn.records = [a, r] ∧ t.atn.overwrite = true)))

/-! ## Laws that every step keeps -/

/-- The laws of the records: every step keeps the queue to 16 notices in class order with at most one in transmission
and both counters to 255 (R7, R13); the book to 32 entries of distinct ids with no more than eight open own jobs
(R51); no more than three records in transit (R163); six layers and sixty lids a magazine with no empty layer (R183);
a chute count of 0-6 (R156); the level of a fitted canister within its capacity (R98) and a pump's content within its
stroke steps (R119). -/
def Obligations.RecordLawsKept : Prop :=
  (∀ s t : State, step s = .next t → (s.QueueBound → t.QueueBound) ∧ (s.BookSound → t.BookSound)) ∧
  (∀ s t : State, step s = .next t →
      (s.LaneBound → t.LaneBound) ∧ (s.MagazinesSound → t.MagazinesSound) ∧ (s.ChuteBound → t.ChuteBound)) ∧
  (∀ s t : State, step s = .next t → (s.LevelsHeld → t.LevelsHeld) ∧ (s.ContentHeld → t.ContentHeld))

/-- The laws of motion: every step keeps that the shaker runs only while its clamp is confirmed and its door is closed
(R196), that the cap is OPEN in RUN and NIGHT (R32), and that the cell state agrees with the pause, jam and halt flags
and with an index in progress (R34 to R38, R145). -/
def Obligations.MotionLawsKept : Prop :=
  (∀ s t : State, step s = .next t → s.ShakerGuarded → t.ShakerGuarded) ∧
  (∀ s t : State, step s = .next t → s.FlagsAgree → s.CapOpen → t.FlagsAgree ∧ t.CapOpen)

/-- The state right after reset meets every law, and so does a power-on with any straps and pins. The values of
State.reset's own straps and pins are the model's choice (log 3). -/
def Obligations.ResetMeetsLaws : Prop :=
  ∀ s : State, (s = State.reset ∨ ∃ straps pins u, exec (.powerOn straps pins) u = .next s) →
    s.QueueBound ∧ s.BookSound ∧ s.LaneBound ∧ s.MagazinesSound ∧ s.ChuteBound ∧ s.ShakerGuarded ∧ s.FlagsAgree ∧
    s.CapOpen ∧ s.LevelsHeld ∧ s.ContentHeld ∧ s.Shaped
end

