-- ==== Sys2Proof/Laws/State.lean ====
section
/-! SUPPORT. One lemma per field of State that an update leaves as it was, for every update that changes one block. -/

namespace Sys2Proof.Machine

variable (s : State)

@[simp] theorem State.latch_bus (x : Sample) : (s.latch x).bus = s.bus := rfl
@[simp] theorem State.latch_stations (x : Sample) : (s.latch x).stations = s.stations := rfl
@[simp] theorem State.latch_dck (x : Sample) : (s.latch x).dck = s.dck := rfl
@[simp] theorem State.latch_book (x : Sample) : (s.latch x).book = s.book := rfl
@[simp] theorem State.latch_canisters (x : Sample) : (s.latch x).canisters = s.canisters := rfl
@[simp] theorem State.latch_shots (x : Sample) : (s.latch x).shots = s.shots := rfl
@[simp] theorem State.latch_seg (x : Sample) : (s.latch x).seg = s.seg := rfl
@[simp] theorem State.latch_xfr (x : Sample) : (s.latch x).xfr = s.xfr := rfl
@[simp] theorem State.latch_lids (x : Sample) : (s.latch x).lids = s.lids := rfl
@[simp] theorem State.latch_shaker (x : Sample) : (s.latch x).shaker = s.shaker := rfl
@[simp] theorem State.latch_panel (x : Sample) : (s.latch x).panel = s.panel := rfl
@[simp] theorem State.latch_atn (x : Sample) : (s.latch x).atn = s.atn := rfl
@[simp] theorem State.latch_cfg (x : Sample) : (s.latch x).cfg = s.cfg := rfl
@[simp] theorem State.latch_now (x : Sample) : (s.latch x).now = s.now := rfl
@[simp] theorem State.latch_pending (x : Sample) : (s.latch x).pending = s.pending := rfl

@[simp] theorem State.latchTag_bus (g : Option TinId) : (s.latchTag g).bus = s.bus := rfl
@[simp] theorem State.latchTag_stations (g : Option TinId) : (s.latchTag g).stations = s.stations := rfl
@[simp] theorem State.latchTag_dck (g : Option TinId) : (s.latchTag g).dck = s.dck := rfl
@[simp] theorem State.latchTag_book (g : Option TinId) : (s.latchTag g).book = s.book := rfl
@[simp] theorem State.latchTag_canisters (g : Option TinId) : (s.latchTag g).canisters = s.canisters := rfl
@[simp] theorem State.latchTag_shots (g : Option TinId) : (s.latchTag g).shots = s.shots := rfl
@[simp] theorem State.latchTag_seg (g : Option TinId) : (s.latchTag g).seg = s.seg := rfl
@[simp] theorem State.latchTag_xfr (g : Option TinId) : (s.latchTag g).xfr = s.xfr := rfl
@[simp] theorem State.latchTag_lids (g : Option TinId) : (s.latchTag g).lids = s.lids := rfl
@[simp] theorem State.latchTag_shaker (g : Option TinId) : (s.latchTag g).shaker = s.shaker := rfl
@[simp] theorem State.latchTag_panel (g : Option TinId) : (s.latchTag g).panel = s.panel := rfl
@[simp] theorem State.latchTag_atn (g : Option TinId) : (s.latchTag g).atn = s.atn := rfl
@[simp] theorem State.latchTag_cfg (g : Option TinId) : (s.latchTag g).cfg = s.cfg := rfl
@[simp] theorem State.latchTag_now (g : Option TinId) : (s.latchTag g).now = s.now := rfl
@[simp] theorem State.latchTag_pending (g : Option TinId) : (s.latchTag g).pending = s.pending := rfl

@[simp] theorem State.latchLid_bus (b : Bool) : (s.latchLid b).bus = s.bus := rfl
@[simp] theorem State.latchLid_stations (b : Bool) : (s.latchLid b).stations = s.stations := rfl
@[simp] theorem State.latchLid_dck (b : Bool) : (s.latchLid b).dck = s.dck := rfl
@[simp] theorem State.latchLid_book (b : Bool) : (s.latchLid b).book = s.book := rfl
@[simp] theorem State.latchLid_canisters (b : Bool) : (s.latchLid b).canisters = s.canisters := rfl
@[simp] theorem State.latchLid_shots (b : Bool) : (s.latchLid b).shots = s.shots := rfl
@[simp] theorem State.latchLid_seg (b : Bool) : (s.latchLid b).seg = s.seg := rfl
@[simp] theorem State.latchLid_xfr (b : Bool) : (s.latchLid b).xfr = s.xfr := rfl
@[simp] theorem State.latchLid_lids (b : Bool) : (s.latchLid b).lids = s.lids := rfl
@[simp] theorem State.latchLid_shaker (b : Bool) : (s.latchLid b).shaker = s.shaker := rfl
@[simp] theorem State.latchLid_panel (b : Bool) : (s.latchLid b).panel = s.panel := rfl
@[simp] theorem State.latchLid_atn (b : Bool) : (s.latchLid b).atn = s.atn := rfl
@[simp] theorem State.latchLid_cfg (b : Bool) : (s.latchLid b).cfg = s.cfg := rfl
@[simp] theorem State.latchLid_now (b : Bool) : (s.latchLid b).now = s.now := rfl
@[simp] theorem State.latchLid_pending (b : Bool) : (s.latchLid b).pending = s.pending := rfl

@[simp] theorem State.latchGray_bus (n : Nat) (g : Gray) : (s.latchGray n g).bus = s.bus := rfl
@[simp] theorem State.latchGray_stations (n : Nat) (g : Gray) : (s.latchGray n g).stations = s.stations := rfl
@[simp] theorem State.latchGray_dck (n : Nat) (g : Gray) : (s.latchGray n g).dck = s.dck := rfl
@[simp] theorem State.latchGray_book (n : Nat) (g : Gray) : (s.latchGray n g).book = s.book := rfl
@[simp] theorem State.latchGray_canisters (n : Nat) (g : Gray) : (s.latchGray n g).canisters = s.canisters := rfl
@[simp] theorem State.latchGray_shots (n : Nat) (g : Gray) : (s.latchGray n g).shots = s.shots := rfl
@[simp] theorem State.latchGray_seg (n : Nat) (g : Gray) : (s.latchGray n g).seg = s.seg := rfl
@[simp] theorem State.latchGray_xfr (n : Nat) (g : Gray) : (s.latchGray n g).xfr = s.xfr := rfl
@[simp] theorem State.latchGray_lids (n : Nat) (g : Gray) : (s.latchGray n g).lids = s.lids := rfl
@[simp] theorem State.latchGray_shaker (n : Nat) (g : Gray) : (s.latchGray n g).shaker = s.shaker := rfl
@[simp] theorem State.latchGray_panel (n : Nat) (g : Gray) : (s.latchGray n g).panel = s.panel := rfl
@[simp] theorem State.latchGray_atn (n : Nat) (g : Gray) : (s.latchGray n g).atn = s.atn := rfl
@[simp] theorem State.latchGray_cfg (n : Nat) (g : Gray) : (s.latchGray n g).cfg = s.cfg := rfl
@[simp] theorem State.latchGray_now (n : Nat) (g : Gray) : (s.latchGray n g).now = s.now := rfl
@[simp] theorem State.latchGray_pending (n : Nat) (g : Gray) : (s.latchGray n g).pending = s.pending := rfl

@[simp] theorem State.rxError_stations : (s.rxError).stations = s.stations := rfl
@[simp] theorem State.rxError_dck : (s.rxError).dck = s.dck := rfl
@[simp] theorem State.rxError_book : (s.rxError).book = s.book := rfl
@[simp] theorem State.rxError_canisters : (s.rxError).canisters = s.canisters := rfl
@[simp] theorem State.rxError_shots : (s.rxError).shots = s.shots := rfl
@[simp] theorem State.rxError_seg : (s.rxError).seg = s.seg := rfl
@[simp] theorem State.rxError_xfr : (s.rxError).xfr = s.xfr := rfl
@[simp] theorem State.rxError_lids : (s.rxError).lids = s.lids := rfl
@[simp] theorem State.rxError_shaker : (s.rxError).shaker = s.shaker := rfl
@[simp] theorem State.rxError_panel : (s.rxError).panel = s.panel := rfl
@[simp] theorem State.rxError_atn : (s.rxError).atn = s.atn := rfl
@[simp] theorem State.rxError_cfg : (s.rxError).cfg = s.cfg := rfl
@[simp] theorem State.rxError_pins : (s.rxError).pins = s.pins := rfl
@[simp] theorem State.rxError_now : (s.rxError).now = s.now := rfl
@[simp] theorem State.rxError_pending : (s.rxError).pending = s.pending := rfl

@[simp] theorem State.place_stations (n : Notice) : (s.place n).stations = s.stations := rfl
@[simp] theorem State.place_dck (n : Notice) : (s.place n).dck = s.dck := rfl
@[simp] theorem State.place_book (n : Notice) : (s.place n).book = s.book := rfl
@[simp] theorem State.place_canisters (n : Notice) : (s.place n).canisters = s.canisters := rfl
@[simp] theorem State.place_shots (n : Notice) : (s.place n).shots = s.shots := rfl
@[simp] theorem State.place_seg (n : Notice) : (s.place n).seg = s.seg := rfl
@[simp] theorem State.place_xfr (n : Notice) : (s.place n).xfr = s.xfr := rfl
@[simp] theorem State.place_lids (n : Notice) : (s.place n).lids = s.lids := rfl
@[simp] theorem State.place_shaker (n : Notice) : (s.place n).shaker = s.shaker := rfl
@[simp] theorem State.place_panel (n : Notice) : (s.place n).panel = s.panel := rfl
@[simp] theorem State.place_atn (n : Notice) : (s.place n).atn = s.atn := rfl
@[simp] theorem State.place_cfg (n : Notice) : (s.place n).cfg = s.cfg := rfl
@[simp] theorem State.place_pins (n : Notice) : (s.place n).pins = s.pins := rfl
@[simp] theorem State.place_now (n : Notice) : (s.place n).now = s.now := rfl
@[simp] theorem State.place_pending (n : Notice) : (s.place n).pending = s.pending := rfl

@[simp] theorem State.placeAgain_stations (q : Queued) : (s.placeAgain q).stations = s.stations := rfl
@[simp] theorem State.placeAgain_dck (q : Queued) : (s.placeAgain q).dck = s.dck := rfl
@[simp] theorem State.placeAgain_book (q : Queued) : (s.placeAgain q).book = s.book := rfl
@[simp] theorem State.placeAgain_canisters (q : Queued) : (s.placeAgain q).canisters = s.canisters := rfl
@[simp] theorem State.placeAgain_shots (q : Queued) : (s.placeAgain q).shots = s.shots := rfl
@[simp] theorem State.placeAgain_seg (q : Queued) : (s.placeAgain q).seg = s.seg := rfl
@[simp] theorem State.placeAgain_xfr (q : Queued) : (s.placeAgain q).xfr = s.xfr := rfl
@[simp] theorem State.placeAgain_lids (q : Queued) : (s.placeAgain q).lids = s.lids := rfl
@[simp] theorem State.placeAgain_shaker (q : Queued) : (s.placeAgain q).shaker = s.shaker := rfl
@[simp] theorem State.placeAgain_panel (q : Queued) : (s.placeAgain q).panel = s.panel := rfl
@[simp] theorem State.placeAgain_atn (q : Queued) : (s.placeAgain q).atn = s.atn := rfl
@[simp] theorem State.placeAgain_cfg (q : Queued) : (s.placeAgain q).cfg = s.cfg := rfl
@[simp] theorem State.placeAgain_pins (q : Queued) : (s.placeAgain q).pins = s.pins := rfl
@[simp] theorem State.placeAgain_now (q : Queued) : (s.placeAgain q).now = s.now := rfl
@[simp] theorem State.placeAgain_pending (q : Queued) : (s.placeAgain q).pending = s.pending := rfl

@[simp] theorem State.setQueue_stations (l : List Queued) : (s.setQueue l).stations = s.stations := rfl
@[simp] theorem State.setQueue_dck (l : List Queued) : (s.setQueue l).dck = s.dck := rfl
@[simp] theorem State.setQueue_book (l : List Queued) : (s.setQueue l).book = s.book := rfl
@[simp] theorem State.setQueue_canisters (l : List Queued) : (s.setQueue l).canisters = s.canisters := rfl
@[simp] theorem State.setQueue_shots (l : List Queued) : (s.setQueue l).shots = s.shots := rfl
@[simp] theorem State.setQueue_seg (l : List Queued) : (s.setQueue l).seg = s.seg := rfl
@[simp] theorem State.setQueue_xfr (l : List Queued) : (s.setQueue l).xfr = s.xfr := rfl
@[simp] theorem State.setQueue_lids (l : List Queued) : (s.setQueue l).lids = s.lids := rfl
@[simp] theorem State.setQueue_shaker (l : List Queued) : (s.setQueue l).shaker = s.shaker := rfl
@[simp] theorem State.setQueue_panel (l : List Queued) : (s.setQueue l).panel = s.panel := rfl
@[simp] theorem State.setQueue_atn (l : List Queued) : (s.setQueue l).atn = s.atn := rfl
@[simp] theorem State.setQueue_cfg (l : List Queued) : (s.setQueue l).cfg = s.cfg := rfl
@[simp] theorem State.setQueue_pins (l : List Queued) : (s.setQueue l).pins = s.pins := rfl
@[simp] theorem State.setQueue_now (l : List Queued) : (s.setQueue l).now = s.now := rfl
@[simp] theorem State.setQueue_pending (l : List Queued) : (s.setQueue l).pending = s.pending := rfl

@[simp] theorem State.modPeer_bus (n : Nat) (f : Station → Station) : (s.modPeer n f).bus = s.bus := rfl
@[simp] theorem State.modPeer_dck (n : Nat) (f : Station → Station) : (s.modPeer n f).dck = s.dck := rfl
@[simp] theorem State.modPeer_book (n : Nat) (f : Station → Station) : (s.modPeer n f).book = s.book := rfl
@[simp] theorem State.modPeer_canisters (n : Nat) (f : Station → Station) : (s.modPeer n f).canisters = s.canisters := rfl
@[simp] theorem State.modPeer_shots (n : Nat) (f : Station → Station) : (s.modPeer n f).shots = s.shots := rfl
@[simp] theorem State.modPeer_seg (n : Nat) (f : Station → Station) : (s.modPeer n f).seg = s.seg := rfl
@[simp] theorem State.modPeer_xfr (n : Nat) (f : Station → Station) : (s.modPeer n f).xfr = s.xfr := rfl
@[simp] theorem State.modPeer_lids (n : Nat) (f : Station → Station) : (s.modPeer n f).lids = s.lids := rfl
@[simp] theorem State.modPeer_shaker (n : Nat) (f : Station → Station) : (s.modPeer n f).shaker = s.shaker := rfl
@[simp] theorem State.modPeer_panel (n : Nat) (f : Station → Station) : (s.modPeer n f).panel = s.panel := rfl
@[simp] theorem State.modPeer_atn (n : Nat) (f : Station → Station) : (s.modPeer n f).atn = s.atn := rfl
@[simp] theorem State.modPeer_cfg (n : Nat) (f : Station → Station) : (s.modPeer n f).cfg = s.cfg := rfl
@[simp] theorem State.modPeer_pins (n : Nat) (f : Station → Station) : (s.modPeer n f).pins = s.pins := rfl
@[simp] theorem State.modPeer_now (n : Nat) (f : Station → Station) : (s.modPeer n f).now = s.now := rfl
@[simp] theorem State.modPeer_pending (n : Nat) (f : Station → Station) : (s.modPeer n f).pending = s.pending := rfl

@[simp] theorem State.modEntry_bus (id : OrderId) (f : OrderEntry → OrderEntry) : (s.modEntry id f).bus = s.bus := rfl
@[simp] theorem State.modEntry_stations (id : OrderId) (f : OrderEntry → OrderEntry) : (s.modEntry id f).stations = s.stations := rfl
@[simp] theorem State.modEntry_dck (id : OrderId) (f : OrderEntry → OrderEntry) : (s.modEntry id f).dck = s.dck := rfl
@[simp] theorem State.modEntry_canisters (id : OrderId) (f : OrderEntry → OrderEntry) : (s.modEntry id f).canisters = s.canisters := rfl
@[simp] theorem State.modEntry_shots (id : OrderId) (f : OrderEntry → OrderEntry) : (s.modEntry id f).shots = s.shots := rfl
@[simp] theorem State.modEntry_seg (id : OrderId) (f : OrderEntry → OrderEntry) : (s.modEntry id f).seg = s.seg := rfl
@[simp] theorem State.modEntry_xfr (id : OrderId) (f : OrderEntry → OrderEntry) : (s.modEntry id f).xfr = s.xfr := rfl
@[simp] theorem State.modEntry_lids (id : OrderId) (f : OrderEntry → OrderEntry) : (s.modEntry id f).lids = s.lids := rfl
@[simp] theorem State.modEntry_shaker (id : OrderId) (f : OrderEntry → OrderEntry) : (s.modEntry id f).shaker = s.shaker := rfl
@[simp] theorem State.modEntry_panel (id : OrderId) (f : OrderEntry → OrderEntry) : (s.modEntry id f).panel = s.panel := rfl
@[simp] theorem State.modEntry_atn (id : OrderId) (f : OrderEntry → OrderEntry) : (s.modEntry id f).atn = s.atn := rfl
@[simp] theorem State.modEntry_cfg (id : OrderId) (f : OrderEntry → OrderEntry) : (s.modEntry id f).cfg = s.cfg := rfl
@[simp] theorem State.modEntry_pins (id : OrderId) (f : OrderEntry → OrderEntry) : (s.modEntry id f).pins = s.pins := rfl
@[simp] theorem State.modEntry_now (id : OrderId) (f : OrderEntry → OrderEntry) : (s.modEntry id f).now = s.now := rfl
@[simp] theorem State.modEntry_pending (id : OrderId) (f : OrderEntry → OrderEntry) : (s.modEntry id f).pending = s.pending := rfl

@[simp] theorem State.pushEntry_bus (e : OrderEntry) : (s.pushEntry e).bus = s.bus := rfl
@[simp] theorem State.pushEntry_stations (e : OrderEntry) : (s.pushEntry e).stations = s.stations := rfl
@[simp] theorem State.pushEntry_dck (e : OrderEntry) : (s.pushEntry e).dck = s.dck := rfl
@[simp] theorem State.pushEntry_canisters (e : OrderEntry) : (s.pushEntry e).canisters = s.canisters := rfl
@[simp] theorem State.pushEntry_shots (e : OrderEntry) : (s.pushEntry e).shots = s.shots := rfl
@[simp] theorem State.pushEntry_seg (e : OrderEntry) : (s.pushEntry e).seg = s.seg := rfl
@[simp] theorem State.pushEntry_xfr (e : OrderEntry) : (s.pushEntry e).xfr = s.xfr := rfl
@[simp] theorem State.pushEntry_lids (e : OrderEntry) : (s.pushEntry e).lids = s.lids := rfl
@[simp] theorem State.pushEntry_shaker (e : OrderEntry) : (s.pushEntry e).shaker = s.shaker := rfl
@[simp] theorem State.pushEntry_panel (e : OrderEntry) : (s.pushEntry e).panel = s.panel := rfl
@[simp] theorem State.pushEntry_atn (e : OrderEntry) : (s.pushEntry e).atn = s.atn := rfl
@[simp] theorem State.pushEntry_cfg (e : OrderEntry) : (s.pushEntry e).cfg = s.cfg := rfl
@[simp] theorem State.pushEntry_pins (e : OrderEntry) : (s.pushEntry e).pins = s.pins := rfl
@[simp] theorem State.pushEntry_now (e : OrderEntry) : (s.pushEntry e).now = s.now := rfl
@[simp] theorem State.pushEntry_pending (e : OrderEntry) : (s.pushEntry e).pending = s.pending := rfl

@[simp] theorem State.modCanister_bus (n : Nat) (f : Canister → Canister) : (s.modCanister n f).bus = s.bus := rfl
@[simp] theorem State.modCanister_stations (n : Nat) (f : Canister → Canister) : (s.modCanister n f).stations = s.stations := rfl
@[simp] theorem State.modCanister_dck (n : Nat) (f : Canister → Canister) : (s.modCanister n f).dck = s.dck := rfl
@[simp] theorem State.modCanister_book (n : Nat) (f : Canister → Canister) : (s.modCanister n f).book = s.book := rfl
@[simp] theorem State.modCanister_shots (n : Nat) (f : Canister → Canister) : (s.modCanister n f).shots = s.shots := rfl
@[simp] theorem State.modCanister_seg (n : Nat) (f : Canister → Canister) : (s.modCanister n f).seg = s.seg := rfl
@[simp] theorem State.modCanister_xfr (n : Nat) (f : Canister → Canister) : (s.modCanister n f).xfr = s.xfr := rfl
@[simp] theorem State.modCanister_lids (n : Nat) (f : Canister → Canister) : (s.modCanister n f).lids = s.lids := rfl
@[simp] theorem State.modCanister_shaker (n : Nat) (f : Canister → Canister) : (s.modCanister n f).shaker = s.shaker := rfl
@[simp] theorem State.modCanister_panel (n : Nat) (f : Canister → Canister) : (s.modCanister n f).panel = s.panel := rfl
@[simp] theorem State.modCanister_atn (n : Nat) (f : Canister → Canister) : (s.modCanister n f).atn = s.atn := rfl
@[simp] theorem State.modCanister_cfg (n : Nat) (f : Canister → Canister) : (s.modCanister n f).cfg = s.cfg := rfl
@[simp] theorem State.modCanister_pins (n : Nat) (f : Canister → Canister) : (s.modCanister n f).pins = s.pins := rfl
@[simp] theorem State.modCanister_now (n : Nat) (f : Canister → Canister) : (s.modCanister n f).now = s.now := rfl
@[simp] theorem State.modCanister_pending (n : Nat) (f : Canister → Canister) : (s.modCanister n f).pending = s.pending := rfl

@[simp] theorem State.modStir_bus (n : Nat) (f : Stirrer → Stirrer) : (s.modStir n f).bus = s.bus := rfl
@[simp] theorem State.modStir_stations (n : Nat) (f : Stirrer → Stirrer) : (s.modStir n f).stations = s.stations := rfl
@[simp] theorem State.modStir_dck (n : Nat) (f : Stirrer → Stirrer) : (s.modStir n f).dck = s.dck := rfl
@[simp] theorem State.modStir_book (n : Nat) (f : Stirrer → Stirrer) : (s.modStir n f).book = s.book := rfl
@[simp] theorem State.modStir_shots (n : Nat) (f : Stirrer → Stirrer) : (s.modStir n f).shots = s.shots := rfl
@[simp] theorem State.modStir_seg (n : Nat) (f : Stirrer → Stirrer) : (s.modStir n f).seg = s.seg := rfl
@[simp] theorem State.modStir_xfr (n : Nat) (f : Stirrer → Stirrer) : (s.modStir n f).xfr = s.xfr := rfl
@[simp] theorem State.modStir_lids (n : Nat) (f : Stirrer → Stirrer) : (s.modStir n f).lids = s.lids := rfl
@[simp] theorem State.modStir_shaker (n : Nat) (f : Stirrer → Stirrer) : (s.modStir n f).shaker = s.shaker := rfl
@[simp] theorem State.modStir_panel (n : Nat) (f : Stirrer → Stirrer) : (s.modStir n f).panel = s.panel := rfl
@[simp] theorem State.modStir_atn (n : Nat) (f : Stirrer → Stirrer) : (s.modStir n f).atn = s.atn := rfl
@[simp] theorem State.modStir_cfg (n : Nat) (f : Stirrer → Stirrer) : (s.modStir n f).cfg = s.cfg := rfl
@[simp] theorem State.modStir_pins (n : Nat) (f : Stirrer → Stirrer) : (s.modStir n f).pins = s.pins := rfl
@[simp] theorem State.modStir_now (n : Nat) (f : Stirrer → Stirrer) : (s.modStir n f).now = s.now := rfl
@[simp] theorem State.modStir_pending (n : Nat) (f : Stirrer → Stirrer) : (s.modStir n f).pending = s.pending := rfl

@[simp] theorem State.setStock_bus (n : Nat) (k : Stock) : (s.setStock n k).bus = s.bus := rfl
@[simp] theorem State.setStock_stations (n : Nat) (k : Stock) : (s.setStock n k).stations = s.stations := rfl
@[simp] theorem State.setStock_dck (n : Nat) (k : Stock) : (s.setStock n k).dck = s.dck := rfl
@[simp] theorem State.setStock_book (n : Nat) (k : Stock) : (s.setStock n k).book = s.book := rfl
@[simp] theorem State.setStock_shots (n : Nat) (k : Stock) : (s.setStock n k).shots = s.shots := rfl
@[simp] theorem State.setStock_seg (n : Nat) (k : Stock) : (s.setStock n k).seg = s.seg := rfl
@[simp] theorem State.setStock_xfr (n : Nat) (k : Stock) : (s.setStock n k).xfr = s.xfr := rfl
@[simp] theorem State.setStock_lids (n : Nat) (k : Stock) : (s.setStock n k).lids = s.lids := rfl
@[simp] theorem State.setStock_shaker (n : Nat) (k : Stock) : (s.setStock n k).shaker = s.shaker := rfl
@[simp] theorem State.setStock_panel (n : Nat) (k : Stock) : (s.setStock n k).panel = s.panel := rfl
@[simp] theorem State.setStock_atn (n : Nat) (k : Stock) : (s.setStock n k).atn = s.atn := rfl
@[simp] theorem State.setStock_cfg (n : Nat) (k : Stock) : (s.setStock n k).cfg = s.cfg := rfl
@[simp] theorem State.setStock_pins (n : Nat) (k : Stock) : (s.setStock n k).pins = s.pins := rfl
@[simp] theorem State.setStock_now (n : Nat) (k : Stock) : (s.setStock n k).now = s.now := rfl
@[simp] theorem State.setStock_pending (n : Nat) (k : Stock) : (s.setStock n k).pending = s.pending := rfl

@[simp] theorem State.modPump_bus (n : Nat) (f : Pump → Pump) : (s.modPump n f).bus = s.bus := rfl
@[simp] theorem State.modPump_stations (n : Nat) (f : Pump → Pump) : (s.modPump n f).stations = s.stations := rfl
@[simp] theorem State.modPump_dck (n : Nat) (f : Pump → Pump) : (s.modPump n f).dck = s.dck := rfl
@[simp] theorem State.modPump_book (n : Nat) (f : Pump → Pump) : (s.modPump n f).book = s.book := rfl
@[simp] theorem State.modPump_canisters (n : Nat) (f : Pump → Pump) : (s.modPump n f).canisters = s.canisters := rfl
@[simp] theorem State.modPump_seg (n : Nat) (f : Pump → Pump) : (s.modPump n f).seg = s.seg := rfl
@[simp] theorem State.modPump_xfr (n : Nat) (f : Pump → Pump) : (s.modPump n f).xfr = s.xfr := rfl
@[simp] theorem State.modPump_lids (n : Nat) (f : Pump → Pump) : (s.modPump n f).lids = s.lids := rfl
@[simp] theorem State.modPump_shaker (n : Nat) (f : Pump → Pump) : (s.modPump n f).shaker = s.shaker := rfl
@[simp] theorem State.modPump_panel (n : Nat) (f : Pump → Pump) : (s.modPump n f).panel = s.panel := rfl
@[simp] theorem State.modPump_atn (n : Nat) (f : Pump → Pump) : (s.modPump n f).atn = s.atn := rfl
@[simp] theorem State.modPump_cfg (n : Nat) (f : Pump → Pump) : (s.modPump n f).cfg = s.cfg := rfl
@[simp] theorem State.modPump_pins (n : Nat) (f : Pump → Pump) : (s.modPump n f).pins = s.pins := rfl
@[simp] theorem State.modPump_now (n : Nat) (f : Pump → Pump) : (s.modPump n f).now = s.now := rfl
@[simp] theorem State.modPump_pending (n : Nat) (f : Pump → Pump) : (s.modPump n f).pending = s.pending := rfl

@[simp] theorem State.setChannel_bus (ch : Nat) (e : Option Nat) : (s.setChannel ch e).bus = s.bus := rfl
@[simp] theorem State.setChannel_stations (ch : Nat) (e : Option Nat) : (s.setChannel ch e).stations = s.stations := rfl
@[simp] theorem State.setChannel_dck (ch : Nat) (e : Option Nat) : (s.setChannel ch e).dck = s.dck := rfl
@[simp] theorem State.setChannel_book (ch : Nat) (e : Option Nat) : (s.setChannel ch e).book = s.book := rfl
@[simp] theorem State.setChannel_canisters (ch : Nat) (e : Option Nat) : (s.setChannel ch e).canisters = s.canisters := rfl
@[simp] theorem State.setChannel_seg (ch : Nat) (e : Option Nat) : (s.setChannel ch e).seg = s.seg := rfl
@[simp] theorem State.setChannel_xfr (ch : Nat) (e : Option Nat) : (s.setChannel ch e).xfr = s.xfr := rfl
@[simp] theorem State.setChannel_lids (ch : Nat) (e : Option Nat) : (s.setChannel ch e).lids = s.lids := rfl
@[simp] theorem State.setChannel_shaker (ch : Nat) (e : Option Nat) : (s.setChannel ch e).shaker = s.shaker := rfl
@[simp] theorem State.setChannel_panel (ch : Nat) (e : Option Nat) : (s.setChannel ch e).panel = s.panel := rfl
@[simp] theorem State.setChannel_atn (ch : Nat) (e : Option Nat) : (s.setChannel ch e).atn = s.atn := rfl
@[simp] theorem State.setChannel_cfg (ch : Nat) (e : Option Nat) : (s.setChannel ch e).cfg = s.cfg := rfl
@[simp] theorem State.setChannel_pins (ch : Nat) (e : Option Nat) : (s.setChannel ch e).pins = s.pins := rfl
@[simp] theorem State.setChannel_now (ch : Nat) (e : Option Nat) : (s.setChannel ch e).now = s.now := rfl
@[simp] theorem State.setChannel_pending (ch : Nat) (e : Option Nat) : (s.setChannel ch e).pending = s.pending := rfl

@[simp] theorem State.leaveWaiting_bus (i : Nat) : (s.leaveWaiting i).bus = s.bus := rfl
@[simp] theorem State.leaveWaiting_stations (i : Nat) : (s.leaveWaiting i).stations = s.stations := rfl
@[simp] theorem State.leaveWaiting_dck (i : Nat) : (s.leaveWaiting i).dck = s.dck := rfl
@[simp] theorem State.leaveWaiting_book (i : Nat) : (s.leaveWaiting i).book = s.book := rfl
@[simp] theorem State.leaveWaiting_canisters (i : Nat) : (s.leaveWaiting i).canisters = s.canisters := rfl
@[simp] theorem State.leaveWaiting_seg (i : Nat) : (s.leaveWaiting i).seg = s.seg := rfl
@[simp] theorem State.leaveWaiting_xfr (i : Nat) : (s.leaveWaiting i).xfr = s.xfr := rfl
@[simp] theorem State.leaveWaiting_lids (i : Nat) : (s.leaveWaiting i).lids = s.lids := rfl
@[simp] theorem State.leaveWaiting_shaker (i : Nat) : (s.leaveWaiting i).shaker = s.shaker := rfl
@[simp] theorem State.leaveWaiting_panel (i : Nat) : (s.leaveWaiting i).panel = s.panel := rfl
@[simp] theorem State.leaveWaiting_atn (i : Nat) : (s.leaveWaiting i).atn = s.atn := rfl
@[simp] theorem State.leaveWaiting_cfg (i : Nat) : (s.leaveWaiting i).cfg = s.cfg := rfl
@[simp] theorem State.leaveWaiting_pins (i : Nat) : (s.leaveWaiting i).pins = s.pins := rfl
@[simp] theorem State.leaveWaiting_now (i : Nat) : (s.leaveWaiting i).now = s.now := rfl
@[simp] theorem State.leaveWaiting_pending (i : Nat) : (s.leaveWaiting i).pending = s.pending := rfl

@[simp] theorem State.setSlot_bus (n : Nat) (r : Option TinRecord) : (s.setSlot n r).bus = s.bus := rfl
@[simp] theorem State.setSlot_stations (n : Nat) (r : Option TinRecord) : (s.setSlot n r).stations = s.stations := rfl
@[simp] theorem State.setSlot_dck (n : Nat) (r : Option TinRecord) : (s.setSlot n r).dck = s.dck := rfl
@[simp] theorem State.setSlot_book (n : Nat) (r : Option TinRecord) : (s.setSlot n r).book = s.book := rfl
@[simp] theorem State.setSlot_canisters (n : Nat) (r : Option TinRecord) : (s.setSlot n r).canisters = s.canisters := rfl
@[simp] theorem State.setSlot_shots (n : Nat) (r : Option TinRecord) : (s.setSlot n r).shots = s.shots := rfl
@[simp] theorem State.setSlot_xfr (n : Nat) (r : Option TinRecord) : (s.setSlot n r).xfr = s.xfr := rfl
@[simp] theorem State.setSlot_lids (n : Nat) (r : Option TinRecord) : (s.setSlot n r).lids = s.lids := rfl
@[simp] theorem State.setSlot_shaker (n : Nat) (r : Option TinRecord) : (s.setSlot n r).shaker = s.shaker := rfl
@[simp] theorem State.setSlot_panel (n : Nat) (r : Option TinRecord) : (s.setSlot n r).panel = s.panel := rfl
@[simp] theorem State.setSlot_atn (n : Nat) (r : Option TinRecord) : (s.setSlot n r).atn = s.atn := rfl
@[simp] theorem State.setSlot_cfg (n : Nat) (r : Option TinRecord) : (s.setSlot n r).cfg = s.cfg := rfl
@[simp] theorem State.setSlot_pins (n : Nat) (r : Option TinRecord) : (s.setSlot n r).pins = s.pins := rfl
@[simp] theorem State.setSlot_now (n : Nat) (r : Option TinRecord) : (s.setSlot n r).now = s.now := rfl
@[simp] theorem State.setSlot_pending (n : Nat) (r : Option TinRecord) : (s.setSlot n r).pending = s.pending := rfl

@[simp] theorem State.wake_bus : s.wake.bus = s.bus := rfl
@[simp] theorem State.wake_stations : s.wake.stations = s.stations := rfl
@[simp] theorem State.wake_book : s.wake.book = s.book := rfl
@[simp] theorem State.wake_canisters : s.wake.canisters = s.canisters := rfl
@[simp] theorem State.wake_shots : s.wake.shots = s.shots := rfl
@[simp] theorem State.wake_seg : s.wake.seg = s.seg := rfl
@[simp] theorem State.wake_xfr : s.wake.xfr = s.xfr := rfl
@[simp] theorem State.wake_lids : s.wake.lids = s.lids := rfl
@[simp] theorem State.wake_shaker : s.wake.shaker = s.shaker := rfl
@[simp] theorem State.wake_panel : s.wake.panel = s.panel := rfl
@[simp] theorem State.wake_atn : s.wake.atn = s.atn := rfl
@[simp] theorem State.wake_cfg : s.wake.cfg = s.cfg := rfl
@[simp] theorem State.wake_pins : s.wake.pins = s.pins := rfl
@[simp] theorem State.wake_now : s.wake.now = s.now := rfl
@[simp] theorem State.wake_pending : s.wake.pending = s.pending := rfl
@[simp] theorem State.wake_dck : s.wake.dck = { s.dck with idle := 0 } := rfl

@[simp] theorem State.drive_bus (d : Destination) (p : Bool) : (s.drive d p).bus = s.bus := rfl
@[simp] theorem State.drive_stations (d : Destination) (p : Bool) : (s.drive d p).stations = s.stations := rfl
@[simp] theorem State.drive_dck (d : Destination) (p : Bool) : (s.drive d p).dck = { s.dck with idle := 0 } := rfl
@[simp] theorem State.drive_book (d : Destination) (p : Bool) : (s.drive d p).book = s.book := rfl
@[simp] theorem State.drive_canisters (d : Destination) (p : Bool) : (s.drive d p).canisters = s.canisters := rfl
@[simp] theorem State.drive_shots (d : Destination) (p : Bool) : (s.drive d p).shots = s.shots := rfl
@[simp] theorem State.drive_xfr (d : Destination) (p : Bool) : (s.drive d p).xfr = s.xfr := rfl
@[simp] theorem State.drive_lids (d : Destination) (p : Bool) : (s.drive d p).lids = s.lids := rfl
@[simp] theorem State.drive_shaker (d : Destination) (p : Bool) : (s.drive d p).shaker = s.shaker := rfl
@[simp] theorem State.drive_panel (d : Destination) (p : Bool) : (s.drive d p).panel = s.panel := rfl
@[simp] theorem State.drive_atn (d : Destination) (p : Bool) : (s.drive d p).atn = s.atn := rfl
@[simp] theorem State.drive_cfg (d : Destination) (p : Bool) : (s.drive d p).cfg = s.cfg := rfl
@[simp] theorem State.drive_pins (d : Destination) (p : Bool) : (s.drive d p).pins = s.pins := rfl
@[simp] theorem State.drive_now (d : Destination) (p : Bool) : (s.drive d p).now = s.now := rfl
@[simp] theorem State.drive_pending (d : Destination) (p : Bool) : (s.drive d p).pending = s.pending := rfl

@[simp] theorem State.endPrompt_bus : (s.endPrompt).bus = s.bus := rfl
@[simp] theorem State.endPrompt_stations : (s.endPrompt).stations = s.stations := rfl
@[simp] theorem State.endPrompt_dck : (s.endPrompt).dck = s.dck := rfl
@[simp] theorem State.endPrompt_book : (s.endPrompt).book = s.book := rfl
@[simp] theorem State.endPrompt_canisters : (s.endPrompt).canisters = s.canisters := rfl
@[simp] theorem State.endPrompt_shots : (s.endPrompt).shots = s.shots := rfl
@[simp] theorem State.endPrompt_xfr : (s.endPrompt).xfr = s.xfr := rfl
@[simp] theorem State.endPrompt_lids : (s.endPrompt).lids = s.lids := rfl
@[simp] theorem State.endPrompt_shaker : (s.endPrompt).shaker = s.shaker := rfl
@[simp] theorem State.endPrompt_atn : (s.endPrompt).atn = s.atn := rfl
@[simp] theorem State.endPrompt_cfg : (s.endPrompt).cfg = s.cfg := rfl
@[simp] theorem State.endPrompt_pins : (s.endPrompt).pins = s.pins := rfl
@[simp] theorem State.endPrompt_now : (s.endPrompt).now = s.now := rfl
@[simp] theorem State.endPrompt_pending : (s.endPrompt).pending = s.pending := rfl

@[simp] theorem State.setIntake_bus (i : Intake) : (s.setIntake i).bus = s.bus := rfl
@[simp] theorem State.setIntake_stations (i : Intake) : (s.setIntake i).stations = s.stations := rfl
@[simp] theorem State.setIntake_dck (i : Intake) : (s.setIntake i).dck = s.dck := rfl
@[simp] theorem State.setIntake_book (i : Intake) : (s.setIntake i).book = s.book := rfl
@[simp] theorem State.setIntake_canisters (i : Intake) : (s.setIntake i).canisters = s.canisters := rfl
@[simp] theorem State.setIntake_shots (i : Intake) : (s.setIntake i).shots = s.shots := rfl
@[simp] theorem State.setIntake_seg (i : Intake) : (s.setIntake i).seg = s.seg := rfl
@[simp] theorem State.setIntake_lids (i : Intake) : (s.setIntake i).lids = s.lids := rfl
@[simp] theorem State.setIntake_shaker (i : Intake) : (s.setIntake i).shaker = s.shaker := rfl
@[simp] theorem State.setIntake_panel (i : Intake) : (s.setIntake i).panel = s.panel := rfl
@[simp] theorem State.setIntake_atn (i : Intake) : (s.setIntake i).atn = s.atn := rfl
@[simp] theorem State.setIntake_cfg (i : Intake) : (s.setIntake i).cfg = s.cfg := rfl
@[simp] theorem State.setIntake_pins (i : Intake) : (s.setIntake i).pins = s.pins := rfl
@[simp] theorem State.setIntake_now (i : Intake) : (s.setIntake i).now = s.now := rfl
@[simp] theorem State.setIntake_pending (i : Intake) : (s.setIntake i).pending = s.pending := rfl

@[simp] theorem State.dropItem_bus (q : Nat) : (s.dropItem q).bus = s.bus := rfl
@[simp] theorem State.dropItem_stations (q : Nat) : (s.dropItem q).stations = s.stations := rfl
@[simp] theorem State.dropItem_dck (q : Nat) : (s.dropItem q).dck = s.dck := rfl
@[simp] theorem State.dropItem_book (q : Nat) : (s.dropItem q).book = s.book := rfl
@[simp] theorem State.dropItem_canisters (q : Nat) : (s.dropItem q).canisters = s.canisters := rfl
@[simp] theorem State.dropItem_shots (q : Nat) : (s.dropItem q).shots = s.shots := rfl
@[simp] theorem State.dropItem_seg (q : Nat) : (s.dropItem q).seg = s.seg := rfl
@[simp] theorem State.dropItem_lids (q : Nat) : (s.dropItem q).lids = s.lids := rfl
@[simp] theorem State.dropItem_shaker (q : Nat) : (s.dropItem q).shaker = s.shaker := rfl
@[simp] theorem State.dropItem_panel (q : Nat) : (s.dropItem q).panel = s.panel := rfl
@[simp] theorem State.dropItem_atn (q : Nat) : (s.dropItem q).atn = s.atn := rfl
@[simp] theorem State.dropItem_cfg (q : Nat) : (s.dropItem q).cfg = s.cfg := rfl
@[simp] theorem State.dropItem_pins (q : Nat) : (s.dropItem q).pins = s.pins := rfl
@[simp] theorem State.dropItem_now (q : Nat) : (s.dropItem q).now = s.now := rfl
@[simp] theorem State.dropItem_pending (q : Nat) : (s.dropItem q).pending = s.pending := rfl

@[simp] theorem State.setPointer_bus (p : Nat) : (s.setPointer p).bus = s.bus := rfl
@[simp] theorem State.setPointer_stations (p : Nat) : (s.setPointer p).stations = s.stations := rfl
@[simp] theorem State.setPointer_dck (p : Nat) : (s.setPointer p).dck = s.dck := rfl
@[simp] theorem State.setPointer_book (p : Nat) : (s.setPointer p).book = s.book := rfl
@[simp] theorem State.setPointer_canisters (p : Nat) : (s.setPointer p).canisters = s.canisters := rfl
@[simp] theorem State.setPointer_shots (p : Nat) : (s.setPointer p).shots = s.shots := rfl
@[simp] theorem State.setPointer_seg (p : Nat) : (s.setPointer p).seg = s.seg := rfl
@[simp] theorem State.setPointer_lids (p : Nat) : (s.setPointer p).lids = s.lids := rfl
@[simp] theorem State.setPointer_shaker (p : Nat) : (s.setPointer p).shaker = s.shaker := rfl
@[simp] theorem State.setPointer_panel (p : Nat) : (s.setPointer p).panel = s.panel := rfl
@[simp] theorem State.setPointer_atn (p : Nat) : (s.setPointer p).atn = s.atn := rfl
@[simp] theorem State.setPointer_cfg (p : Nat) : (s.setPointer p).cfg = s.cfg := rfl
@[simp] theorem State.setPointer_pins (p : Nat) : (s.setPointer p).pins = s.pins := rfl
@[simp] theorem State.setPointer_now (p : Nat) : (s.setPointer p).now = s.now := rfl
@[simp] theorem State.setPointer_pending (p : Nat) : (s.setPointer p).pending = s.pending := rfl

@[simp] theorem State.restartRepeat_bus (q : Nat) : (s.restartRepeat q).bus = s.bus := rfl
@[simp] theorem State.restartRepeat_stations (q : Nat) : (s.restartRepeat q).stations = s.stations := rfl
@[simp] theorem State.restartRepeat_dck (q : Nat) : (s.restartRepeat q).dck = s.dck := rfl
@[simp] theorem State.restartRepeat_book (q : Nat) : (s.restartRepeat q).book = s.book := rfl
@[simp] theorem State.restartRepeat_canisters (q : Nat) : (s.restartRepeat q).canisters = s.canisters := rfl
@[simp] theorem State.restartRepeat_shots (q : Nat) : (s.restartRepeat q).shots = s.shots := rfl
@[simp] theorem State.restartRepeat_seg (q : Nat) : (s.restartRepeat q).seg = s.seg := rfl
@[simp] theorem State.restartRepeat_lids (q : Nat) : (s.restartRepeat q).lids = s.lids := rfl
@[simp] theorem State.restartRepeat_shaker (q : Nat) : (s.restartRepeat q).shaker = s.shaker := rfl
@[simp] theorem State.restartRepeat_panel (q : Nat) : (s.restartRepeat q).panel = s.panel := rfl
@[simp] theorem State.restartRepeat_atn (q : Nat) : (s.restartRepeat q).atn = s.atn := rfl
@[simp] theorem State.restartRepeat_cfg (q : Nat) : (s.restartRepeat q).cfg = s.cfg := rfl
@[simp] theorem State.restartRepeat_pins (q : Nat) : (s.restartRepeat q).pins = s.pins := rfl
@[simp] theorem State.restartRepeat_now (q : Nat) : (s.restartRepeat q).now = s.now := rfl
@[simp] theorem State.restartRepeat_pending (q : Nat) : (s.restartRepeat q).pending = s.pending := rfl

@[simp] theorem State.setBay_bus (b : LidBay) : (s.setBay b).bus = s.bus := rfl
@[simp] theorem State.setBay_stations (b : LidBay) : (s.setBay b).stations = s.stations := rfl
@[simp] theorem State.setBay_dck (b : LidBay) : (s.setBay b).dck = s.dck := rfl
@[simp] theorem State.setBay_book (b : LidBay) : (s.setBay b).book = s.book := rfl
@[simp] theorem State.setBay_canisters (b : LidBay) : (s.setBay b).canisters = s.canisters := rfl
@[simp] theorem State.setBay_shots (b : LidBay) : (s.setBay b).shots = s.shots := rfl
@[simp] theorem State.setBay_seg (b : LidBay) : (s.setBay b).seg = s.seg := rfl
@[simp] theorem State.setBay_xfr (b : LidBay) : (s.setBay b).xfr = s.xfr := rfl
@[simp] theorem State.setBay_shaker (b : LidBay) : (s.setBay b).shaker = s.shaker := rfl
@[simp] theorem State.setBay_panel (b : LidBay) : (s.setBay b).panel = s.panel := rfl
@[simp] theorem State.setBay_atn (b : LidBay) : (s.setBay b).atn = s.atn := rfl
@[simp] theorem State.setBay_cfg (b : LidBay) : (s.setBay b).cfg = s.cfg := rfl
@[simp] theorem State.setBay_pins (b : LidBay) : (s.setBay b).pins = s.pins := rfl
@[simp] theorem State.setBay_now (b : LidBay) : (s.setBay b).now = s.now := rfl
@[simp] theorem State.setBay_pending (b : LidBay) : (s.setBay b).pending = s.pending := rfl

@[simp] theorem State.modShaker_bus (f : Shaker → Shaker) : (s.modShaker f).bus = s.bus := rfl
@[simp] theorem State.modShaker_stations (f : Shaker → Shaker) : (s.modShaker f).stations = s.stations := rfl
@[simp] theorem State.modShaker_dck (f : Shaker → Shaker) : (s.modShaker f).dck = s.dck := rfl
@[simp] theorem State.modShaker_book (f : Shaker → Shaker) : (s.modShaker f).book = s.book := rfl
@[simp] theorem State.modShaker_canisters (f : Shaker → Shaker) : (s.modShaker f).canisters = s.canisters := rfl
@[simp] theorem State.modShaker_shots (f : Shaker → Shaker) : (s.modShaker f).shots = s.shots := rfl
@[simp] theorem State.modShaker_seg (f : Shaker → Shaker) : (s.modShaker f).seg = s.seg := rfl
@[simp] theorem State.modShaker_xfr (f : Shaker → Shaker) : (s.modShaker f).xfr = s.xfr := rfl
@[simp] theorem State.modShaker_lids (f : Shaker → Shaker) : (s.modShaker f).lids = s.lids := rfl
@[simp] theorem State.modShaker_panel (f : Shaker → Shaker) : (s.modShaker f).panel = s.panel := rfl
@[simp] theorem State.modShaker_atn (f : Shaker → Shaker) : (s.modShaker f).atn = s.atn := rfl
@[simp] theorem State.modShaker_cfg (f : Shaker → Shaker) : (s.modShaker f).cfg = s.cfg := rfl
@[simp] theorem State.modShaker_pins (f : Shaker → Shaker) : (s.modShaker f).pins = s.pins := rfl
@[simp] theorem State.modShaker_now (f : Shaker → Shaker) : (s.modShaker f).now = s.now := rfl
@[simp] theorem State.modShaker_pending (f : Shaker → Shaker) : (s.modShaker f).pending = s.pending := rfl

@[simp] theorem State.setMoment_bus (m : Moment) : (s.setMoment m).bus = s.bus := rfl
@[simp] theorem State.setMoment_stations (m : Moment) : (s.setMoment m).stations = s.stations := rfl
@[simp] theorem State.setMoment_book (m : Moment) : (s.setMoment m).book = s.book := rfl
@[simp] theorem State.setMoment_canisters (m : Moment) : (s.setMoment m).canisters = s.canisters := rfl
@[simp] theorem State.setMoment_shots (m : Moment) : (s.setMoment m).shots = s.shots := rfl
@[simp] theorem State.setMoment_seg (m : Moment) : (s.setMoment m).seg = s.seg := rfl
@[simp] theorem State.setMoment_xfr (m : Moment) : (s.setMoment m).xfr = s.xfr := rfl
@[simp] theorem State.setMoment_lids (m : Moment) : (s.setMoment m).lids = s.lids := rfl
@[simp] theorem State.setMoment_shaker (m : Moment) : (s.setMoment m).shaker = s.shaker := rfl
@[simp] theorem State.setMoment_panel (m : Moment) : (s.setMoment m).panel = s.panel := rfl
@[simp] theorem State.setMoment_atn (m : Moment) : (s.setMoment m).atn = s.atn := rfl
@[simp] theorem State.setMoment_cfg (m : Moment) : (s.setMoment m).cfg = s.cfg := rfl
@[simp] theorem State.setMoment_pins (m : Moment) : (s.setMoment m).pins = s.pins := rfl
@[simp] theorem State.setMoment_now (m : Moment) : (s.setMoment m).now = s.now := rfl
@[simp] theorem State.setMoment_pending (m : Moment) : (s.setMoment m).pending = s.pending := rfl

@[simp] theorem State.setMessage_bus (m : Message) : (s.setMessage m).bus = s.bus := rfl
@[simp] theorem State.setMessage_stations (m : Message) : (s.setMessage m).stations = s.stations := rfl
@[simp] theorem State.setMessage_dck (m : Message) : (s.setMessage m).dck = s.dck := rfl
@[simp] theorem State.setMessage_book (m : Message) : (s.setMessage m).book = s.book := rfl
@[simp] theorem State.setMessage_canisters (m : Message) : (s.setMessage m).canisters = s.canisters := rfl
@[simp] theorem State.setMessage_shots (m : Message) : (s.setMessage m).shots = s.shots := rfl
@[simp] theorem State.setMessage_seg (m : Message) : (s.setMessage m).seg = s.seg := rfl
@[simp] theorem State.setMessage_xfr (m : Message) : (s.setMessage m).xfr = s.xfr := rfl
@[simp] theorem State.setMessage_lids (m : Message) : (s.setMessage m).lids = s.lids := rfl
@[simp] theorem State.setMessage_shaker (m : Message) : (s.setMessage m).shaker = s.shaker := rfl
@[simp] theorem State.setMessage_atn (m : Message) : (s.setMessage m).atn = s.atn := rfl
@[simp] theorem State.setMessage_cfg (m : Message) : (s.setMessage m).cfg = s.cfg := rfl
@[simp] theorem State.setMessage_pins (m : Message) : (s.setMessage m).pins = s.pins := rfl
@[simp] theorem State.setMessage_now (m : Message) : (s.setMessage m).now = s.now := rfl
@[simp] theorem State.setMessage_pending (m : Message) : (s.setMessage m).pending = s.pending := rfl

@[simp] theorem State.setLaneHead_bus (b : Bool) : (s.setLaneHead b).bus = s.bus := rfl
@[simp] theorem State.setLaneHead_stations (b : Bool) : (s.setLaneHead b).stations = s.stations := rfl
@[simp] theorem State.setLaneHead_dck (b : Bool) : (s.setLaneHead b).dck = s.dck := rfl
@[simp] theorem State.setLaneHead_book (b : Bool) : (s.setLaneHead b).book = s.book := rfl
@[simp] theorem State.setLaneHead_canisters (b : Bool) : (s.setLaneHead b).canisters = s.canisters := rfl
@[simp] theorem State.setLaneHead_shots (b : Bool) : (s.setLaneHead b).shots = s.shots := rfl
@[simp] theorem State.setLaneHead_seg (b : Bool) : (s.setLaneHead b).seg = s.seg := rfl
@[simp] theorem State.setLaneHead_xfr (b : Bool) : (s.setLaneHead b).xfr = s.xfr := rfl
@[simp] theorem State.setLaneHead_lids (b : Bool) : (s.setLaneHead b).lids = s.lids := rfl
@[simp] theorem State.setLaneHead_shaker (b : Bool) : (s.setLaneHead b).shaker = s.shaker := rfl
@[simp] theorem State.setLaneHead_panel (b : Bool) : (s.setLaneHead b).panel = s.panel := rfl
@[simp] theorem State.setLaneHead_atn (b : Bool) : (s.setLaneHead b).atn = s.atn := rfl
@[simp] theorem State.setLaneHead_cfg (b : Bool) : (s.setLaneHead b).cfg = s.cfg := rfl
@[simp] theorem State.setLaneHead_now (b : Bool) : (s.setLaneHead b).now = s.now := rfl
@[simp] theorem State.setLaneHead_pending (b : Bool) : (s.setLaneHead b).pending = s.pending := rfl

@[simp] theorem State.setShakerTin_bus (b : Bool) : (s.setShakerTin b).bus = s.bus := rfl
@[simp] theorem State.setShakerTin_stations (b : Bool) : (s.setShakerTin b).stations = s.stations := rfl
@[simp] theorem State.setShakerTin_dck (b : Bool) : (s.setShakerTin b).dck = s.dck := rfl
@[simp] theorem State.setShakerTin_book (b : Bool) : (s.setShakerTin b).book = s.book := rfl
@[simp] theorem State.setShakerTin_canisters (b : Bool) : (s.setShakerTin b).canisters = s.canisters := rfl
@[simp] theorem State.setShakerTin_shots (b : Bool) : (s.setShakerTin b).shots = s.shots := rfl
@[simp] theorem State.setShakerTin_seg (b : Bool) : (s.setShakerTin b).seg = s.seg := rfl
@[simp] theorem State.setShakerTin_xfr (b : Bool) : (s.setShakerTin b).xfr = s.xfr := rfl
@[simp] theorem State.setShakerTin_lids (b : Bool) : (s.setShakerTin b).lids = s.lids := rfl
@[simp] theorem State.setShakerTin_shaker (b : Bool) : (s.setShakerTin b).shaker = s.shaker := rfl
@[simp] theorem State.setShakerTin_panel (b : Bool) : (s.setShakerTin b).panel = s.panel := rfl
@[simp] theorem State.setShakerTin_atn (b : Bool) : (s.setShakerTin b).atn = s.atn := rfl
@[simp] theorem State.setShakerTin_cfg (b : Bool) : (s.setShakerTin b).cfg = s.cfg := rfl
@[simp] theorem State.setShakerTin_now (b : Bool) : (s.setShakerTin b).now = s.now := rfl
@[simp] theorem State.setShakerTin_pending (b : Bool) : (s.setShakerTin b).pending = s.pending := rfl

@[simp] theorem State.setSensed_bus (n : Nat) : (s.setSensed n).bus = s.bus := rfl
@[simp] theorem State.setSensed_stations (n : Nat) : (s.setSensed n).stations = s.stations := rfl
@[simp] theorem State.setSensed_dck (n : Nat) : (s.setSensed n).dck = s.dck := rfl
@[simp] theorem State.setSensed_book (n : Nat) : (s.setSensed n).book = s.book := rfl
@[simp] theorem State.setSensed_canisters (n : Nat) : (s.setSensed n).canisters = s.canisters := rfl
@[simp] theorem State.setSensed_shots (n : Nat) : (s.setSensed n).shots = s.shots := rfl
@[simp] theorem State.setSensed_seg (n : Nat) : (s.setSensed n).seg = s.seg := rfl
@[simp] theorem State.setSensed_xfr (n : Nat) : (s.setSensed n).xfr = s.xfr := rfl
@[simp] theorem State.setSensed_lids (n : Nat) : (s.setSensed n).lids = s.lids := rfl
@[simp] theorem State.setSensed_shaker (n : Nat) : (s.setSensed n).shaker = s.shaker := rfl
@[simp] theorem State.setSensed_panel (n : Nat) : (s.setSensed n).panel = s.panel := rfl
@[simp] theorem State.setSensed_atn (n : Nat) : (s.setSensed n).atn = s.atn := rfl
@[simp] theorem State.setSensed_cfg (n : Nat) : (s.setSensed n).cfg = s.cfg := rfl
@[simp] theorem State.setSensed_now (n : Nat) : (s.setSensed n).now = s.now := rfl
@[simp] theorem State.setSensed_pending (n : Nat) : (s.setSensed n).pending = s.pending := rfl

@[simp] theorem State.setClamp_bus (b : Bool) : (s.setClamp b).bus = s.bus := rfl
@[simp] theorem State.setClamp_stations (b : Bool) : (s.setClamp b).stations = s.stations := rfl
@[simp] theorem State.setClamp_dck (b : Bool) : (s.setClamp b).dck = s.dck := rfl
@[simp] theorem State.setClamp_book (b : Bool) : (s.setClamp b).book = s.book := rfl
@[simp] theorem State.setClamp_canisters (b : Bool) : (s.setClamp b).canisters = s.canisters := rfl
@[simp] theorem State.setClamp_shots (b : Bool) : (s.setClamp b).shots = s.shots := rfl
@[simp] theorem State.setClamp_seg (b : Bool) : (s.setClamp b).seg = s.seg := rfl
@[simp] theorem State.setClamp_xfr (b : Bool) : (s.setClamp b).xfr = s.xfr := rfl
@[simp] theorem State.setClamp_lids (b : Bool) : (s.setClamp b).lids = s.lids := rfl
@[simp] theorem State.setClamp_shaker (b : Bool) : (s.setClamp b).shaker = s.shaker := rfl
@[simp] theorem State.setClamp_panel (b : Bool) : (s.setClamp b).panel = s.panel := rfl
@[simp] theorem State.setClamp_atn (b : Bool) : (s.setClamp b).atn = s.atn := rfl
@[simp] theorem State.setClamp_cfg (b : Bool) : (s.setClamp b).cfg = s.cfg := rfl
@[simp] theorem State.setClamp_now (b : Bool) : (s.setClamp b).now = s.now := rfl
@[simp] theorem State.setClamp_pending (b : Bool) : (s.setClamp b).pending = s.pending := rfl

@[simp] theorem State.setDoor_bus (b : Bool) : (s.setDoor b).bus = s.bus := rfl
@[simp] theorem State.setDoor_stations (b : Bool) : (s.setDoor b).stations = s.stations := rfl
@[simp] theorem State.setDoor_dck (b : Bool) : (s.setDoor b).dck = s.dck := rfl
@[simp] theorem State.setDoor_book (b : Bool) : (s.setDoor b).book = s.book := rfl
@[simp] theorem State.setDoor_canisters (b : Bool) : (s.setDoor b).canisters = s.canisters := rfl
@[simp] theorem State.setDoor_shots (b : Bool) : (s.setDoor b).shots = s.shots := rfl
@[simp] theorem State.setDoor_seg (b : Bool) : (s.setDoor b).seg = s.seg := rfl
@[simp] theorem State.setDoor_xfr (b : Bool) : (s.setDoor b).xfr = s.xfr := rfl
@[simp] theorem State.setDoor_lids (b : Bool) : (s.setDoor b).lids = s.lids := rfl
@[simp] theorem State.setDoor_shaker (b : Bool) : (s.setDoor b).shaker = s.shaker := rfl
@[simp] theorem State.setDoor_panel (b : Bool) : (s.setDoor b).panel = s.panel := rfl
@[simp] theorem State.setDoor_atn (b : Bool) : (s.setDoor b).atn = s.atn := rfl
@[simp] theorem State.setDoor_cfg (b : Bool) : (s.setDoor b).cfg = s.cfg := rfl
@[simp] theorem State.setDoor_now (b : Bool) : (s.setDoor b).now = s.now := rfl
@[simp] theorem State.setDoor_pending (b : Bool) : (s.setDoor b).pending = s.pending := rfl

@[simp] theorem State.setHatch_bus (n : Fin 5) (b : Bool) : (s.setHatch n b).bus = s.bus := rfl
@[simp] theorem State.setHatch_stations (n : Fin 5) (b : Bool) : (s.setHatch n b).stations = s.stations := rfl
@[simp] theorem State.setHatch_dck (n : Fin 5) (b : Bool) : (s.setHatch n b).dck = s.dck := rfl
@[simp] theorem State.setHatch_book (n : Fin 5) (b : Bool) : (s.setHatch n b).book = s.book := rfl
@[simp] theorem State.setHatch_canisters (n : Fin 5) (b : Bool) : (s.setHatch n b).canisters = s.canisters := rfl
@[simp] theorem State.setHatch_shots (n : Fin 5) (b : Bool) : (s.setHatch n b).shots = s.shots := rfl
@[simp] theorem State.setHatch_seg (n : Fin 5) (b : Bool) : (s.setHatch n b).seg = s.seg := rfl
@[simp] theorem State.setHatch_xfr (n : Fin 5) (b : Bool) : (s.setHatch n b).xfr = s.xfr := rfl
@[simp] theorem State.setHatch_lids (n : Fin 5) (b : Bool) : (s.setHatch n b).lids = s.lids := rfl
@[simp] theorem State.setHatch_shaker (n : Fin 5) (b : Bool) : (s.setHatch n b).shaker = s.shaker := rfl
@[simp] theorem State.setHatch_panel (n : Fin 5) (b : Bool) : (s.setHatch n b).panel = s.panel := rfl
@[simp] theorem State.setHatch_atn (n : Fin 5) (b : Bool) : (s.setHatch n b).atn = s.atn := rfl
@[simp] theorem State.setHatch_cfg (n : Fin 5) (b : Bool) : (s.setHatch n b).cfg = s.cfg := rfl
@[simp] theorem State.setHatch_now (n : Fin 5) (b : Bool) : (s.setHatch n b).now = s.now := rfl
@[simp] theorem State.setHatch_pending (n : Fin 5) (b : Bool) : (s.setHatch n b).pending = s.pending := rfl

@[simp] theorem State.setFault_bus (n : Fin 4) (b : Bool) : (s.setFault n b).bus = s.bus := rfl
@[simp] theorem State.setFault_stations (n : Fin 4) (b : Bool) : (s.setFault n b).stations = s.stations := rfl
@[simp] theorem State.setFault_dck (n : Fin 4) (b : Bool) : (s.setFault n b).dck = s.dck := rfl
@[simp] theorem State.setFault_book (n : Fin 4) (b : Bool) : (s.setFault n b).book = s.book := rfl
@[simp] theorem State.setFault_canisters (n : Fin 4) (b : Bool) : (s.setFault n b).canisters = s.canisters := rfl
@[simp] theorem State.setFault_shots (n : Fin 4) (b : Bool) : (s.setFault n b).shots = s.shots := rfl
@[simp] theorem State.setFault_seg (n : Fin 4) (b : Bool) : (s.setFault n b).seg = s.seg := rfl
@[simp] theorem State.setFault_xfr (n : Fin 4) (b : Bool) : (s.setFault n b).xfr = s.xfr := rfl
@[simp] theorem State.setFault_lids (n : Fin 4) (b : Bool) : (s.setFault n b).lids = s.lids := rfl
@[simp] theorem State.setFault_shaker (n : Fin 4) (b : Bool) : (s.setFault n b).shaker = s.shaker := rfl
@[simp] theorem State.setFault_panel (n : Fin 4) (b : Bool) : (s.setFault n b).panel = s.panel := rfl
@[simp] theorem State.setFault_atn (n : Fin 4) (b : Bool) : (s.setFault n b).atn = s.atn := rfl
@[simp] theorem State.setFault_cfg (n : Fin 4) (b : Bool) : (s.setFault n b).cfg = s.cfg := rfl
@[simp] theorem State.setFault_now (n : Fin 4) (b : Bool) : (s.setFault n b).now = s.now := rfl
@[simp] theorem State.setFault_pending (n : Fin 4) (b : Bool) : (s.setFault n b).pending = s.pending := rfl

@[simp] theorem State.setPrinterReady_bus : (s.setPrinterReady).bus = s.bus := rfl
@[simp] theorem State.setPrinterReady_stations : (s.setPrinterReady).stations = s.stations := rfl
@[simp] theorem State.setPrinterReady_dck : (s.setPrinterReady).dck = s.dck := rfl
@[simp] theorem State.setPrinterReady_book : (s.setPrinterReady).book = s.book := rfl
@[simp] theorem State.setPrinterReady_canisters : (s.setPrinterReady).canisters = s.canisters := rfl
@[simp] theorem State.setPrinterReady_shots : (s.setPrinterReady).shots = s.shots := rfl
@[simp] theorem State.setPrinterReady_seg : (s.setPrinterReady).seg = s.seg := rfl
@[simp] theorem State.setPrinterReady_xfr : (s.setPrinterReady).xfr = s.xfr := rfl
@[simp] theorem State.setPrinterReady_lids : (s.setPrinterReady).lids = s.lids := rfl
@[simp] theorem State.setPrinterReady_shaker : (s.setPrinterReady).shaker = s.shaker := rfl
@[simp] theorem State.setPrinterReady_panel : (s.setPrinterReady).panel = s.panel := rfl
@[simp] theorem State.setPrinterReady_atn : (s.setPrinterReady).atn = s.atn := rfl
@[simp] theorem State.setPrinterReady_cfg : (s.setPrinterReady).cfg = s.cfg := rfl
@[simp] theorem State.setPrinterReady_now : (s.setPrinterReady).now = s.now := rfl
@[simp] theorem State.setPrinterReady_pending : (s.setPrinterReady).pending = s.pending := rfl

@[simp] theorem State.capture_bus (i : Fin 7) (b : Bool) : (s.capture i b).bus = s.bus := rfl
@[simp] theorem State.capture_stations (i : Fin 7) (b : Bool) : (s.capture i b).stations = s.stations := rfl
@[simp] theorem State.capture_dck (i : Fin 7) (b : Bool) : (s.capture i b).dck = s.dck := rfl
@[simp] theorem State.capture_book (i : Fin 7) (b : Bool) : (s.capture i b).book = s.book := rfl
@[simp] theorem State.capture_canisters (i : Fin 7) (b : Bool) : (s.capture i b).canisters = s.canisters := rfl
@[simp] theorem State.capture_shots (i : Fin 7) (b : Bool) : (s.capture i b).shots = s.shots := rfl
@[simp] theorem State.capture_seg (i : Fin 7) (b : Bool) : (s.capture i b).seg = s.seg := rfl
@[simp] theorem State.capture_xfr (i : Fin 7) (b : Bool) : (s.capture i b).xfr = s.xfr := rfl
@[simp] theorem State.capture_lids (i : Fin 7) (b : Bool) : (s.capture i b).lids = s.lids := rfl
@[simp] theorem State.capture_shaker (i : Fin 7) (b : Bool) : (s.capture i b).shaker = s.shaker := rfl
@[simp] theorem State.capture_panel (i : Fin 7) (b : Bool) : (s.capture i b).panel = s.panel := rfl
@[simp] theorem State.capture_cfg (i : Fin 7) (b : Bool) : (s.capture i b).cfg = s.cfg := rfl
@[simp] theorem State.capture_pins (i : Fin 7) (b : Bool) : (s.capture i b).pins = s.pins := rfl
@[simp] theorem State.capture_now (i : Fin 7) (b : Bool) : (s.capture i b).now = s.now := rfl
@[simp] theorem State.capture_pending (i : Fin 7) (b : Bool) : (s.capture i b).pending = s.pending := rfl

/-! ## What an update leaves in the block it changes -/

@[simp] theorem State.latch_keeps_sample (x : Sample) : (s.latch x).pins.sample = x := rfl
@[simp] theorem State.latch_keeps_estop (x : Sample) : (s.latch x).pins.estop = s.pins.estop := rfl
@[simp] theorem State.latch_keeps_clamp (x : Sample) : (s.latch x).pins.clamp = s.pins.clamp := rfl
@[simp] theorem State.latch_keeps_shakerDoor (x : Sample) : (s.latch x).pins.shakerDoor = s.pins.shakerDoor := rfl
@[simp] theorem State.latchTag_keeps_clamp (g : Option TinId) : (s.latchTag g).pins.clamp = s.pins.clamp := rfl
@[simp] theorem State.latchTag_keeps_shakerDoor (g : Option TinId) : (s.latchTag g).pins.shakerDoor = s.pins.shakerDoor := rfl
@[simp] theorem State.latchLid_keeps_clamp (b : Bool) : (s.latchLid b).pins.clamp = s.pins.clamp := rfl
@[simp] theorem State.latchLid_keeps_shakerDoor (b : Bool) : (s.latchLid b).pins.shakerDoor = s.pins.shakerDoor := rfl
@[simp] theorem State.latchGray_keeps_clamp (n : Nat) (g : Gray) : (s.latchGray n g).pins.clamp = s.pins.clamp := rfl
@[simp] theorem State.latchGray_keeps_shakerDoor (n : Nat) (g : Gray) : (s.latchGray n g).pins.shakerDoor = s.pins.shakerDoor := rfl
@[simp] theorem State.endPrompt_keeps_prompt : s.endPrompt.seg.prompt = .none := rfl
@[simp] theorem State.endPrompt_keeps_slots : s.endPrompt.seg.slots = s.seg.slots := rfl
@[simp] theorem State.endPrompt_keeps_index : s.endPrompt.seg.index = s.seg.index := rfl
@[simp] theorem State.endPrompt_keeps_chute : s.endPrompt.seg.chute = s.seg.chute := rfl
@[simp] theorem State.setSlot_keeps_index (n : Nat) (r : Option TinRecord) : (s.setSlot n r).seg.index = s.seg.index := rfl
@[simp] theorem State.setSlot_keeps_chute (n : Nat) (r : Option TinRecord) : (s.setSlot n r).seg.chute = s.seg.chute := rfl
@[simp] theorem State.setSlot_keeps_prompt (n : Nat) (r : Option TinRecord) : (s.setSlot n r).seg.prompt = s.seg.prompt := rfl
@[simp] theorem State.setSlot_keeps_slots (n : Nat) (r : Option TinRecord) : (s.setSlot n r).seg.slots = s.seg.slots.set n r := rfl
@[simp] theorem State.setIntake_keeps_intake (i : Intake) : (s.setIntake i).xfr.intake = i := rfl
@[simp] theorem State.setIntake_keeps_inTransit (i : Intake) : (s.setIntake i).xfr.inTransit = s.xfr.inTransit := rfl
@[simp] theorem State.setIntake_keeps_pointer (i : Intake) : (s.setIntake i).xfr.pointer = s.xfr.pointer := rfl
@[simp] theorem State.setIntake_keeps_expected (i : Intake) : (s.setIntake i).xfr.expected = s.xfr.expected := rfl
@[simp] theorem State.dropItem_keeps_inTransit (q : Nat) : (s.dropItem q).xfr.inTransit = s.xfr.inTransit := rfl
@[simp] theorem State.setPointer_keeps_inTransit (p : Nat) : (s.setPointer p).xfr.inTransit = s.xfr.inTransit := rfl
@[simp] theorem State.setPointer_keeps_pointer (p : Nat) : (s.setPointer p).xfr.pointer = p := rfl
@[simp] theorem State.setBay_keeps_bay (b : LidBay) : (s.setBay b).lids.bay = b := rfl
@[simp] theorem State.setBay_keeps_magazines (b : LidBay) : (s.setBay b).lids.magazines = s.lids.magazines := rfl
@[simp] theorem State.modShaker_keeps_shaker (f : Shaker → Shaker) : (s.modShaker f).shaker = f s.shaker := rfl
@[simp] theorem State.setMoment_keeps_cell (m : Moment) : (s.setMoment m).dck.cell = s.dck.cell := rfl
@[simp] theorem State.setMoment_keeps_cap (m : Moment) : (s.setMoment m).dck.cap = s.dck.cap := rfl
@[simp] theorem State.setMoment_keeps_moment (m : Moment) : (s.setMoment m).dck.moment = m := rfl
@[simp] theorem State.rxError_keeps_rxErrors : s.rxError.bus.rxErrors = min 255 (s.bus.rxErrors + 1) := rfl
@[simp] theorem State.rxError_keeps_sendDrops : s.rxError.bus.sendDrops = s.bus.sendDrops := rfl
@[simp] theorem State.rxError_keeps_queue : s.rxError.bus.queue = s.bus.queue := rfl

/-! ## The prompt -/

theorem State.shown_held (h : s.cfg.held = true) : s.shown = .off := if_pos h
theorem State.shown_live (h : s.cfg.held = false) : s.shown = s.prompt := by simp [State.shown, h]

end Sys2Proof.Machine
end

