-- ==== Sys2Proof/Laws/Ops.lean ====
section
/-! SUPPORT. For each shared operation, which blocks it can change: every other block of the state is as it was; and what
an entry adds to the open jobs and the backlog. -/

namespace Sys2Proof.Machine

/-- A fold whose every step replaces one part of a state replaces that part of it alone. -/
theorem foldl_frame {σ ξ α : Type} (upd : σ → ξ → σ) (hid : ∀ s, ∃ k, s = upd s k)
    (hcomp : ∀ s k k', upd (upd s k) k' = upd s k') (f : σ → α → σ) (h : ∀ s a, ∃ k, f s a = upd s k) (l : List α) (s : σ) :
    ∃ k, l.foldl f s = upd s k := by
  induction l generalizing s with
  | nil => exact hid s
  | cons a l ih =>
    obtain ⟨k, hk⟩ := h s a
    obtain ⟨k', hk'⟩ := ih (f s a)
    exact ⟨k', by rw [List.foldl_cons, hk', hk, hcomp]⟩

variable (s : State)

/-! ## The bus port's queue -/

theorem State.place_frame (n : Notice) : ∃ b, s.place n = { s with bus := b } := ⟨_, rfl⟩

theorem State.placeAgain_frame (q : Queued) : ∃ b, s.placeAgain q = { s with bus := b } := ⟨_, rfl⟩

theorem insertQueued_length (q : Queued) (l : List Queued) : (insertQueued q l).length = l.length + 1 := by
  induction l with
  | nil => rfl
  | cons a l ih => unfold insertQueued; split <;> simp [ih]

theorem dropOldest_length {c : Nat} {l l' : List Queued} (h : dropOldest c l = some l') : l'.length + 1 = l.length := by
  induction l generalizing l' with
  | nil => cases h
  | cons a l ih =>
    unfold dropOldest at h
    split at h
    · cases h; rfl
    · obtain ⟨m, hm, rfl⟩ := Option.map_eq_some_iff.mp h
      simp [ih hm]

theorem replaceIn_length {q : Queued} {l l' : List Queued} (h : replaceIn q l = some l') : l'.length = l.length := by
  induction l generalizing l' with
  | nil => cases h
  | cons a l ih =>
    unfold replaceIn at h
    split at h
    · cases h; rfl
    · obtain ⟨m, hm, rfl⟩ := Option.map_eq_some_iff.mp h
      simp [ih hm]

/-- A placed notice never takes a queue of at most 16 past 16 (R9). -/
theorem Bus.add_length (b : Bus) (q : Queued) (h : b.queue.length ≤ 16) : (b.add q).queue.length ≤ 16 := by
  unfold Bus.add queueMax
  split
  · simp only [insertQueued_length]; omega
  · split
    · exact h
    · rename_i l hl
      simp only [insertQueued_length]
      have := dropOldest_length hl
      omega

theorem Bus.replaceOrAdd_length (b : Bus) (q : Queued) (h : b.queue.length ≤ 16) : (b.replaceOrAdd q).queue.length ≤ 16 := by
  unfold Bus.replaceOrAdd
  split
  · rename_i l hl
    rw [show ({ b with queue := l } : Bus).queue = l from rfl, replaceIn_length hl]
    exact h
  · exact b.add_length q h

/-! ## The order book -/

theorem State.placeJobStatus_frame (id : OrderId) : ∃ b k, s.placeJobStatus id = { s with bus := b, book := k } := by
  unfold State.placeJobStatus
  split
  · exact ⟨_, _, rfl⟩
  · split <;> exact ⟨_, _, rfl⟩

theorem State.placeClaim_frame (id : OrderId) : ∃ b, s.placeClaim id = { s with bus := b } := by
  unfold State.placeClaim
  split
  · exact ⟨_, rfl⟩
  · dsimp only; split <;> exact ⟨_, rfl⟩

theorem State.retestJob_frame (id : OrderId) : ∃ b k, s.retestJob id = { s with bus := b, book := k } := by
  unfold State.retestJob
  split
  · exact ⟨_, _, rfl⟩
  · split
    · obtain ⟨b, k, h⟩ := State.placeJobStatus_frame (s.modEntry id (fun e => { e with st := .ownActive })) id
      exact ⟨b, k, h⟩
    · exact ⟨_, _, rfl⟩

theorem State.retestBlocked_frame : ∃ b k, s.retestBlocked = { s with bus := b, book := k } := by
  obtain ⟨k, h⟩ := foldl_frame (fun (s : State) (k : Bus × List OrderEntry) => { s with bus := k.1, book := k.2 })
    (fun s => ⟨(s.bus, s.book), rfl⟩) (fun _ _ _ => rfl) State.retestJob
    (fun s a => let ⟨b, k, h⟩ := s.retestJob_frame a; ⟨(b, k), h⟩)
    ((s.book.filter (fun e => e.st == .ownBlocked)).map OrderEntry.id) s
  exact ⟨k.1, k.2, h⟩

theorem State.tellCover_frame (before : List CoverItem) : ∃ b k, s.tellCover before = { s with bus := b, book := k } := by
  unfold State.tellCover
  split
  · exact ⟨_, _, rfl⟩
  · exact s.retestBlocked_frame

theorem State.withdrawPrompt_frame (id : OrderId) : ∃ g p, s.withdrawPrompt id = { s with seg := g, panel := p } := by
  unfold State.withdrawPrompt
  split <;> exact ⟨_, _, rfl⟩

theorem State.settleJob_frame (id : OrderId) (f : TinFate) :
    ∃ b k g p, s.settleJob id f = { s with bus := b, book := k, seg := g, panel := p } := by
  have status : ∀ t : State, (∃ b k g p, t = { s with bus := b, book := k, seg := g, panel := p }) →
      ∃ b k g p, t.placeJobStatus id = { s with bus := b, book := k, seg := g, panel := p } := by
    rintro t ⟨b, k, g, p, rfl⟩
    obtain ⟨b', k', h⟩ := State.placeJobStatus_frame { s with bus := b, book := k, seg := g, panel := p } id
    exact ⟨b', k', g, p, h⟩
  unfold State.settleJob
  split
  · exact ⟨_, _, _, _, rfl⟩
  · split
    · exact ⟨_, _, _, _, rfl⟩
    · split
      all_goals try exact ⟨_, _, _, _, rfl⟩
      all_goals split
      all_goals try split
      all_goals try exact ⟨_, _, _, _, rfl⟩
      all_goals apply status
      all_goals try exact ⟨_, _, _, _, rfl⟩
      all_goals
        obtain ⟨g, p, h⟩ := State.withdrawPrompt_frame (s.modEntry id (fun e => e.finish .ownFailed)) id
        exact ⟨_, _, g, p, h⟩

theorem State.resolveTin_frame (tin : TinId) (f : TinFate) :
    ∃ b k g p, s.resolveTin tin f = { s with bus := b, book := k, seg := g, panel := p } := by
  unfold State.resolveTin
  split
  · exact ⟨_, _, _, _, rfl⟩
  · rename_i e _
    obtain ⟨b, k, h⟩ := State.placeJobStatus_frame
      (s.modEntry e.id (fun e => { e with job := e.job.map (fun j => j.resolve tin f) })) e.id
    rw [h]
    obtain ⟨b', k', g, p, h'⟩ := State.settleJob_frame
      { s.modEntry e.id (fun e => { e with job := e.job.map (fun j => j.resolve tin f) }) with bus := b, book := k } e.id f
    exact ⟨b', k', g, p, h'⟩

/-- A report of this cell's own blocks changes the send queue, the order book and, where a job fails, the load
prompt and the label held for it (R67, R68). -/
theorem State.report_frame (m : TinReportMsg) :
    ∃ b k g p, s.report m = { s with bus := b, book := k, seg := g, panel := p } := by
  unfold State.report
  dsimp only
  split
  · obtain ⟨b, k, g, p, h⟩ := State.resolveTin_frame (s.place (.tinReport m)) m.tin (ReportResult.fate m.result)
    exact ⟨b, k, g, p, h⟩
  · exact ⟨_, _, _, _, rfl⟩

/-! ## Canisters and shots -/

theorem State.stirTest_frame (n : Nat) : ∃ c, s.stirTest n = { s with canisters := c } := by
  unfold State.stirTest
  split
  · exact ⟨_, rfl⟩
  · split
    · split
      · exact ⟨_, rfl⟩
      · split <;> exact ⟨_, rfl⟩
    · exact ⟨_, rfl⟩

theorem State.stirTestAll_frame : ∃ c, s.stirTestAll = { s with canisters := c } :=
  foldl_frame (fun (s : State) k => { s with canisters := k }) (fun _ => ⟨_, rfl⟩) (fun _ _ _ => rfl) State.stirTest
    (fun s n => s.stirTest_frame n) _ s

theorem State.holdEnd_frame (n : Nat) : ∃ c, s.holdEnd n = { s with canisters := c } := by
  unfold State.holdEnd
  dsimp only
  split
  · exact ⟨_, rfl⟩
  · split
    · split <;> exact ⟨_, rfl⟩
    · obtain ⟨c, h⟩ := (s.modCanister n Canister.takeLock).stirTest_frame n
      exact ⟨c, h⟩
    · exact ⟨_, rfl⟩

theorem State.dueTest_frame (n : Nat) : ∃ c, s.dueTest n = { s with canisters := c } := by
  unfold State.dueTest
  split
  · obtain ⟨c, h⟩ := (s.modStir n (fun r => { r with flag := true })).stirTest_frame n
    exact ⟨c, h⟩
  · exact ⟨_, rfl⟩

theorem State.dueTestAll_frame : ∃ c, s.dueTestAll = { s with canisters := c } :=
  foldl_frame (fun (s : State) k => { s with canisters := k }) (fun _ => ⟨_, rfl⟩) (fun _ _ _ => rfl) State.dueTest
    (fun s n => s.dueTest_frame n) _ s

theorem State.nextMove_frame (ch : Nat) : ∃ k, s.nextMove ch = { s with shots := k } := by
  unfold State.nextMove
  split
  · split
    · exact ⟨_, rfl⟩
    · split <;> exact ⟨_, rfl⟩
  · exact ⟨_, rfl⟩

theorem State.resumeMoves_frame : ∃ k, s.resumeMoves = { s with shots := k } := by
  refine foldl_frame (fun (s : State) k => { s with shots := k }) (fun _ => ⟨_, rfl⟩) (fun _ _ _ => rfl) State.resumeMove
    (fun s ch => ?_) _ s
  unfold State.resumeMove
  split
  · exact ⟨_, rfl⟩
  · split
    · exact s.nextMove_frame ch
    · exact ⟨_, rfl⟩

/-- A tin record changed at a slot changes the register alone. -/
theorem State.modTinAt_frame (n : Nat) (f : Tin → Tin) : ∃ g, s.modTinAt n f = { s with seg := g } := by
  unfold State.modTinAt
  split <;> exact ⟨_, rfl⟩

/-- An entry ended with a cause other than COMPLETE changes the shots, the register and the canisters (R132). -/
theorem State.abortEntry_frame (ch emitted : Nat) (st : PumpState) (g : Gray) :
    ∃ k r c, s.abortEntry ch emitted st g = { s with shots := k, seg := r, canisters := c } := by
  unfold State.abortEntry
  split
  · exact ⟨_, _, _, rfl⟩
  · rename_i e _
    split
    · exact ⟨_, _, _, rfl⟩
    · rename_i p _
      dsimp only
      obtain ⟨r, h⟩ := s.modTinAt_frame 2 (fun t => t.failEntry e.index emitted (emitted * (s.pumpCfg p.canister).d))
      rw [h]
      obtain ⟨c, h'⟩ := State.holdEnd_frame _ p.canister
      exact ⟨_, _, _, h'⟩

theorem State.stopEntries_frame : ∃ k r c, s.stopEntries = { s with shots := k, seg := r, canisters := c } := by
  obtain ⟨k, h⟩ := foldl_frame
    (fun (s : State) (k : Shots × Segment × List Canister) => { s with shots := k.1, seg := k.2.1, canisters := k.2.2 })
    (fun s => ⟨(s.shots, s.seg, s.canisters), rfl⟩) (fun _ _ _ => rfl) State.stopEntry
    (fun s ch => by
      unfold State.stopEntry
      split
      · exact ⟨((s.setChannel ch none).shots, s.seg, s.canisters), rfl⟩
      · rename_i n _
        obtain ⟨k, r, c, h⟩ := s.abortEntry_frame ch (s.emittedSoFar n) .idle (s.gray n)
        exact ⟨(k, r, c), h⟩)
    (List.range 4) s
  exact ⟨k.1, k.2.1, k.2.2, h⟩

/-! ## Bays, prompt and cap -/

theorem State.pressStart_frame : ∃ k, s.pressStart = { s with lids := k } := by
  unfold State.pressStart
  split
  · exact ⟨_, rfl⟩
  · split
    · split
      · split
        · unfold State.modMagazine; split <;> exact ⟨_, rfl⟩
        · unfold State.modMagazine; split <;> exact ⟨_, rfl⟩
      · exact ⟨_, rfl⟩
    · exact ⟨_, rfl⟩

theorem State.lidLook_frame : ∃ k, s.lidLook = { s with lids := k } := by
  unfold State.lidLook
  split
  · exact s.pressStart_frame
  · exact ⟨_, rfl⟩

theorem State.lidOnState_frame : ∃ k, s.lidOnState = { s with lids := k } := by
  unfold State.lidOnState
  split
  · split
    · exact s.pressStart_frame
    · exact s.pressStart_frame
    · exact ⟨_, rfl⟩
    · exact ⟨_, rfl⟩
  · exact ⟨_, rfl⟩

theorem State.shakerLook_frame : ∃ k, s.shakerLook = { s with shaker := k } := by
  unfold State.shakerLook
  split <;> first | exact ⟨_, rfl⟩ | (split <;> exact ⟨_, rfl⟩)

theorem State.shakerOnState_frame : ∃ k, s.shakerOnState = { s with shaker := k } := by
  unfold State.shakerOnState
  split
  · split <;> exact ⟨_, rfl⟩
  · exact s.shakerLook_frame

theorem State.judgePrompt_frame : ∃ g p, s.judgePrompt = { s with seg := g, panel := p } := by
  unfold State.judgePrompt
  split
  · split
    · unfold State.handLabel; split <;> exact ⟨_, _, rfl⟩
    · exact ⟨_, _, rfl⟩
  · exact ⟨_, _, rfl⟩
  · exact ⟨_, _, rfl⟩

theorem State.promptOnState_frame : ∃ g p, s.promptOnState = { s with seg := g, panel := p } := by
  unfold State.promptOnState
  split
  · exact s.judgePrompt_frame
  · split <;> exact ⟨_, _, rfl⟩

theorem State.capOpen_frame : ∃ d, s.capOpen = { s with dck := d } := by
  unfold State.capOpen
  split <;> exact ⟨_, rfl⟩

theorem State.capClose_frame : ∃ d, s.capClose = { s with dck := d } := by
  unfold State.capClose
  split <;> exact ⟨_, rfl⟩

theorem State.judgeCap_frame : ∃ d, s.judgeCap = { s with dck := d } := by
  unfold State.judgeCap
  split
  · exact s.capOpen_frame
  · exact ⟨_, rfl⟩

/-- A cap command leaves the cell state as it is. -/
theorem State.judgeCap_cell : s.judgeCap.dck.cell = s.dck.cell := by
  unfold State.judgeCap State.capOpen
  split
  · split <;> rfl
  · rfl

/-- A change of cell state reaches the shots, the canisters, the register's prompt and the panel, the lid unit, the
shaker and the day clock, and nothing else (log 22). -/
theorem State.enter_frame (c : CellState) :
    ∃ k n g p l h d, s.enter c =
      { s with shots := k, canisters := n, seg := g, panel := p, lids := l, shaker := h, dck := d } := by
  unfold State.enter
  obtain ⟨k, e1⟩ := State.resumeMoves_frame { s with dck := { s.dck with cell := c, idle := 0 } }
  rw [e1]
  obtain ⟨n, e2⟩ := State.stirTestAll_frame { s with dck := { s.dck with cell := c, idle := 0 }, shots := k }
  rw [e2]
  obtain ⟨g, p, e3⟩ := State.promptOnState_frame
    { s with dck := { s.dck with cell := c, idle := 0 }, shots := k, canisters := n }
  rw [e3]
  obtain ⟨l, e4⟩ := State.lidOnState_frame
    { s with dck := { s.dck with cell := c, idle := 0 }, shots := k, canisters := n, seg := g, panel := p }
  rw [e4]
  obtain ⟨h, e5⟩ := State.shakerOnState_frame
    { s with dck := { s.dck with cell := c, idle := 0 }, shots := k, canisters := n, seg := g, panel := p, lids := l }
  rw [e5]
  obtain ⟨d, e6⟩ := State.judgeCap_frame
    { s with dck := { s.dck with cell := c, idle := 0 }, shots := k, canisters := n, seg := g, panel := p, lids := l, shaker := h }
  exact ⟨k, n, g, p, l, h, d, e6⟩

/-- The cell state entered is the one that was named. -/
theorem State.enter_cell (c : CellState) : (s.enter c).dck.cell = c := by
  unfold State.enter
  rw [State.judgeCap_cell]
  obtain ⟨k, e1⟩ := State.resumeMoves_frame { s with dck := { s.dck with cell := c, idle := 0 } }
  rw [e1]
  obtain ⟨n, e2⟩ := State.stirTestAll_frame { s with dck := { s.dck with cell := c, idle := 0 }, shots := k }
  rw [e2]
  obtain ⟨g, p, e3⟩ := State.promptOnState_frame
    { s with dck := { s.dck with cell := c, idle := 0 }, shots := k, canisters := n }
  rw [e3]
  obtain ⟨l, e4⟩ := State.lidOnState_frame
    { s with dck := { s.dck with cell := c, idle := 0 }, shots := k, canisters := n, seg := g, panel := p }
  rw [e4]
  obtain ⟨h, e5⟩ := State.shakerOnState_frame
    { s with dck := { s.dck with cell := c, idle := 0 }, shots := k, canisters := n, seg := g, panel := p, lids := l }
  rw [e5]

/-! ## Consignment -/

theorem State.consignBurst_frame : ∃ b x, s.consignBurst = { s with bus := b, xfr := x } := by
  obtain ⟨k, h⟩ := foldl_frame (fun (s : State) (k : Bus × Transfer) => { s with bus := k.1, xfr := k.2 })
    (fun s => ⟨(s.bus, s.xfr), rfl⟩) (fun _ _ _ => rfl) State.repeatConsign (fun _ _ => ⟨(_, _), rfl⟩) s.xfr.inTransit s
  exact ⟨k.1, k.2, h⟩

theorem State.firstRead_frame : ∃ x, s.firstRead = { s with xfr := x } := by
  unfold State.firstRead
  split
  · exact ⟨_, rfl⟩
  · split
    · split <;> exact ⟨_, rfl⟩
    · exact ⟨_, rfl⟩

theorem State.openIntake_frame : ∃ x, s.openIntake = { s with xfr := x } := by
  unfold State.openIntake
  split
  · obtain ⟨x, h⟩ := (s.setIntake .opened).firstRead_frame
    exact ⟨x, h⟩
  · exact ⟨_, rfl⟩

theorem State.addItem_frame (m : ConsignMsg) : ∃ l, s.addItem m =
    { s with xfr := { s.xfr with expected := l }, dck := { s.dck with idle := 0 } } := ⟨_, rfl⟩

theorem State.replaceItem_frame (m : ConsignMsg) : ∃ x, s.replaceItem m = { s with xfr := x } := by
  unfold State.replaceItem
  split
  · exact ⟨_, rfl⟩
  · split
    · obtain ⟨x, h⟩ := State.openIntake_frame { s with xfr := { s.xfr with
        expected := s.xfr.expected.map (fun e => if e.msg.seq == m.seq then { msg := m, mark := consignMark m } else e) } }
      exact ⟨x, h⟩
    · exact ⟨_, rfl⟩

/-- A CONSIGN taken changes the transfer unit and the idle timer alone. -/
theorem State.takeConsign_frame (m : ConsignMsg) : ∃ x d, s.takeConsign m = { s with xfr := x, dck := { s.dck with idle := d } } := by
  unfold State.takeConsign
  split
  · exact ⟨s.xfr, s.dck.idle, rfl⟩
  · split
    · obtain ⟨l, h⟩ := s.addItem_frame m
      exact ⟨_, 0, h⟩
    · split
      · exact ⟨s.xfr, s.dck.idle, rfl⟩
      · obtain ⟨x, h⟩ := s.replaceItem_frame m
        exact ⟨x, s.dck.idle, h⟩

theorem State.takeStranger_frame : ∃ g d, s.takeStranger = { s with seg := g, dck := { s.dck with idle := d } } := by
  unfold State.takeStranger
  split
  · exact ⟨_, 0, rfl⟩
  · exact ⟨s.seg, s.dck.idle, rfl⟩

/-! ## Notices heard -/

/-- The refresh of an entry changes the station table, the order book and the send queue (R21, R65, R71). -/
theorem State.refresh_frame (n : Nat) (m : Option CellStatusMsg) :
    ∃ t b k, s.refresh n m = { s with stations := t, bus := b, book := k } := by
  have refreshed : ∃ t, s.refreshed n m = { s with stations := t } := by
    unfold State.refreshed; split <;> exact ⟨_, rfl⟩
  obtain ⟨t, h⟩ := refreshed
  unfold State.refresh
  rw [h]
  dsimp only
  split
  · exact ⟨_, _, _, rfl⟩
  · exact ⟨_, _, _, rfl⟩
  · obtain ⟨b, k, e⟩ := State.retestBlocked_frame { s with stations := t }
    exact ⟨_, b, k, e⟩
  · obtain ⟨b, k, e⟩ := State.retestBlocked_frame (State.restartRepeats { s with stations := t } n)
    exact ⟨_, b, k, e⟩

/-- A cell's notice that passes R12 is taken as it stands. -/
theorem State.hear_cell {k : Sender} {src : Nat} {ok : Bool} {take : State → State} (hl : s.listening = true)
    (hc : (k.allows src && src != s.self && ok) = true) (h : src < 16) : s.hear k src ok take = take s := by
  simp [State.hear, hl, hc, Nat.not_le.mpr h]

/-- A terminal's notice that passes R12 is taken after the refresh of its entry. -/
theorem State.hear_terminal {k : Sender} {src : Nat} {ok : Bool} {take : State → State} (hl : s.listening = true)
    (hc : (k.allows src && src != s.self && ok) = true) (h : 16 ≤ src) : s.hear k src ok take = take (s.refresh src none) := by
  simp [State.hear, hl, hc, h]

/-- A notice that fails R12 is counted, and nothing else. -/
theorem State.hear_bad {k : Sender} {src : Nat} {ok : Bool} {take : State → State} (hl : s.listening = true)
    (hc : (k.allows src && src != s.self && ok) = false) : s.hear k src ok take = s.rxError := by
  unfold State.hear
  rw [hc]
  simp [hl]

/-! ## Open jobs and the backlog -/

/-- The entries that are open own jobs (R51). -/
theorem OrderEntry.openJob_iff (e : OrderEntry) : e.openJob = true ↔ e.job ≠ none ∧
    (e.st = .ownPending ∨ e.st = .ownActive ∨ e.st = .ownBlocked ∨ e.st = .ownCancelling) := by
  rw [OrderEntry.openJob, Bool.and_eq_true, Option.isSome_iff_ne_none]
  cases e.st <;> simp [OrderState.isOpen]

/-- What an entry adds to the backlog (R56): nothing unless it is an open own job. -/
theorem OrderEntry.backlog_eq (e : OrderEntry) : (e.openJob = false → e.backlog = 0) ∧
    ∀ j, e.openJob = true → e.job = some j →
      e.backlog = e.perTin * ((e.tinCount + j.remakes - j.loaded) + (j.loaded - j.done - j.rejected - j.lost)) := by
  cases h : e.job with
  | none => simp [OrderEntry.backlog, h]
  | some j =>
    simp only [OrderEntry.backlog, OrderEntry.toLoad, Job.unresolved, h]
    exact ⟨fun o => by simp [o], fun j' o hj => by cases hj; simp [o]⟩

end Sys2Proof.Machine
end

