-- ==== Sys2Proof/Tests/Slice0.lean ====
section
/-! SUPPORT. Small tests: the well-formedness smoke, one step of each family on a small state, and for each statement a
state and operands that meet its hypotheses. Expected values are worked out by hand from the rules named. -/

namespace Sys2Proof.Tests

open Sys2Proof Sys2Proof.Machine

-- one theorem after another: the many kernel evaluations would otherwise hold a thread each
set_option Elab.async false

/-! ## Fixtures -/

def noCan : CanisterCfg := { colorant := 0, capacity := 0, dead := 0, lowMark := 0, interval := 0, duration := 0 }
def oneCan : CanisterCfg := { colorant := 7, capacity := 3500000, dead := 20000, lowMark := 300000, interval := 15, duration := 30 }
def onePump : PumpCfg :=
  { d := 400, strokeSteps := 6000, minShot := 3, tolerance := 4, startRate := 400, topRate := 3200, rampSteps := 800, stages := 4 }
def permitWindow : ImgWindow := { enable := .on, pattern := 0x4A00, mask := 0xFF00, permit := .on, lid := 3, shake := .normal }
def denyWindow : ImgWindow := { enable := .on, pattern := 0x4A17, mask := 0xFFFF, permit := .off, lid := 0, shake := .absent }
def offWindow : ImgWindow := { enable := .off, pattern := 0, mask := 0, permit := .off, lid := 0, shake := .absent }

/-- Two like canisters, 3 and 11, are fitted; the working window is 05:30 to 14:00. -/
def image : Image :=
  { openTime := { h := 5, m := 30, s := 0 }, closeTime := { h := 14, m := 0, s := 0 }
    windows := [denyWindow, permitWindow, offWindow, offWindow]
    canisters := (List.replicate 16 noCan).set 3 oneCan |>.set 11 oneCan
    pumps := List.replicate 16 onePump
    goodReads := 0, holdPeriod := 0, attempts := 0 }

def reading (i : Image) : ImageRead := { headerOk := true, bytes := [], crc := 0xFFFF, fields := i }

def stocked : Canister := { Canister.blank with stock := some { level := 1000000000, strength := 1000, batch := 5 } }

/-- Station 2 in RUN at 10:00:00 of day 3, canister 3 stocked, its pump full behind its outlet. -/
def cell : State :=
  { State.powerOn quietPins with
    cfg := { held := false, station := some 2, last := false, image := some image, fault := none }
    dck := { (State.powerOn quietPins).dck with cell := .run, cap := .opened, unset := false, moment := { day := 3, sec := 36000 } }
    canisters := (List.replicate 16 Canister.blank).set 3 stocked
    shots := { (State.powerOn quietPins).shots with
      pumps := (List.replicate 16 Pump.blank).set 3 { Pump.blank with valve := .outlet, content := 6000 } } }

def State.inState (s : State) (c : CellState) : State := { s with dck := { s.dck with cell := c } }
def State.withSlot (s : State) (n : Nat) (t : Tin) : State := s.setSlot n (some (.known t))

def ord : OrderId := { term := 16, serial := 9 }
def tinId : TinId := { cell := 2, serial := 1 }

/-- A tin of size 2 (1,000 ml) with one entry of 1,000,000 nl, which is 2,500 steps of pump 3 (R77). -/
def plan : Plan := { canister := 3, steps := 2500, strokes := [2500], emitted := 0 }
def entryIn (st : DoseState) : DoseEntry := { index := 1, colorant := 7, nominal := 1000000, st := st }
def tinIn (st : TinState) (entries : List DoseEntry) : Tin :=
  { id := tinId, order := ord, base := 0x4A01, size := 2, lid := 3, shake := some .normal, st := st, cause := none,
    entries := entries, deferral := [], dosed := [], total := 0, raised := false, omitted := false, mix := none }

def orderMsg : OrderMsg :=
  { id := ord, base := 0x4A01, size := 2, count := 3, priority := 1, formula := [{ colorant := 7, q := 1000 }], lengthOk := true }
def job : Job :=
  { claimedAt := 0, committed := false, duplicate := false, loaded := 0, done := 0, rejected := 0, lost := 0, remakes := 0,
    tins := [], repeatTime := 0 }
def entryOf (st : OrderState) (j : Option Job) : OrderEntry :=
  { id := ord, bookedAt := 0, st := st, order := some orderMsg, perTin := 41, reason := none, offers := [], ownEst := some 50,
    recorded := none, heard := none, timer := 0, retention := none, job := j }
def booked (s : State) (e : OrderEntry) : State := { s with book := [e] }

def status (n : Nat) : CellStatusMsg :=
  { State.statusMsg cell with station := n }
def peerOf (n : Nat) (p : Presence) (m : Option CellStatusMsg) : Station := { number := n, presence := p, age := 0, status := m }

def consignOf (q : Nat) : ConsignMsg :=
  { seq := q, tin := { cell := 1, serial := q }, order := ord, base := 0x4A01, size := 2, lid := 3, shake := some .normal, total := 0,
    status := .deferred, raised := false, omitted := false, dosed := [],
    deferral := [{ colorant := 7, nominal := 1000000, index := 1, station := 1 }] }
def expects (s : State) (l : List Nat) : State :=
  { s with xfr := { s.xfr with expected := l.map (fun q => { msg := consignOf q, mark := none }) } }
def gated (s : State) (i : Intake) : State := s.setIntake i

def Q (n : Notice) : Queued := n.queued
def queued (s : State) (l : List Queued) : State := { s with bus := { s.bus with queue := l } }
def sendingQ (n : Notice) : Queued := { n.queued with sending := true }

/-- The state after a command, and what holds of it. -/
def after (c : Instr) (s : State) (p : State → Bool) : Bool :=
  match exec c s with
  | .next t => p t
  | .fault _ | .refused _ => false

/-! ## Well-formedness: for each check a term it refuses -/

def badOrd : OrderId := { term := 256, serial := 0 }
def badTin : TinId := { cell := 1, serial := 65536 }
def badSample : Sample := { quietSample with enc := [] }
def badTime : HMS := { h := 256, m := 0, s := 0 }

theorem wf_takes_fixtures : ([.order 16 orderMsg, .consign 1 (consignOf 1) none, .cellStatus 1 (status 1) none,
    .startingEnd (reading image) quietSample, .confirm quietSample, .loaded quietSample] : List Instr).all Instr.wf = true := by
  decide +kernel
theorem wf_refuses_order_id : OrderId.wf badOrd = false ∧ OrderId.wf { term := 255, serial := 65536 } = false := by decide
theorem wf_refuses_tin_id : TinId.wf badTin = false ∧ TinId.wf { cell := 256, serial := 1 } = false := by decide
theorem wf_refuses_formula_item :
    FormulaItem.wf { colorant := 256, q := 1 } = false ∧ FormulaItem.wf { colorant := 1, q := 16777216 } = false := by decide
theorem wf_refuses_order_msg : OrderMsg.wf { orderMsg with id := badOrd } = false ∧ OrderMsg.wf { orderMsg with size := 256 } = false ∧
    OrderMsg.wf { orderMsg with count := 256 } = false ∧ OrderMsg.wf { orderMsg with priority := 256 } = false ∧
    OrderMsg.wf { orderMsg with formula := List.replicate 58 default } = false ∧
    OrderMsg.wf { orderMsg with formula := [{ colorant := 256, q := 1 }] } = false := by decide +kernel
def js : JobStatusMsg :=
  { id := ord, claimant := 3, state := .active, ordered := 3, done := 0, rejected := 0, lost := 0, remakes := 0, duplicate := false,
    reason := none }
theorem wf_refuses_job_status : JobStatusMsg.wf js = true ∧ JobStatusMsg.wf { js with id := badOrd } = false ∧
    JobStatusMsg.wf { js with claimant := 256 } = false ∧ JobStatusMsg.wf { js with ordered := 256 } = false ∧
    JobStatusMsg.wf { js with done := 256 } = false ∧ JobStatusMsg.wf { js with rejected := 256 } = false ∧
    JobStatusMsg.wf { js with lost := 256 } = false ∧ JobStatusMsg.wf { js with remakes := 256 } = false := by decide
theorem wf_refuses_cover_item : CoverItem.wf { canister := 256, colorant := 1, cls := .ok, usable := true } = false ∧
    CoverItem.wf { canister := 1, colorant := 256, cls := .ok, usable := true } = false := by decide
theorem wf_refuses_window : Window.wf { (default : Window) with lid := 256 } = false := by decide
theorem wf_refuses_change_rec : ChangeRec.wf { input := 0, asserted := true, time := 0 } = false ∧
    ChangeRec.wf { input := 8, asserted := true, time := 0 } = false ∧ ChangeRec.wf { input := 1, asserted := true, time := 86400 } = false := by
  decide
theorem wf_refuses_cell_status : CellStatusMsg.wf { status 1 with station := 256 } = false ∧
    CellStatusMsg.wf { status 1 with restartedCount := 256 } = false ∧
    CellStatusMsg.wf { status 1 with cover := [{ canister := 256, colorant := 1, cls := .ok, usable := true }] } = false ∧
    CellStatusMsg.wf { status 1 with windows := [] } = false ∧
    CellStatusMsg.wf { status 1 with windows := List.replicate 4 { (default : Window) with lid := 256 } } = false ∧
    CellStatusMsg.wf { status 1 with pointer := 65536 } = false ∧ CellStatusMsg.wf { status 1 with backlog := 65536 } = false ∧
    CellStatusMsg.wf { status 1 with lidWaitSize := 256 } = false ∧
    CellStatusMsg.wf { status 1 with attention := [{ input := 0, asserted := true, time := 0 }] } = false ∧
    CellStatusMsg.wf { status 1 with rxErrors := 256 } = false ∧ CellStatusMsg.wf { status 1 with sendDrops := 256 } = false := by
  decide +kernel
theorem wf_refuses_dosed_item : DosedItem.wf { colorant := 256, delivered := 0, station := 1 } = false ∧
    DosedItem.wf { colorant := 1, delivered := 4294967296, station := 1 } = false ∧
    DosedItem.wf { colorant := 1, delivered := 0, station := 256 } = false := by decide
theorem wf_refuses_defer_item : DeferItem.wf { colorant := 256, nominal := 0, index := 1, station := 1 } = false ∧
    DeferItem.wf { colorant := 1, nominal := 4294967296, index := 1, station := 1 } = false ∧
    DeferItem.wf { colorant := 1, nominal := 0, index := 256, station := 1 } = false ∧
    DeferItem.wf { colorant := 1, nominal := 0, index := 1, station := 256 } = false := by decide
theorem wf_refuses_consign : ConsignMsg.wf { consignOf 1 with seq := 65536 } = false ∧
    ConsignMsg.wf { consignOf 1 with tin := badTin } = false ∧ ConsignMsg.wf { consignOf 1 with order := badOrd } = false ∧
    ConsignMsg.wf { consignOf 1 with size := 256 } = false ∧ ConsignMsg.wf { consignOf 1 with lid := 256 } = false ∧
    ConsignMsg.wf { consignOf 1 with total := 4294967296 } = false ∧
    ConsignMsg.wf { consignOf 1 with dosed := [{ colorant := 256, delivered := 0, station := 1 }] } = false ∧
    ConsignMsg.wf { consignOf 1 with deferral := [{ colorant := 256, nominal := 0, index := 1, station := 1 }] } = false := by decide
def tr : TinReportMsg :=
  { tin := tinId, order := ord, result := .done, cause := none, station := 3, total := 0, raised := false, omitted := false }
theorem wf_refuses_tin_report : TinReportMsg.wf tr = true ∧ TinReportMsg.wf { tr with tin := badTin } = false ∧
    TinReportMsg.wf { tr with order := badOrd } = false ∧ TinReportMsg.wf { tr with station := 256 } = false ∧
    TinReportMsg.wf { tr with total := 4294967296 } = false := by decide
def sr : StockReplyMsg := { canister := 3, action := .lock, outcome := .accepted, code := none, cls := .ok, overfill := 0 }
theorem wf_refuses_stock_reply : StockReplyMsg.wf { sr with canister := 256 } = false ∧
    StockReplyMsg.wf { sr with overfill := 4294967296 } = false := by decide
theorem wf_refuses_sample : Sample.wf badSample = false ∧ Sample.wf { quietSample with tag := some badTin } = false := by decide
theorem wf_refuses_time : HMS.wf badTime = false ∧ HMS.wf { h := 0, m := 256, s := 0 } = false ∧ HMS.wf { h := 0, m := 0, s := 256 } = false := by
  decide
theorem wf_refuses_image : Image.wf { image with windows := [] } = false ∧ Image.wf { image with canisters := [] } = false ∧
    Image.wf { image with pumps := [] } = false := by decide +kernel

/-- A notice of a station that five bits do not hold is refused for every kind. -/
theorem wf_refuses_sender : ([.order 32 orderMsg, .cancel 32 ord, .offer 32 ord 0, .claim 32 ord 0 true, .withdraw 32 ord, .jobStatus 32 js,
    .cellStatus 32 (status 1) none, .consign 32 (consignOf 1) none, .tinReport 32 tr, .stockRefill 32 1 1 1 1 1,
    .stockSetLevel 32 1 1 1 1 1, .stockLock 32 1 1, .stockRelease 32 1 1 0, .stockReply 32 sr, .lidLoad 32 1 1 1 1 true,
    .clock 32 default 0 quietSample, .pause 32, .resume 32 quietSample, .restart 32 1 quietSample, .entryStale 32, .entryGone 32,
    .entryFreed 32] : List Instr).all (fun i => !i.wf) = true := by decide +kernel

/-- A command whose operand is itself ill-formed is refused. -/
theorem wf_refuses_operands : ([.powerOn default { quietPins with sample := badSample }, .startingEnd (reading { image with pumps := [] }) quietSample,
    .startingEnd (reading image) badSample, .frameDiscarded { (default : RawFrame) with body := List.replicate 256 0 },
    .order 16 { orderMsg with size := 256 }, .cancel 16 badOrd, .offer 1 badOrd 0, .offer 1 ord 65536, .claim 1 badOrd 0 true,
    .claim 1 ord 65536 true, .withdraw 1 badOrd, .jobStatus 1 { js with done := 256 }, .cellStatus 1 { status 1 with windows := [] } none,
    .cellStatus 1 (status 1) (some badTin), .consign 1 { consignOf 1 with seq := 65536 } none, .consign 1 (consignOf 1) (some badTin),
    .tinReport 1 { tr with station := 256 }, .stockReply 1 { sr with canister := 256 }, .clock 16 badTime 0 quietSample,
    .clock 16 default 65536 quietSample, .clock 16 default 0 badSample, .resume 16 badSample, .restart 16 256 quietSample,
    .restart 16 1 badSample, .clockAdvance badSample, .capMoveEnd badSample, .emergencyStop badSample, .loaded badSample,
    .confirm badSample, .offerWindowEnd badOrd, .claimSettleEnd badOrd, .claimWaitEnd badOrd, .loadGate badSample, .tinOverdue badTin,
    .jobStatusRepeat badOrd, .retentionEnd badOrd, .indexComplete badSample, .consignRepeat 65536, .tinArrival (some badTin),
    .holdRead (some badTin)] : List Instr).all (fun i => !i.wf) = true := by decide +kernel

/-- The fields of STOCK and LID LOAD, each one step past what its bytes hold. -/
theorem wf_refuses_stock_and_lids : ([.stockRefill 16 256 1 1 1 1, .stockRefill 16 1 256 1 1 1, .stockRefill 16 1 1 4294967296 1 1,
    .stockRefill 16 1 1 1 65536 1, .stockRefill 16 1 1 1 1 65536, .stockSetLevel 16 256 1 1 1 1, .stockSetLevel 16 1 256 1 1 1,
    .stockSetLevel 16 1 1 4294967296 1 1, .stockSetLevel 16 1 1 1 65536 1, .stockSetLevel 16 1 1 1 1 65536, .stockLock 16 256 1,
    .stockLock 16 1 256, .stockRelease 16 256 1 0, .stockRelease 16 1 256 0, .lidLoad 16 256 1 1 1 true, .lidLoad 16 1 256 1 1 true,
    .lidLoad 16 1 1 256 1 true, .lidLoad 16 1 1 1 256 true, .lidLoadEntry 256 1 1 true, .lidLoadEntry 1 256 1 true,
    .lidLoadEntry 1 1 256 true] : List Instr).all (fun i => !i.wf) = true := by decide +kernel

/-! ## Witnesses: start-up and the bus

Each witness theorem shows concrete values that meet the premises of one statement, clause by clause; a premise that only
gives a name to its right side is met by taking that side. -/

def held : State := { cell with cfg := { cell.cfg with held := true } }
def loadedCell : State := State.withSlot cell 0 (tinIn .pass [])

theorem witness_StepRunsFrontCommand : { cell with pending := [.quietGap] }.pending = .quietGap :: [] := rfl

theorem witness_EmptyQueueStep : (cell.pending = [] ∧ cell.Live) ∧ loadedCell.ownStep = some .indexCommand ∧ cell.ownStep = none ∧
    (cell.buildsStatus = true ∧ 249 ≤ { cell with bus := { cell.bus with period := 249 } }.bus.period) ∧
    { cell with stations := [{ peerOf 3 .present none with age := 999 }] }.ownStep = none ∧
    { cell with dck := { cell.dck with sub := 999 } }.ownStep = none ∧
    (booked cell { entryOf .new none with timer := 399 }).ownStep = none ∧
    { cell with seg := { cell.seg with index := .running .lane false 2999 } }.ownStep = none ∧
    (cell.setBay (.pressing 3999)).ownStep = none := by
  unfold State.Live; decide +kernel

theorem witness_EveryCommandAnswersNext : exec .quietGap cell = .next cell ∧ Instr.quietGap ≠ .resetAsserted ∧
    cell.dck.cell ≠ .starting := ⟨rfl, by decide, by decide⟩

theorem witness_ResetHoldsThePart : held.cfg.held = true ∧ Instr.quietGap ≠ .resetAsserted := ⟨rfl, by decide⟩

theorem witness_PowerOnReadsStraps : (1 ≤ (1 : BitVec 4).toNat ∧ (1 : BitVec 4).toNat ≤ 12) ∧ (1 ≤ (12 : BitVec 4).toNat ∧
    (12 : BitVec 4).toNat ≤ 12) ∧ (0 : BitVec 4).toNat = 0 ∧ 13 ≤ (13 : BitVec 4).toNat := by decide

def badWindow (n : Nat) : Image := { image with windows := image.windows.set n { permitWindow with lid := 0 } }
def badCan (n : Nat) : Image := { image with canisters := image.canisters.set n { oneCan with interval := 0 } }
def badPump (n : Nat) : Image := { image with pumps := image.pumps.set n { onePump with tolerance := 32 } }

def badTime1 (i : Image) : Image := { i with openTime := { h := 24, m := 0, s := 0 } }
def badIntake (i : Image) : Image := { i with goodReads := 9 }

/-- R203, checks 1 to 7: a code and the lowest index, at the first and the last place, and the earlier of two failing
checks. -/
theorem witness_ImageCheckFirstFailure : (reading image).fields.wf = true ∧ checkImage (reading image) = none ∧
    { reading image with headerOk := false }.headerOk = false ∧
    checkImage (reading (badTime1 (badWindow 0))) = some { code := .workWindow, item := none } ∧
    checkImage (reading (badIntake { badWindow 3 with canisters := (badCan 0).canisters })) =
      some { code := .baseWindow, item := some 3 } ∧
    checkImage (reading (badIntake { badCan 15 with pumps := (badPump 3).pumps })) = some { code := .canister, item := some 15 } ∧
    checkImage (reading (badIntake (badPump 3))) = some { code := .pump, item := some 3 } ∧
    checkImage (reading (badIntake image)) = some { code := .intake, item := none } ∧
    checkImage (reading { image with goodReads := 8, holdPeriod := 30, attempts := 8 }) = none ∧
    crc16 (byteBits (reading image).bytes) ≠ { reading image with crc := 0 }.crc ∧
    checkImage (reading (badWindow 0)) = some { code := .baseWindow, item := some 0 } ∧
    checkImage (reading (badWindow 3)) = some { code := .baseWindow, item := some 3 } ∧
    checkImage (reading (badCan 0)) = some { code := .canister, item := some 0 } ∧
    checkImage (reading (badCan 15)) = some { code := .canister, item := some 15 } ∧
    checkImage (reading (badPump 3)) = some { code := .pump, item := some 3 } ∧
    checkImage (reading (badPump 11)) = some { code := .pump, item := some 11 } := by decide +kernel

theorem witness_StartingEnds : State.reset.Live ∧ State.reset.dck.cell = .starting ∧ State.reset.dck.halt = false ∧
    State.reset.bus.queue = [] ∧ checkImage { reading image with headerOk := false } = some { code := .format, item := none } ∧
    checkImage (reading image) = none ∧ (reading image).fields.wf = true ∧ quietSample.laneHead = false ∧
    State.reset.pins.estop = false ∧ State.reset.dck.pause = false ∧ State.reset.dck.cap = .stopped ∧
    { State.reset with pins := { quietPins with estop := true } }.pins.estop = true ∧
    { State.reset with dck := { State.reset.dck with pause := true } }.dck.pause = true := by
  unfold State.Live; decide +kernel

def lane (s : State) : State := { s with xfr := { s.xfr with release := 1, inTransit := [{ seq := 1, tin := { tinIn .pass [] with id := { cell := 1, serial := 4 } }, time := 250 }] } }

/-- The entry of the tin at slot 2 holds channel 0 and drives pump 3. -/
def dosing (st : PumpState) : State :=
  { (State.withSlot cell 2 (tinIn .dosing [entryIn (.active plan)])) with
    shots := { cell.shots with
      channels := [some 1, none, none, none]
      pumps := cell.shots.pumps.set 3 { cell.pump 3 with st := st, steps := 2500, target := .outlet } }
    canisters := cell.canisters.set 3 { stocked with reserved := 1000000 } }

theorem witness_RestartClearsRecords : cell.Hears .terminal 16 ∧ cell.inService = true ∧ 2 = cell.self ∧ cell.QueueBound ∧
    cell.seg.slots.length = 8 ∧ cell.xfr.inTransit.length ≤ 3 ∧
    ((lane (dosing .stroking)).Hears .terminal 16 ∧ (lane (dosing .stroking)).inService = true ∧ (lane (dosing .stroking)).QueueBound ∧
      (lane (dosing .stroking)).seg.slots.length = 8 ∧ (lane (dosing .stroking)).xfr.inTransit.length ≤ 3 ∧
      (lane (dosing .stroking)).heldCanister 0 = some 3 ∧ (∀ ch < 4, (dosing .stroking).heldCanister ch ≠ some 11) ∧
      ∃ a ∈ (lane (dosing .stroking)).tinTable, a.id.cell ≠ (dosing .stroking).self) ∧
    { quietSample with shakerTin := true }.shakerTin = true ∧ quietSample.shakerTin = false ∧
    ((∀ e ∈ cell.book, e.st ≠ .ownBlocked) ∧ cell.bus.queue.length + cell.book.length ≤ 16 ∧
      { cell with stations := [peerOf 16 .present none] }.peer 16 = some (peerOf 16 .present none)) := by
  unfold State.Hears State.QueueBound; decide +kernel

theorem witness_UnaddressedNoticesAreLeft : cell.Live ∧ cell.listening = true ∧ Sender.terminal.allows 15 = false ∧
    Sender.terminal.allows 31 = false ∧ Sender.cell.allows 13 = false ∧ Sender.cell.allows 0 = false ∧
    Sender.either.allows 13 = false ∧ Sender.either.allows 15 = false ∧ Sender.either.allows 31 = false ∧ 2 = cell.self ∧ cell.Hears .terminal 30 ∧ 1 ≠ cell.self ∧
    1 ≠ 31 ∧ cell.Hears .cell 1 ∧ cell.Hears .cell 12 ∧ tr.tin.cell ≠ 3 ∧
    { tr with tin := { cell := 3, serial := 1 } }.tin.cell ≠ cell.self ∧ 12 + 1 ≠ cell.self ∧ consignOk (consignOf 1) = true := by
  unfold State.Hears State.Live; decide +kernel

def offerN : Notice := .offer ord 50
def qSend : State := queued cell [sendingQ offerN]

theorem witness_FramesSentLostAbandoned : cell.Live ∧
    ((queued cell [Q offerN]).bus.queue = Q offerN :: [] ∧ (∀ a ∈ [Q offerN], a.sending = false) ∧ cell.dck.cell ≠ .starting) ∧
    cell.bus.queue = [] ∧ State.reset.dck.cell = .starting ∧ (∃ a ∈ qSend.bus.queue, a.sending = true) ∧
    (qSend.bus.queue = [] ++ sendingQ offerN :: [] ∧ (sendingQ offerN).sending = true ∧ (sendingQ offerN).final = false ∧
      (sendingQ offerN).attempts < 7) ∧
    { sendingQ offerN with attempts := 6 }.attempts < 7 ∧ 7 ≤ { sendingQ offerN with attempts := 7 }.attempts ∧
    { sendingQ offerN with final := true }.final = true := by
  unfold State.Live; decide +kernel

theorem witness_CompletedFrameLeavesQueue : cell.Live ∧
    (queued cell [sendingQ (.consign (consignOf 4)), Q offerN]).bus.queue = [] ++ sendingQ (.consign (consignOf 4)) :: [Q offerN] ∧
    (∀ a ∈ [] ++ [Q offerN], a.sending = false) ∧ (sendingQ (.cellStatus (status 2))).notice = .cellStatus (status 2) ∧
    (status 2).restarted = true := by
  unfold State.Live; decide +kernel

/-- CANCEL of terminal 16 for order 16/9 (R1, R16), and an ORDER whose count of entries asks for four bytes more. -/
def cancelFrame : RawFrame :=
  { cls := 2, sender := 16, kind := 2, len := 3, body := [16, 0, 9], crc := crc16 (coveredBits 2 16 2 3 [16, 0, 9]), whole := true }
def shortOrder : RawFrame :=
  { cls := 2, sender := 16, kind := 1, len := 3, body := [16, 0, 9], crc := crc16 (coveredBits 2 16 1 3 [16, 0, 9]), whole := true }
def longFrame : RawFrame := { cancelFrame with len := 241, body := List.replicate 241 0 }

theorem witness_FrameChecks : cell.Live ∧ cell.listening = true ∧ 240 < longFrame.len.toNat ∧
    { cancelFrame with whole := false }.whole = false ∧
    crc16 (coveredBits 2 16 2 3 [16, 0, 9]) ≠ { cancelFrame with crc := cancelFrame.crc ^^^ 1 }.crc ∧
    kindRow { cancelFrame with kind := 7 }.kind.toNat = none ∧ { cancelFrame with sender := 2 }.sender.toNat = cell.self ∧
    kindRow cancelFrame.kind.toNat = some (2, .terminal) ∧ { cancelFrame with cls := 1 }.cls.toNat ≠ 2 ∧
    Sender.terminal.allows { cancelFrame with sender := 31 }.sender.toNat = false ∧
    (lengthOk 2 16 [16, 0] = false ∧ (2 : Byte) ≠ 0x01) ∧ (lengthOk 1 16 [16, 0] = false ∧ [16, (0 : Byte)].length < 3) ∧
    (RawFrame.bad shortOrder = false ∧ RawFrame.fits shortOrder cell.self = true ∧ shortOrder.kind = 0x01 ∧ 3 ≤ shortOrder.body.length) ∧
    ((status 2).station = 2 ∧ (status 2).cover.length ≤ 16 ∧ (status 2).windows.length = 4 ∧ (status 2).attention.length ≤ 2) ∧
    (consignOf 1).dosed.length + (consignOf 1).deferral.length ≤ 12 := by
  unfold State.Live; decide +kernel

def fullQueue : State := queued cell (List.replicate 15 (Q offerN) ++ [Q (.cellStatus (status 2))])

theorem witness_PlacedNoticeKeepsOrder : cell.QueueBound ∧ cell.bus.queue.length < 16 ∧ fullQueue.QueueBound ∧
    (fullQueue.bus.queue = List.replicate 15 (Q offerN) ++ Q (.cellStatus (status 2)) :: [] ∧ fullQueue.bus.queue.length = 16 ∧
      (∀ b ∈ List.replicate 15 (Q offerN), b.sending = true ∨ b.notice.cls ≠ (Q (.cellStatus (status 2))).notice.cls) ∧
      (∀ b ∈ List.replicate 15 (Q offerN) ++ [], b.sending = true ∨ b.notice.cls ≤ (Q (.cellStatus (status 2))).notice.cls) ∧
      offerN.cls ≤ (Q (.cellStatus (status 2))).notice.cls) ∧
    ((queued cell (List.replicate 16 (Q offerN))).QueueBound ∧
      ∀ b ∈ List.replicate 16 (Q offerN), b.sending = true ∨ b.notice.cls < (Notice.cellStatus (status 2)).cls) := by
  unfold State.QueueBound; decide +kernel

theorem witness_StatusPeriodBuildsStatus : cell.Live ∧ cell.listening = true ∧ cell.dck.cell ≠ .starting ∧
    ((∀ a ∈ cell.bus.queue, a.sending = true ∨ ∀ o, a.notice ≠ .cellStatus o) ∧ cell.bus.queue.length < 16) ∧
    (cell.setBay (.lidWait false)).lids.bay = .lidWait false ∧
    (State.withSlot cell 4 (tinIn .finishing [])).tinAt 4 = some (tinIn .finishing []) ∧
    (queued cell [Q offerN, Q (.cellStatus (status 2))]).bus.queue = [Q offerN] ++ Q (.cellStatus (status 2)) :: [] ∧
    (∀ o, (Q offerN).notice ≠ .cellStatus o) :=
  ⟨by unfold State.Live; decide +kernel, by decide, by decide, ⟨fun a h => (List.not_mem_nil (show a ∈ ([] : List Queued) from h)).elim, by decide⟩, by decide, by decide +kernel, rfl,
    fun _ h => Notice.noConfusion h⟩

theorem witness_EntriesAgeOut : cell.Live ∧ { cell with stations := [peerOf 1 .present none] }.peer 1 = some (peerOf 1 .present none) ∧
    { cell with stations := [peerOf 3 .stale none] }.peer 3 = some (peerOf 3 .stale none) ∧ 3 = cell.downstream ∧
    { cell with stations := [peerOf 1 .gone none] }.peer 1 = some (peerOf 1 .gone none) ∧ 1 + 1 = cell.self ∧
    ((booked cell (entryOf .ownBlocked (some job))).book.map OrderEntry.id).Nodup ∧
    (booked cell (entryOf .ownBlocked (some job))).bus.queue.length + 1 ≤ 16 := by
  unfold State.Live; decide +kernel

theorem witness_CellStatusRefreshesEntry : cell.Hears .cell 4 ∧ 16 < { status 4 with cover := List.replicate 17 default }.cover.length ∧
    2 < { status 4 with attention := List.replicate 3 default }.attention.length ∧ (status 3).station ≠ 4 ∧
    ((status 4).cover.length ≤ 16 ∧ (status 4).attention.length ≤ 2 ∧ (status 4).station = 4) ∧
    (4 + 1 ≠ cell.self ∧ 4 ≠ cell.self + 1 ∧ (cell.book.map OrderEntry.id).Nodup) := by
  unfold State.Hears; decide +kernel

/-! ## Witnesses: the day clock -/

theorem witness_MomentsAndWindow : ({ day := 65535, sec := 86399 } : Moment).day < 65536 ∧ ({ day := 65535, sec := 86399 } : Moment).sec < 86400 ∧
    0 = (65535 + 1) % 65536 ∧ 32767 = (0 + 32767) % 65536 ∧ 32768 = (0 + 32768) % 65536 ∧
    { cell with dck := { cell.dck with unset := true } }.dck.unset = true ∧ (cell.cfg.image = some image ∧ cell.dck.unset = false ∧
      secsOf image.openTime < secsOf image.closeTime) ∧ secsOf { h := 5, m := 0, s := 0 } < secsOf { h := 22, m := 0, s := 0 } ∧
    cell.inside = true ∧ { cell with dck := { cell.dck with moment := { day := 3, sec := 50400 } } }.inside = false := by decide +kernel

def night : State := { State.inState cell .night with dck := { (State.inState cell .night).dck with moment := { day := 3, sec := 80000 } } }
def capped : State := { State.inState night .capped with dck := { (State.inState night .capped).dck with cap := .closed } }

theorem witness_ClockMoves : cell.Hears .terminal 16 ∧ 23 < 24 ∧ 59 < 60 ∧ cell.dck.cell = .run ∧
    (night.Hears .terminal 16 ∧ night.dck.cell = .night ∧ night.inside = false) ∧ (capped.dck.cell = .capped ∧ capped.dck.cap = .closed) ∧
    (cell.fitted 3 = some oneCan ∧ cell.canisters.length = 16 ∧ (cell.canister 3).stir.st = .idle ∧ (cell.canister 3).stir.flag = false ∧
      (cell.canister 3).stir.due.day < 65536) ∧
    (cell.Live ∧ cell.dck.moment.sec < 86399 ∧ Moment.reached cell.dck.moment (cell.canister 3).stir.due = true ∧
      cell.canisterHeld 3 = false ∧ cell.working = true) ∧
    ({ cell with dck := { cell.dck with moment := { day := 3, sec := 86399 } } }.dck.moment.sec = 86399) ∧
    (State.inState cell .paused).working = false := by
  unfold State.Hears State.Live; decide +kernel

theorem witness_PauseAndResume : cell.Hears .terminal 16 ∧ cell.dck.cell = .run ∧ night.dck.cell = .night ∧ capped.dck.cell = .capped ∧
    cell.seg.prompt.isRequested = false ∧ (State.inState cell .jammed).dck.cell = .jammed ∧
    ((State.inState cell .paused).Hears .terminal 16 ∧ (State.inState cell .paused).dck.cell = .paused ∧ (State.inState cell .paused).dck.cap = .opened) ∧
    (State.inState capped .paused).dck.cap = .closed ∧ (State.inState capped .paused).inside = false ∧
    (State.inState capped .paused).localAt2 = false := by
  unfold State.Hears; decide +kernel

def withCap (s : State) (c : CapPos) (k : Option CapEnd) : State := { s with dck := { s.dck with cap := c, kept := k } }

theorem witness_CapMoves : night.Live ∧ (night.dck.cell = .night ∧ night.idleTest = true ∧ night.dck.cap = .opened ∧ night.inside = false) ∧
    cell.dck.cell ≠ .night ∧ ((withCap capped .closing none).dck.cap = .closing ∧ (withCap capped .closing none).dck.kept = none) ∧
    (withCap capped .closing (some .opened)).dck.kept = some .opened ∧ (withCap capped .opening (some .closed)).dck.kept = some .closed ∧
    ((withCap capped .opening none).dck.cap = .opening ∧ (withCap capped .opening none).dck.cell = .capped) ∧
    (State.inState (withCap capped .opening none) .paused).dck.cell ≠ .capped ∧ cell.dck.cap = .opened := by
  unfold State.Live; decide +kernel

theorem witness_EmergencyStopHaltsMotion : cell.Live ∧ State.reset.dck.cell = .starting ∧ (State.inState cell .halted).dck.cell = .halted ∧
    ((dosing .stroking).inService = true ∧ (dosing .stroking).dck.cell ≠ .halted ∧ (dosing .stroking).heldCanister 0 = some 3 ∧
      3 < (dosing .stroking).shots.pumps.length ∧ 3 < (dosing .stroking).canisters.length) ∧
    ((dosing .switching).pump 3).st = .switching ∧ (dosing .stroking).seg.index.isRunning = false ∧
    (cell.tinAt 2 = none ∧ (∀ ch < 4, (State.withSlot cell 2 (tinIn .dosing [entryIn (.toDose plan)])).heldCanister ch = none) ∧
      (tinIn .dosing [entryIn (.toDose plan)]).hasLocal = true ∧ (tinIn .dosing [entryIn (.toDose plan)]).cause = none) ∧
    ((dosing .stroking).tinAt 2 = some (tinIn .dosing [entryIn (.active plan)]) ∧ (dosing .stroking).channel 0 = some 1 ∧
      (tinIn .dosing [entryIn (.active plan)]).entry 1 = some (entryIn (.active plan)) ∧
      (dosing .stroking).heldEntry 0 = some (entryIn (.active plan)) ∧ (∀ ch < 4, (dosing .stroking).channel ch ≠ some 2) ∧
      ∀ ch < 4, 0 < ch → (dosing .stroking).heldCanister ch = none) := by
  unfold State.Live; decide +kernel

theorem witness_ConfirmLeavesHalted : cell.Live ∧
    ((State.inState cell .halted).dck.cell = .halted ∧ (State.inState cell .halted).pins.estop = false ∧ (State.inState cell .halted).dck.jam = false ∧
      (State.inState cell .halted).dck.pause = false ∧ (State.inState cell .halted).dck.cap = .opened) ∧
    { State.inState cell .halted with pins := { quietPins with estop := true } }.pins.estop = true ∧
    cell.dck.cell = .run ∧ State.reset.dck.cell = .starting := by
  unfold State.Live; decide +kernel

/-! ## Witnesses: the order book -/

def orderWith (f : OrderMsg → OrderMsg) : OrderMsg := f orderMsg

theorem witness_OrdersValidatedAndBooked : (orderWith (fun m => { m with lengthOk := false })).lengthOk = false ∧ orderMsg.lengthOk = true ∧
    12 < (orderWith (fun m => { m with formula := List.replicate 13 default })).formula.length ∧
    (1 ≤ orderMsg.formula.length ∧ orderMsg.formula.length ≤ 12 ∧ 1 ≤ orderMsg.size ∧ orderMsg.size ≤ 5 ∧ 1 ≤ orderMsg.count ∧
      orderMsg.count ≤ 24 ∧ (∀ f ∈ orderMsg.formula, 1 ≤ f.q ∧ f.q ≤ 200000) ∧ (orderMsg.formula.map FormulaItem.colorant).Nodup ∧
      sizeRow orderMsg.size = some { nominal := 1000, headroom := 70000, shakeTime := 60 }) ∧
    validate (orderWith (fun m => { m with formula := [{ colorant := 7, q := 56000 }] })) = none ∧
    validate (orderWith (fun m => { m with formula := [{ colorant := 7, q := 56001 }] })) = some .headroom ∧
    (cell.Hears .terminal 16 ∧ cell.inService = true ∧ cell.entry orderMsg.id = none ∧ cell.book.length < 32 ∧ validate orderMsg = none ∧
      formulaNl orderMsg.formula orderMsg.size ≤ 1 * 4000 * 1000 ∧
      1 * 4000 * 1000 < formulaNl orderMsg.formula orderMsg.size + 4000 * 1000) ∧
    ((booked cell (entryOf .invalid none)).refresh 16 none).entry ord = some (entryOf .invalid none) ∧
    (32 ≤ { cell with book := List.replicate 32 { entryOf .ownActive (some job) with id := { term := 17, serial := 1 } } }.book.length ∧
      ∀ e ∈ List.replicate 32 (entryOf .ownActive (some job)), e.st ≠ .placedElsewhere ∧ e.st ≠ .unplaced ∧ e.st ≠ .invalid ∧ e.st ≠ .cancelled) ∧
    ((entryOf .unplaced none).st = .unplaced ∧ { entryOf .unplaced none with id := { term := 17, serial := 1 } }.id ≠ ord) ∧
    (cell.cfg.last = false ∧ { cell with cfg := { cell.cfg with last := true } }.cfg.last = true ∧
      (peerOf 3 .stale (some { status 3 with last := true })).presence ≠ .gone) ∧
    ((State.inState cell .configFault).inService = false ∧
      ((booked cell (entryOf .invalid none)).refresh 16 none).rxError.entry ord = some (entryOf .invalid none)) := by
  unfold State.Hears; decide +kernel

/-- The counts named in OrdersValidatedAndBooked exist. -/
theorem witness_OrdersValidatedAndBooked_counts :
    ∃ (opened : OrderEntry → Bool) (w : OrderEntry → Nat),
      (∀ e, opened e = true ↔ e.job ≠ none ∧
        (e.st = .ownPending ∨ e.st = .ownActive ∨ e.st = .ownBlocked ∨ e.st = .ownCancelling)) ∧
      (∀ e, (opened e = false → w e = 0) ∧ ∀ j, opened e = true → e.job = some j →
        w e = e.perTin * ((e.tinCount + j.remakes - j.loaded) + (j.loaded - j.done - j.rejected - j.lost))) :=
  ⟨OrderEntry.openJob, OrderEntry.backlog, OrderEntry.openJob_iff, OrderEntry.backlog_eq⟩

theorem witness_CancelTaken : (booked cell (entryOf .new none)).Hears .terminal 16 ∧ (booked cell (entryOf .new none)).inService = true ∧
    ((booked cell (entryOf .new none)).refresh 16 none).entry ord = some (entryOf .new none) ∧
    (((booked cell (entryOf .new none)).refresh 16 none).book.map OrderEntry.id).Nodup ∧ 16 = ord.term ∧ 17 ≠ ord.term ∧
    ((entryOf .ownPending (some job)).job = some job ∧ job.loaded ≤ job.done + job.rejected + job.lost) ∧
    { job with loaded := 1 }.done + { job with loaded := 1 }.rejected + { job with loaded := 1 }.lost < { job with loaded := 1 }.loaded ∧
    { cell with seg := { cell.seg with prompt := .requested ord } }.seg.prompt.order = some ord := by
  unfold State.Hears; decide +kernel

def claimed : OrderEntry := { entryOf .placedElsewhere none with recorded := some { station := 3, est := 9, committed := false } }

theorem witness_PeerNoticesHeard : (booked cell (entryOf .new none)).Hears .cell 3 ∧ (booked cell (entryOf .new none)).inService = true ∧
    (booked cell (entryOf .new none)).entry ord = some (entryOf .new none) ∧ ((booked cell (entryOf .new none)).book.map OrderEntry.id).Nodup ∧
    (entryOf .unplaced none).st ≠ .new ∧ ((booked cell claimed).entry ord = some claimed ∧ claimed.recorded.map Claim.station = some 3) ∧
    (js.id = ord ∧ js.claimant = 3 ∧ js.state ≠ .invalid) ∧ { js with claimant := 4 }.claimant ≠ 3 ∧
    (entryOf .waitingClaim none).job = none ∧ (entryOf .ownActive (some job)).job = some job ∧ job.duplicate = false ∧
    (State.inState cell .paused).dck.cell ≠ .run := by
  unfold State.Hears; decide +kernel

theorem witness_ClaimsOrderedAndHeard :
    ({ station := 3, est := 9, committed := true } : Claim).committed = true ∧ ({ station := 3, est := 9, committed := false } : Claim).committed = false ∧
    (Claim.better { station := 2, est := 9, committed := false } { station := 3, est := 9, committed := false } = true ∧
      Claim.better { station := 3, est := 9, committed := false } { station := 4, est := 9, committed := false } = true) ∧
    ((booked cell claimed).Hears .cell 3 ∧ (booked cell claimed).entry ord = some claimed ∧ claimed.job = none) ∧
    (booked cell (entryOf .new none)).entry ord = some (entryOf .new none) ∧
    ((booked cell (entryOf .ownActive (some job))).entry ord = some (entryOf .ownActive (some job)) ∧ (entryOf .ownActive (some job)).st ≠ .cancelled ∧
      job.committed = false ∧ Claim.better { station := 3, est := 49, committed := false } { station := 2, est := 50, committed := false } = true) ∧
    Claim.better { station := 3, est := 50, committed := false } { station := 2, est := 50, committed := false } = false ∧
    ({ job with committed := true }.committed = true ∧ (OrderState.jobState .ownActive).isSome) := by
  unfold State.Hears; decide +kernel

theorem witness_EntryTimersEnd : cell.Live ∧ ((booked cell (entryOf .new none)).entry ord = some (entryOf .new none) ∧
      ((booked cell (entryOf .new none)).book.map OrderEntry.id).Nodup ∧ (entryOf .new none).ownEst = some 50 ∧
      (booked cell (entryOf .new none)).openJobs < 8) ∧
    (booked cell (entryOf .ownPending (some job))).entry ord = some (entryOf .ownPending (some job)) ∧
    (booked cell (entryOf .waitingClaim none)).entry ord = some (entryOf .waitingClaim none) ∧
    (OrderState.jobState .ownActive = some .active ∧ { cell with stations := [peerOf 16 .stale none] }.peer 16 = some (peerOf 16 .stale none) ∧
      (peerOf 16 .stale none).presence ≠ .gone) ∧ (cell.peer 16 = none) ∧
    { entryOf .unplaced none with retention := some 60000 }.retention ≠ none ∧ (entryOf .new none).retention = none := by
  unfold State.Live; decide +kernel

def flying : Job := { job with loaded := 1, committed := true, tins := [{ tin := tinId, loadedAt := 0, fate := .inFlight }] }

theorem witness_TinResolutionSettlesJob : cell.Hears .cell 3 ∧ cell.inService = true ∧ tr.tin.cell = cell.self ∧
    ((booked cell (entryOf .ownActive (some flying))).jobOfTin tr.tin = some (entryOf .ownActive (some flying)) ∧
      (entryOf .ownActive (some flying)).job = some flying ∧ flying.done + flying.rejected + flying.lost < flying.loaded) ∧
    ((booked cell (entryOf .ownActive (some flying))).book.map OrderEntry.id).Nodup ∧ flying.remakes < 3 ∧
    3 ≤ { flying with remakes := 3 }.remakes := by
  unfold State.Hears; decide +kernel

theorem witness_LoadGateTakesFirstJob : cell.Live ∧ (State.inState cell .night).dck.cell ≠ .run ∧
    ((booked cell (entryOf .ownActive (some job))).dck.cell = .run ∧ (booked cell (entryOf .ownActive (some job))).seg.prompt = .none ∧
      ((booked cell (entryOf .ownActive (some job))).book.map OrderEntry.id).Nodup ∧
      entryOf .ownActive (some job) ∈ (booked cell (entryOf .ownActive (some job))).book ∧
      job.loaded < (entryOf .ownActive (some job)).tinCount + job.remakes ∧
      (∀ a ∈ (booked cell (entryOf .ownActive (some job))).book, a.id = (entryOf .ownActive (some job)).id) ∧
      (booked cell (entryOf .ownActive (some job))).eligibleEntry (entryOf .ownActive (some job)) = false) ∧
    { booked cell (entryOf .ownActive (some job)) with cfg := { cell.cfg with last := true } }.eligibleEntry
      (entryOf .ownActive (some job)) = true := by
  unfold State.Live; decide +kernel

/-! ## Witnesses: planning and canisters -/

def permitW : Window := { enable := true, pattern := 0x4A00, mask := 0xFF00, action := some .permit, lid := 3, shake := some .normal }
def denyW : Window := { enable := true, pattern := 0x4A17, mask := 0xFFFF, action := some .deny, lid := 0, shake := none }

theorem witness_FirstMatchingWindowDecides : windowMatches denyW 0x4A18 = false ∧ windowMatches permitW 0x4A18 = true ∧
    [denyW, permitW] = [denyW] ++ permitW :: [] ∧ windowMatches denyW 0x4A17 = true := by decide

theorem witness_StepsAndStrokes : (0 < (cell.canister 3).strength ∧ 0 < (cell.pumpCfg 3).d) ∧ (cell.canister 11).stock = none ∧
    (1 ≤ 1 ∧ 1 < 3) ∧ 3 ≤ 3 ∧ 1 ≤ 6000 ∧
    (32 < cell.strokesAt 3 (cell.stepsAt 3 76800400) ∧ cell.stepsAt 3 76800400 ≠ 0) := by decide +kernel

def levelOf (n : Nat) (f : Canister → Canister) : State := cell.modCanister n f

theorem witness_CanisterClassesAndChoice : cell.fitted 3 = some oneCan ∧ (cell.canister 3).stock = some { level := 1000000000, strength := 1000, batch := 5 } ∧
    (cell.canister 3).lock = false ∧ (cell.pump 3).st ≠ .locked ∧ (cell.pump 3).st ≠ .unusable ∧
    (cell.pumpCfg 3).minShot * (cell.pumpCfg 3).d ≤ cell.available 3 ∧ oneCan.lowMark * 1000 ≤ cell.available 3 ∧
    cell.choose 7 1000000 = some 3 ∧ cell.choose 8 1000000 = none := by decide +kernel

theorem witness_MixTimeFromTotal : sizeRow (tinIn .dosing []).size = some { nominal := 1000, headroom := 70000, shakeTime := 60 } ∧
    ((tinIn .dosing []).total ≤ 0 * 2000000 ∧ 0 * 2000000 < (tinIn .dosing []).total + 2000000) ∧
    ({ tinIn .dosing [] with total := 2000001 }.total ≤ 2 * 2000000 ∧ 2 * 2000000 < { tinIn .dosing [] with total := 2000001 }.total + 2000000) := by
  decide

theorem witness_StockRefilledAndSet : cell.Hears .terminal 16 ∧ cell.inService = true ∧ 2 = cell.self ∧ 3 ≤ 15 ∧ cell.fitted 3 = some oneCan ∧
    cell.Shaped ∧ (cell.canister 11).stock = none ∧ cell.fitted 11 = some oneCan ∧
    ((cell.canister 3).stock = some { level := 1000000000, strength := 1000, batch := 5 } ∧ 1000000000 ≤ oneCan.capacity * 1000 ∧
      2500000000 = min (2600000 * 1000) (oneCan.capacity * 1000 - 1000000000)) ∧
    ((cell.canister 3).stir.st = .idle ∧ cell.canisterHeld 3 = false ∧ cell.working = true) ∧ (cell.canister 3).reserved = 0 ∧
    0 < ((dosing .stroking).canister 3).reserved ∧ oneCan.capacity < 3500001 := by
  unfold State.Hears State.Shaped; decide +kernel

theorem witness_StockRefusedLockedReleased : cell.Hears .terminal 16 ∧ cell.inService = true ∧ 2 = cell.self ∧ 15 < 16 ∧
    (15 ≤ 15 ∧ cell.fitted 15 = none) ∧ (cell.fitted 3 = some oneCan ∧ cell.Shaped) ∧
    ((cell.canister 3).lock = false ∧ (cell.canister 3).pendingLock = false ∧ cell.canisterHeld 3 = false) ∧
    (dosing .stroking).canisterHeld 3 = true ∧ ((dosing .locked).pump 3).st = .locked := by
  unfold State.Hears State.Shaped; decide +kernel

def stirring (s : State) : State := s.modStir 3 (fun r => { r with st := .running, left := 0 })

theorem witness_StirringRunEnds : (stirring cell).Live ∧ (stirring cell).fitted (3 : Fin 16) = some oneCan ∧ (stirring cell).Shaped ∧
    ((stirring cell).canister (3 : Fin 16)).stir.st = .running ∧ (stirring cell).inside = true ∧ (stirring night).inside = false := by
  unfold State.Live State.Shaped; decide +kernel

/-! ## Witnesses: pumps and shots -/

theorem witness_EncoderAndProfile : 1 ≤ onePump.strokeSteps ∧ profileBad onePump = false ∧ 2 * onePump.rampSteps ≤ 1600 ∧
    1599 < 2 * onePump.rampSteps ∧ profileBad { onePump with rampSteps := 0, stages := 2 } = false := by decide

/-- The tin at slot 2 waits for canister 3. -/
def waiting : State :=
  { (State.withSlot cell 2 (tinIn .dosing [entryIn (.toDose plan)])) with shots := { cell.shots with waiting := [1] } }

theorem witness_ArbiterChoosesLowest : waiting.Live ∧ waiting.grant = some (0, 1) ∧ cell.grant = none ∧
    { waiting with pins := { waiting.pins with spill := true } }.grant = none := by
  unfold State.Live; decide +kernel

theorem witness_GrantTaken : waiting.Live ∧ waiting.Shaped ∧ waiting.grant = some (0, 1) ∧
    waiting.tinAt 2 = some (tinIn .dosing [entryIn (.toDose plan)]) ∧
    (tinIn .dosing [entryIn (.toDose plan)]).entry 1 = some (entryIn (.toDose plan)) ∧ plan.canister = 3 ∧ waiting.fitted 3 = some oneCan ∧
    oneCan.colorant = (entryIn (.toDose plan)).colorant ∧ waiting.usable 3 = true ∧ waiting.stepsAt 3 1000000 = 2500 ∧
    waiting.strokesAt 3 2500 ≤ 32 ∧ 2500 * (waiting.pumpCfg 3).d ≤ waiting.available 3 ∧
    0 + waiting.outstanding (tinIn .dosing [entryIn (.toDose plan)]) + 2500 * (waiting.pumpCfg 3).d ≤ headroomNl 2 ∧
    { tinIn .dosing [] with cause := some .doseFault }.cause ≠ none ∧ (waiting.modCanister 3 (fun c => { c with pendingLock := true })).usable 3 = false ∧
    waiting.stepsAt 3 100 = 0 ∧ 32 < waiting.strokesAt 3 192001 ∧
    headroomNl 2 < 69500000 + 0 + 2500 * (waiting.pumpCfg 3).d := by
  unfold State.Live State.Shaped; decide +kernel

theorem witness_SwitchAndRefillEnd : (dosing .switching).Live ∧ (dosing .switching).Shaped ∧ (dosing .switching).channel 0 = some 1 ∧
    (dosing .switching).tinAt 2 = some (tinIn .dosing [entryIn (.active plan)]) ∧
    (tinIn .dosing [entryIn (.active plan)]).entry 1 = some (entryIn (.active plan)) ∧ ((dosing .switching).pump 3).st = .switching ∧
    nextStroke plan.strokes plan.emitted = some 2500 ∧ (dosing .switching).dosingState = true ∧ 2500 ≤ ((dosing .switching).pump 3).content ∧
    ((dosing .switching).pump 3).target = .outlet ∧ ((dosing .refilling).pump 3).st = .refilling ∧
    2500 ≤ ((dosing .refilling).pumpCfg 3).strokeSteps ∧
    encoderOk ((dosing .refilling).pumpCfg 3) ((dosing .refilling).pumpCfg 3).strokeSteps 0x200 = true ∧
    (State.inState (dosing .refilling) .paused).dosingState = false := by
  unfold State.Live State.Shaped; decide +kernel

/-- A content of 3,500 of 6,000 steps is code 597 (R130), 0x37F in Gray. -/
theorem witness_StrokeEndsComplete : (dosing .stroking).Live ∧ (dosing .stroking).Shaped ∧ (dosing .stroking).channel 0 = some 1 ∧
    (dosing .stroking).tinAt 2 = some (tinIn .dosing [entryIn (.active plan)]) ∧
    (tinIn .dosing [entryIn (.active plan)]).entry 1 = some (entryIn (.active plan)) ∧ ((dosing .stroking).pump 3).st = .stroking ∧
    ((dosing .stroking).pump 3).steps = 2500 ∧ 2500 ≤ ((dosing .stroking).pump 3).content ∧
    ((dosing .stroking).canister 3).stock = some { level := 1000000000, strength := 1000, batch := 5 } ∧
    encoderOk ((dosing .stroking).pumpCfg 3) (((dosing .stroking).pump 3).content - 2500) 0x37F = true ∧
    nextStroke plan.strokes (plan.emitted + 2500) = none ∧ nextStroke [1250, 1250] 1250 ≠ none := by
  unfold State.Live State.Shaped; decide +kernel

theorem witness_MovementEndsInFault : (dosing .stroking).Live ∧ (dosing .stroking).Shaped ∧ (dosing .stroking).channel 0 = some 1 ∧
    (dosing .stroking).tinAt 2 = some (tinIn .dosing [entryIn (.active plan)]) ∧ ((dosing .stroking).pump 3).st = .stroking ∧
    encoderOk ((dosing .stroking).pumpCfg 3) (((dosing .stroking).pump 3).content - 2500) 0 = false ∧
    ((dosing .refilling).pump 3).st = .refilling ∧
    encoderOk ((dosing .refilling).pumpCfg 3) ((dosing .refilling).pumpCfg 3).strokeSteps 0 = false ∧
    ((dosing .switching).pump 3).st ≠ .stroking ∧ (dosing .stroking).driven 3 = 0 := by
  unfold State.Live State.Shaped; decide +kernel

theorem witness_InputLevelsTaken : cell.Live ∧ cell.channel (3 : Fin 4) = none ∧ cell.channel (0 : Fin 4) = none := by
  unfold State.Live; decide

/-! ## Witnesses: segment, consignment, bays -/

def indexing (d : Destination) (p : Bool) : State := { cell with seg := { cell.seg with index := .running d p 0 } }
def lidTin (st : TinState) : Tin := { tinIn st [] with mix := some 60 }

theorem witness_IndexCommanded : loadedCell.Live ∧ loadedCell.seg.slots.length = 8 ∧ loadedCell.indexReady = true ∧ cell.indexReady = false ∧
    (State.withSlot (State.withSlot cell 6 (lidTin .lidded)) 7 (tinIn .pass [])).tinAt 6 = some (lidTin .lidded) ∧
    { cell with cfg := { cell.cfg with last := true } }.cfg.last = true := by
  unfold State.Live; decide +kernel

theorem witness_IndexFinishedOrFailed : cell.Live ∧
    { cell with seg := { cell.seg with index := .stopped .chute false } }.seg.index = .stopped .chute false ∧ cell.slot 7 = none ∧
    (State.withSlot cell 7 (tinIn .reject [])).slot 7 ≠ none ∧ 6 ≤ { cell with seg := { cell.seg with chute := 6 } }.seg.chute ∧
    (State.inState cell .paused).working = false ∧ cell.seg.index = .idle ∧ (indexing .lane true).seg.index = .running .lane true 0 ∧
    (gated cell (.cleared .unknown)).xfr.intake = .cleared .unknown := by
  unfold State.Live; decide +kernel

theorem witness_IndexCompletes : (indexing .lane false).Live ∧ (indexing .lane false).seg.slots.length = 8 ∧
    (indexing .lane false).seg.index = .running .lane false 0 ∧
    (State.withSlot (indexing .lane false) 7 (tinIn .pass [])).tinAt 7 = some (tinIn .pass []) ∧
    (State.withSlot (indexing .chute false) 7 { tinIn .reject [] with id := { cell := 1, serial := 4 } }).tinAt 7 =
      some { tinIn .reject [] with id := { cell := 1, serial := 4 } } ∧
    (State.withSlot (indexing .lane false) 1 (tinIn .loaded [entryIn (.toDose plan)])).tinAt 1 = some (tinIn .loaded [entryIn (.toDose plan)]) ∧
    (tinIn .loaded [entryIn (.toDose plan)]).hasLocal = true ∧ (tinIn .pass []).hasLocal = false ∧
    (∀ n < 8, quietSample.slots.getLsbD n = true ↔ if n = 0 then false = true else (indexing .lane false).slot (n - 1) ≠ none) ∧
    (indexing .lane false).lids.bay = .idle ∧ (indexing .lane false).working = true ∧ (indexing .lane false).shaker.st = .empty := by
  unfold State.Live; decide +kernel

def standing (j : Job) : State :=
  { booked cell (entryOf .ownActive (some j)) with seg := { cell.seg with prompt := .standing ord 1 0 10 } }
def sensing (b : Byte) : Sample := { quietSample with slots := b }

theorem witness_LoadsTakenOrGivenUp : cell.Live ∧ cell.inService = true ∧ cell.seg.slots.length = 8 ∧
    ({ cell with seg := { cell.seg with prompt := .requested ord, serial := 65535 } }.seg.serial ≤ 65535 ∧ cell.tinTable.length ≤ 12 ∧
      cell.slot 1 = none ∧ cell.seg.index = .idle ∧ cell.sensed 1 = false) ∧
    ((standing job).seg.prompt = .standing ord 1 0 10 ∧ (sensing 2).slots.getLsbD 1 = true ∧ (sensing 0).slots.getLsbD 1 = false ∧
      (standing job).entry ord = some (entryOf .ownActive (some job)) ∧
      verdict (standing job).windows orderMsg.base = .permit 3 (some .normal) ∧ verdict (standing job).windows 0x4A17 = .deny) := by
  unfold State.Live; decide +kernel

theorem witness_ConfirmReconcilesJam : (State.inState cell .jammed).Live ∧ (State.inState cell .jammed).dck.cell = .jammed ∧
    (State.inState cell .jammed).seg.slots.length = 8 ∧ (State.inState cell .jammed).seg.index = .idle ∧
    (State.withSlot cell 2 (tinIn .deferred [])).tinAt 2 = some (tinIn .deferred []) ∧ cell.xfr.cutShort = false ∧
    (expects (gated cell (.cleared (.normal 4))) [4]).item 4 = some { msg := consignOf 4, mark := none } := by
  unfold State.Live; decide +kernel

theorem witness_SequencesCompared : 0 ≤ 65535 ∧ 1 ≤ 1 ∧ 65535 ≤ 65535 := by decide

def cutShort (s : State) : State := { s with xfr := { s.xfr with cutShort := true } }

theorem witness_ConsignTaken : cell.Hears .cell 1 ∧ 1 + 1 = cell.self ∧ cell.inService = true ∧
    sizeRow (consignOf 1).size = some { nominal := 1000, headroom := 70000, shakeTime := 60 } ∧
    12 < List.length (List.replicate 13 (default : DosedItem)) ∧ (isAfter 1 cell.xfr.pointer = true ∧ stepCount cell.xfr.pointer 3 ≤ 3) ∧
    (3 < stepCount cell.xfr.pointer 4 ∧ isAfter 32768 5 = true ∧ isAfter 32773 5 = false) ∧ cell.item 1 = none ∧
    (expects cell [1]).item 1 = some { msg := consignOf 1, mark := none } ∧ (consignOf 1).tin ≠ (consignOf 2).tin ∧
    (gated cell (.cleared (.normal 1))).xfr.intake.clearedSeq = some 1 ∧ cell.xfr.cutShort = false ∧
    (cutShort (gated (expects cell [1]) (.cleared (.normal 1)))).xfr.cutShort = true ∧
    consignMark { consignOf 1 with size := 9 } ≠ none ∧ consignMark (consignOf 1) = none := by
  unfold State.Hears; decide +kernel

theorem witness_GateReadsAndHolds : cell.Live ∧ cell.inService = true ∧ cell.xfr.intake = .opened ∧ 2 ≤ cell.self ∧
    (expects cell [1]).item (seqNext cell.xfr.pointer) = some { msg := consignOf 1, mark := none } ∧
    (cell.cfg.image = some image ∧ cell.goodReads = 3 ∧ cell.attemptLimit = 4) ∧
    ((gated cell (.hold 2 1 0 0 none)).xfr.intake = .hold 2 1 0 0 none ∧ cell.goodReads ≤ 2 + 1 ∧ 1 + 1 < cell.goodReads) ∧
    ((gated (indexing .lane true) (.hold 0 1 0 0 none)).pullUnderWay = true ∧ (gated (indexing .lane true) (.hold 0 1 0 0 none)).xfr.cutShort = false ∧
      (∀ c, (gated (indexing .lane true) (.hold 0 1 0 0 none)).xfr.intake ≠ .cleared c) ∧
      (gated (indexing .lane true) (.cleared .unknown)).xfr.intake = .cleared .unknown ∧ cell.pullUnderWay = false) ∧
    (3 < cell.attemptLimit ∧ cell.attemptLimit ≤ 4) ∧ (expects cell [1, 2, 3]).item 2 = some { msg := consignOf 2, mark := none } ∧
    (expects cell [1, 2, 3]).item 3 = some { msg := consignOf 3, mark := none } ∧ (consignOf 2).tin ≠ (consignOf 3).tin :=
  ⟨by unfold State.Live; decide +kernel, by decide, by decide, by decide, by decide +kernel, by decide +kernel, by decide +kernel,
    ⟨by decide, by decide, fun _ h => Intake.noConfusion h, by decide, by decide⟩, by decide +kernel, by decide +kernel, by decide +kernel, by decide⟩

theorem witness_PulledTinEntersSlotZero :
    (gated (indexing .lane true) (.cleared .unknown)).Live ∧ (gated (indexing .lane true) (.cleared .unknown)).seg.slots.length = 8 ∧
    (gated (indexing .lane true) (.cleared .unknown)).inService = true ∧
    (gated (indexing .lane true) (.cleared (.normal 1))).seg.index = .running .lane true 0 ∧
    Disposition.seq (.marked 1) = some 1 ∧ (expects (indexing .lane true) [1]).item 1 = some { msg := consignOf 1, mark := none } ∧
    (∀ a ∈ (expects (indexing .lane true) [1]).tinTable, a.id ≠ (consignOf 1).tin) ∧ (1 ≤ (consignOf 1).size ∧ (consignOf 1).size ≤ 5) ∧
    5 < { consignOf 1 with size := 6 }.size := by
  unfold State.Live; decide +kernel

theorem witness_NeighbourStatusHeard : cell.Hears .cell 1 ∧ cell.Hears .cell 3 ∧ statusOk 1 (status 1) = true ∧ statusOk 3 (status 3) = true ∧
    cell.inService = true ∧ 1 + 1 = cell.self ∧ 3 = cell.self + 1 ∧ (cell.peer 3).bind Station.status = none ∧ (status 3).restarted = true ∧
    (lane cell).xfr.inTransit.find? (fun r => r.seq == 1) ≠ none ∧
    { cell with stations := [peerOf 3 .stale none] }.peer (cell.self + 1) = some (peerOf 3 .stale none) ∧
    (peerOf 3 .stale none).presence ≠ .gone ∧ (queued cell [Q (.consign (consignOf 1))]).bus.queue = [] ++ Q (.consign (consignOf 1)) :: [] := by
  unfold State.Hears; decide +kernel

def stackOf (l : List Layer) : State := cell.modMagazine 2 (fun m => { m with layers := l })

theorem witness_LidLoadPushed : cell.inService = true ∧ cell.lids.magazines.length = 5 ∧ cell.Hears .either 16 ∧ cell.Hears .either 3 ∧
    2 = cell.self ∧ (stackOf [{ lid := 3, count := 60 }]).magazine 2 = { layers := [{ lid := 3, count := 60 }], pulses := 0 } ∧
    60 ≤ ((stackOf [{ lid := 3, count := 60 }]).magazine 2).count ∧
    (((stackOf (List.replicate 6 { lid := 3, count := 1 })).magazine 2).count < 60 ∧
      6 ≤ ((stackOf (List.replicate 6 { lid := 3, count := 1 })).magazine 2).layers.length) ∧
    ((stackOf [{ lid := 3, count := 59 }]).magazine 2).count < 60 := by
  unfold State.Hears; decide +kernel

def atLid (b : LidBay) (l : List Layer) : State := (State.withSlot (stackOf l) 4 (lidTin .finishing)).setBay b

theorem witness_LidsChosenAndPressed : (atLid .idle [{ lid := 3, count := 1 }]).tinAt 4 = some (lidTin .finishing) ∧ (lidTin .finishing).st = .finishing ∧
    1 ≤ (lidTin .finishing).size ∧ (lidTin .finishing).size ≤ 5 ∧ (atLid .idle []).lids.magazines.length = 5 ∧
    ((atLid .idle [{ lid := 3, count := 1 }]).magazine 2).layers = { lid := 3, count := 1 } :: [] ∧
    (atLid .idle [{ lid := 3, count := 1 }]).hatchOpen 2 = false ∧ (atLid (.lidWait true) []).lids.bay = .lidWait true ∧
    ((atLid (.pressing 0) []).Live ∧ (atLid (.pressing 0) []).seg.slots.length = 8 ∧ (atLid (.pressing 0) []).lids.bay = .pressing 0) := by
  unfold State.Live; decide +kernel

def shaking (st : ShakeState) (r : Option TinRecord) : State :=
  { cell with shaker := { st := st, tin := r, left := 295000, resume := 0, halted := false } }

theorem witness_ShakerTransfersAndRuns : (State.withSlot (shaking .loading none) 6 (lidTin .lidded)).Live ∧
    (State.withSlot (shaking .loading none) 6 (lidTin .lidded)).seg.slots.length = 8 ∧
    (State.withSlot (shaking .loading none) 6 (lidTin .lidded)).tinAt 6 = some (lidTin .lidded) ∧ (lidTin .lidded).mix = some 60 ∧
    { shaking .loading none with pins := { quietPins with clamp := true } }.pins.clamp = true ∧ (shaking .loading none).working = true ∧
    ((shaking .returning (some (.known (lidTin .shaking)))).shaker.tin = some (.known (lidTin .shaking)) ∧ (lidTin .shaking).st = .shaking) ∧
    (shaking .returning (some .unknown)).shaker.tin = some .unknown ∧ (shaking .clamping none).shaker.st ≠ .empty ∧
    (shaking .interrupted none).shaker.st = .interrupted ∧ (shaking .unclamping none).slot 7 = none ∧
    { shaking .running none with pins := { quietPins with clamp := true } }.shaker.st = .running := by
  unfold State.Live; decide +kernel

theorem witness_PanelAndAttention : cell.Live ∧ cell.inService = true ∧ State.reset.inService = false ∧ cell.atn.settled.getLsbD (0 : Fin 7) ≠ true ∧
    cell.atn.records = [] ∧ cell.panel.label = none := by
  unfold State.Live; decide +kernel

/-! ## Witnesses: the laws -/

theorem witness_RecordLawsKept : cell.QueueBound ∧ fullQueue.QueueBound ∧ (booked cell (entryOf .ownActive (some job))).BookSound ∧
    (lane cell).LaneBound ∧ (stackOf [{ lid := 3, count := 60 }]).MagazinesSound ∧ { cell with seg := { cell.seg with chute := 6 } }.ChuteBound := by
  unfold State.QueueBound State.BookSound State.LaneBound State.MagazinesSound Magazine.Sound State.ChuteBound; decide +kernel

theorem witness_RecordLawsKept_levels : cell.LevelsHeld := by
  intro n hn c hc
  have h : ∀ n < 16, ((cell.fitted n).all fun c => c.dead ≤ c.capacity && (cell.canister n).level ≤ c.capacity * 1000) = true := by
    decide +kernel
  have := h n hn
  rw [hc] at this
  simpa using this

theorem witness_MotionLawsKept : { shaking .running none with pins := { quietPins with clamp := true } }.ShakerGuarded ∧ cell.FlagsAgree ∧ cell.CapOpen := by
  unfold State.ShakerGuarded State.FlagsAgree State.CapOpen; decide +kernel

theorem witness_ResetMeetsLaws : exec (.powerOn { id := 13, last := true } quietPins) cell =
    .next { (State.powerOn quietPins).strapped { id := 13, last := true } with pending := cell.pending } := rfl

theorem witness_RecordLawsKept_content : cell.ContentHeld := by
  intro n
  have small : ∀ n < 16, (cell.pump n).content ≤ (cell.pumpCfg n).strokeSteps := by decide +kernel
  by_cases h : n < 16
  · exact small n h
  · have blank : cell.pump n = Pump.blank := by
      unfold State.pump
      exact List.getD_eq_default _ _ (Nat.le_of_not_lt h)
    rw [blank]
    exact Nat.zero_le _

/-! ## One step of each family -/

theorem test_table_gives_no_bits : decodeTableWord 16 0x1234 = none := rfl

theorem test_step_takes_front : (match step { cell with pending := [.pause 16, .quietGap] } with
    | .next t => t.dck.cell == .paused && t.pending == [.quietGap]
    | .fault _ | .refused _ => false) = true := by decide +kernel

/-- R38: after power-on with a good image the cell is CAPPED, its stopped cap opening (the clock is unset). -/
theorem test_starting_end_capped : after (.startingEnd (reading image) quietSample) State.reset
    (fun t => t.dck.cell == .capped && t.dck.cap == .opening && t.bus.queue.length == 1) = true := by decide +kernel

/-- R203: a bad format mark leaves CONFIG_FAULT with no part of the image handed out. -/
theorem test_starting_end_format : after (.startingEnd { reading image with headerOk := false } quietSample) State.reset
    (fun t => t.dck.cell == .configFault && t.cfg.image == none) = true := by decide +kernel

/-- R201: strap 13 is out of range. -/
theorem test_power_on_strap : after (.powerOn { id := 13, last := false } quietPins) cell
    (fun t => t.dck.cell == .configFault && t.cfg.station == none) = true := by decide +kernel

/-- R201: while RESET_L is low the panel shows nothing. -/
theorem test_reset_prompt_off : after .resetAsserted cell (fun t => t.shown == .off) = true ∧ State.reset.shown = .starting := by decide +kernel

/-- R49: a cell in CONFIG_FAULT announces windows of eight zero bytes but for what Config.flagByte puts first. -/
theorem test_fault_window_bytes : (Window.bytes windowOff).drop 1 = List.replicate 7 0 := rfl

/-- R205: a RESTART keeps the level and forgets the order. -/
theorem test_restart : after (.restart 16 2 quietSample) (booked cell (entryOf .new none))
    (fun t => t.book == [] && (t.canister 3).level == 1000000000 && t.dck.cell == .run) = true := by decide +kernel

/-- R1: CRC by hand over one bit 1: 0xFFFF has its top bit set, so nothing is taken in but the shift. -/
theorem test_crc_bit : crc16 [true] = 0xFFFE ∧ crc16 [false] = 0x7FFB := by decide

/-- R4: the eighth attempt that is abandoned drops the notice. -/
theorem test_frame_abandoned : after .frameAbandoned (queued cell [{ sendingQ offerN with attempts := 7 }])
    (fun t => t.bus.queue == [] && t.bus.sendDrops == 1) = true := by decide +kernel

theorem test_frame_discarded : after (.frameDiscarded { cancelFrame with whole := false }) cell (fun t => t.bus.rxErrors == 1) = true := by
  decide +kernel

/-- R13: the counter stays at 255. -/
theorem test_counter_saturates : bump 255 = 255 ∧ bump 254 = 255 := by decide

/-- R22: PRESENT to STALE. -/
theorem test_entry_stale : after (.entryStale 3) { cell with stations := [peerOf 3 .present none] }
    (fun t => t.stations == [peerOf 3 .stale none]) = true := by decide +kernel

/-- R24: past 23:59:59 of day 65535 comes 00:00:00 of day 0. -/
theorem test_clock_advance_wraps : after (.clockAdvance quietSample) { cell with dck := { cell.dck with moment := { day := 65535, sec := 86399 } } }
    (fun t => t.dck.moment == { day := 0, sec := 0 }) = true := by decide +kernel

/-- R25, R30: a CLOCK of 14:00:00 closes the window, and RUN becomes NIGHT. -/
theorem test_clock_closes : after (.clock 16 { h := 14, m := 0, s := 0 } 3 quietSample) cell
    (fun t => t.dck.cell == .night && t.dck.moment.sec == 50400) = true := by decide +kernel

theorem test_clock_range : after (.clock 16 { h := 24, m := 0, s := 0 } 3 quietSample) cell
    (fun t => t.dck.moment == cell.dck.moment && t.bus.rxErrors == 1) = true := by decide +kernel

/-- R35: RESUME with the cap OPEN inside the window goes to RUN. -/
theorem test_resume : after (.resume 16 quietSample) (State.inState cell .paused) (fun t => t.dck.cell == .run) = true := by decide +kernel

/-- R32: an opening cap stops at once. -/
theorem test_emergency_stop_cap : after (.emergencyStop quietSample) (withCap capped .opening none)
    (fun t => t.dck.cell == .halted && t.dck.cap == .stopped) = true := by decide +kernel

/-- R37: CONFIRM is not taken while ESTOP_L is low. -/
theorem test_confirm_held : after (.confirm quietSample) { State.inState cell .halted with pins := { quietPins with estop := true } }
    (fun t => t.dck.cell == .halted) = true := by decide +kernel

/-- R31: an idle NIGHT ends in CAPPED, the cap closing. -/
theorem test_idle_timeout : after .idleTimeout night (fun t => t.dck.cell == .capped && t.dck.cap == .closing) = true := by decide +kernel

/-- R56: 1,000,000 nl are 1,000 µl, one begun part of 4,000: P is 41; 3 tins are 123 s. No way to the end: no offer. -/
theorem test_order_booked : after (.order 16 orderMsg) cell
    (fun t => t.book.map (fun e => (e.st, e.perTin, e.ownEst)) == [(.new, 41, none)]) = true := by decide +kernel

/-- The same order at the last cell, which holds the colorant and permits the base: an offer of 123 s. -/
theorem test_order_offered : after (.order 16 orderMsg) { cell with cfg := { cell.cfg with last := true } }
    (fun t => t.book.map OrderEntry.ownEst == [some 123] && t.bus.queue.map Queued.notice == [.offer ord 123]) = true := by decide +kernel

/-- R70: only the ordering terminal cancels. -/
theorem test_cancel : after (.cancel 16 ord) (booked cell (entryOf .new none)) (fun t => t.book.map OrderEntry.st == [.cancelled]) = true ∧
    after (.cancel 17 ord) (booked cell (entryOf .new none)) (fun t => t.book.map OrderEntry.st == [.new]) = true := by decide +kernel

/-- R62: an uncommitted own claim of 50 s at station 2 gives way to 49 s at station 3. -/
theorem test_claim_beats : after (.claim 3 ord 49 false) (booked cell (entryOf .ownPending (some job)))
    (fun t => t.book.map OrderEntry.st == [.placedElsewhere] && t.bus.queue.map Queued.notice == [.withdraw ord]) = true := by decide +kernel

/-- R63: the withdrawn entry waits for a claim. -/
theorem test_withdraw : after (.withdraw 3 ord) (booked cell claimed) (fun t => t.book.map OrderEntry.st == [.waitingClaim]) = true := by
  decide +kernel

/-- R59: an offer of 50 s with no other claims the order. -/
theorem test_offer_window : after (.offerWindowEnd ord) (booked cell (entryOf .new none))
    (fun t => t.book.map OrderEntry.st == [.ownPending] && t.bus.queue.map Queued.notice == [.claim ord 50 false]) = true := by decide +kernel

/-- R67, R68: a tin lost is made again. -/
theorem test_tin_report_lost : after (.tinReport 3 { tr with result := .lost }) (booked cell (entryOf .ownActive (some flying)))
    (fun t => t.book.map (fun e => e.job.map (fun j => (j.lost, j.remakes))) == [some (1, 1)]) = true := by decide +kernel

/-- R65: the job at the last cell is eligible and gets the prompt, which stands at once over a free slot 1. -/
theorem test_load_gate : after (.loadGate quietSample) { booked cell (entryOf .ownActive (some job)) with cfg := { cell.cfg with last := true } }
    (fun t => t.seg.prompt == .standing ord 1 0 10) = true := by decide +kernel

/-- R66, R151: the load counts, and the first commits the claim. -/
theorem test_loaded : after (.loaded (sensing 2)) (standing job)
    (fun t => (t.tinAt 1).map Tin.id == some tinId && t.book.map (fun e => e.job.map (fun j => (j.loaded, j.committed))) == [some (1, true)]) = true := by
  decide +kernel

/-- R103: 1,000 ml at 1,000 and 1,000 ml at 1,100 blend to 1,050; a new batch starts the stirrer. -/
theorem test_stock_refill : after (.stockRefill 16 2 3 1000000 1100 6) cell
    (fun t => (t.canister 3).stock == some { level := 2000000000, strength := 1050, batch := 6 } && (t.canister 3).stir.st == .running) = true := by
  decide +kernel

/-- R102: a canister that is not fitted. -/
theorem test_stock_not_fitted : after (.stockLock 16 2 0) cell (fun t => t.bus.queue.map Queued.notice ==
    [.stockReply { canister := 0, action := .lock, outcome := .refused, code := some .notFitted, cls := .notFitted, overfill := 0 }]) = true := by
  decide +kernel

theorem test_stock_lock_pends : after (.stockLock 16 2 3) (dosing .stroking)
    (fun t => (t.canister 3).pendingLock && !(t.canister 3).lock) = true := by decide +kernel

/-- R107, R110: 15 min after 10:00:00 is 10:15:00. -/
theorem test_stirring_run_end : after (.stirringRunEnd 3) (stirring cell)
    (fun t => (t.canister 3).stir.due == { day := 3, sec := 36900 } && (t.canister 3).stir.st == .idle) = true := by decide +kernel

/-- R99, R125: 2,500 steps of 400 nl are reserved, and the pump with enough behind its outlet strokes at once. -/
theorem test_channel_grant : after .channelGrant waiting
    (fun t => (t.canister 3).reserved == 1000000 && (t.pump 3).st == .stroking && t.channel 0 == some 1) = true := by decide +kernel

/-- R89: the last stroke doses the entry, and the tin that needs no more is FINISHING. -/
theorem test_stroke_end : after (.strokeEnd 0 0x37F) (dosing .stroking)
    (fun t => (t.pump 3).content == 3500 && (t.tinAt 2).map (fun a => (a.total, a.st)) == some (1000000, .finishing)) = true := by decide +kernel

/-- R130: Gray 0x37F is binary 597. -/
theorem test_gray : grayToBinary 0x37F = 597 ∧ grayToBinary 0x200 = 1023 := by decide

/-- R132: a failed check locks the pump and rejects the tin. -/
theorem test_stroke_end_fault : after (.strokeEnd 0 0) (dosing .stroking)
    (fun t => (t.pump 3).st == .locked && (t.tinAt 2).map Tin.st == some .reject && (t.canister 3).reserved == 0) = true := by decide +kernel

theorem test_switch_end : after (.switchEnd 0) (dosing .switching)
    (fun t => (t.pump 3).valve == .outlet && (t.pump 3).st == .stroking) = true := by decide +kernel

/-- R146, R155: the index starts bound for the lane. -/
theorem test_index_command : after .indexCommand (State.withSlot cell 7 (tinIn .pass []))
    (fun t => t.seg.index == .running .lane false 0 && t.convOut) = true := by decide +kernel

/-- R164: the released tin takes sequence 1 and is announced. -/
theorem test_index_complete_lane : after (.indexComplete quietSample) (State.withSlot (indexing .lane false) 7 (tinIn .pass []))
    (fun t => t.xfr.release == 1 && t.xfr.inTransit.map Transit.seq == [1] && t.bus.queue.length == 1) = true := by decide +kernel

/-- R149: a sensor that shows a tin the register does not hold jams the cell. -/
theorem test_index_complete_jam : after (.indexComplete (sensing 8)) (indexing .lane false)
    (fun t => t.dck.cell == .jammed && t.dck.jam) = true := by decide +kernel

/-- R158: the reconcile takes up the sensed tin as UNKNOWN and goes back to RUN. -/
theorem test_confirm_reconciles : after (.confirm (sensing 8)) { State.inState cell .jammed with dck := { (State.inState cell .jammed).dck with jam := true } }
    (fun t => t.slot 3 == some .unknown && t.dck.cell == .run) = true := by decide +kernel

/-- R168: sequence 4 lies outside the window of three after pointer 0. -/
theorem test_consign_window : after (.consign 1 (consignOf 3) none) cell (fun t => t.xfr.expected.map (fun e => e.msg.seq) == [3]) = true ∧
    after (.consign 1 (consignOf 4) none) cell (fun t => t.xfr.expected == []) = true := by decide +kernel

/-- R172: the id of the next item clears the tin; no read starts a hold. -/
theorem test_tin_arrival : after (.tinArrival (some { cell := 1, serial := 1 })) (expects cell [1])
    (fun t => t.xfr.intake == .cleared (.normal 1)) = true ∧
    after (.tinArrival none) (expects cell [1]) (fun t => t.xfr.intake == .hold 0 1 0 0 none) = true := by decide +kernel

/-- R173: the third good read clears the tin. -/
theorem test_hold_read : after (.holdRead (some { cell := 1, serial := 1 })) (gated (expects cell [1]) (.hold 2 1 0 0 none))
    (fun t => t.xfr.intake == .cleared (.normal 1)) = true := by decide +kernel

/-- R175: after the fourth attempt without a read the next item is presumed. -/
theorem test_hold_period_end : after .holdPeriodEnd (gated (expects cell [1]) (.hold 0 4 0 0 none))
    (fun t => t.xfr.intake == .cleared (.presumed 1)) = true := by decide +kernel

/-- R177: the pulled tin enters slot 0 with its deferred entry planned here, and the pointer is its sequence. -/
theorem test_pull : after (.indexComplete (sensing 1)) (gated (expects (indexing .lane true) [1]) (.cleared (.normal 1)))
    (fun t => t.xfr.pointer == 1 && t.xfr.expected == [] && (t.tinAt 0).map Tin.st == some .dosing) = true := by decide +kernel

/-- R173: LHEAD_L rises in HOLD, the index's pull under way: the intake is OPEN; CLEARED, it is not. -/
theorem test_lift_off_mid_index : after .tinLiftedOff (gated (indexing .lane true) (.hold 0 1 0 0 none)) (fun t => t.xfr.intake == .opened) = true ∧
    after .tinLiftedOff (gated (indexing .lane true) (.cleared (.normal 1))) (fun t => t.xfr.intake == .cleared (.normal 1)) = true := by
  decide +kernel

/-- R169: in a cut-short pull the item replaced by one of size 9 is MARKED. -/
theorem test_consign_replaces_cut_short :
    after (.consign 1 { consignOf 1 with size := 9, tin := { cell := 1, serial := 99 } } none) (cutShort (gated (expects cell [1]) (.cleared (.normal 1))))
      (fun t => t.xfr.intake == .cleared (.marked 1)) = true := by decide +kernel

/-- R50: the shake class a marked CONSIGN does not carry is absent in its REJECT record. -/
theorem test_pull_without_shake_class : after (.indexComplete (sensing 1))
    { gated (indexing .lane true) (.cleared (.marked 1)) with xfr := { (gated (indexing .lane true) (.cleared (.marked 1))).xfr with
      expected := [{ msg := { consignOf 1 with shake := none }, mark := some .unidentified }] } }
    (fun t => (t.tinAt 0).map (fun a => (a.st, a.shake)) == some (.reject, none)) = true := by decide +kernel

/-- R31: an announced tin ends the idleness, and the timer is 0 at once. -/
theorem test_consign_wakes : after (.consign 1 (consignOf 1) none) { night with dck := { night.dck with idle := 30000 } }
    (fun t => t.dck.idle == 0 && !t.idleTest) = true := by decide +kernel

/-- R185: 59 lids take one more of five. -/
theorem test_lid_load_entry : after (.lidLoadEntry 2 3 5 false) (stackOf [{ lid := 3, count := 59 }])
    (fun t => (t.magazine 2).count == 60 && t.bus.queue.length == 1) = true := by decide +kernel

/-- R190: the pressed tin is LIDDED; R191: one that is not pressed in time is REJECT. -/
theorem test_press_ends : after .pressComplete (atLid (.pressing 0) []) (fun t => (t.tinAt 4).map Tin.st == some .lidded) = true ∧
    after .pressTimeout (atLid (.pressing 0) []) (fun t => (t.tinAt 4).map Tin.cause == some (some .lidFault)) = true := by decide +kernel

/-- R197: 295 s to go and 10 s more are held to 300 s. -/
theorem test_door_opened : after .doorOpened { shaking .running none with pins := { quietPins with clamp := true } }
    (fun t => t.shaker.st == .interrupted && t.shaker.resume == 300000) = true := by decide +kernel

/-- R199: the shaken tin is DONE at slot 7 and reported. -/
theorem test_return_complete : after .returnComplete (shaking .returning (some (.known (lidTin .shaking))))
    (fun t => (t.tinAt 7).map Tin.st == some .done && t.bus.queue.length == 1) = true := by decide +kernel

/-- R210: the emergency stop input asserted is change 1 with the time of day. -/
theorem test_attention : after (.attentionChange 0 true) cell
    (fun t => t.atn.records.map Captured.change == [{ input := 1, asserted := true, time := 36000 }]) = true := by decide +kernel

/-- R95: 2,000,001 nl begin two parts of 2 ml, so 6 s; two thirds of them for GENTLE. -/
theorem test_mix_time : mixTime 2 2000001 (some .normal) = 66 ∧ mixTime 2 2000001 (some .gentle) = 64 ∧
    mixTime 5 1000000000 (some .normal) = 300 := by decide

/-- R77: a half is rounded up (2.5 steps of 400 nl are 1,000 nl). -/
theorem test_steps_round : cell.rawSteps 3 1000 = 3 ∧ cell.rawSteps 3 999 = 2 := by decide +kernel

/-- R79: 13,000 steps at 6,000 a stroke are three strokes, the first one step longer. -/
theorem test_strokes : strokesOf 13000 (strokeCount 13000 6000) = [4334, 4333, 4333] := by decide

end Sys2Proof.Tests
end

/-! # Proofs: the send queue

How a command is taken, and one rule per operation on the send queue (R7 to R9): which notice a placed one replaces,
which one a full queue drops, and where a new one stands. -/

section
namespace Sys2Proof.Machine

/-! ## Commands of a live cell -/

/-- A command of a cell whose RESET_L is high has its effect (R201). -/
theorem State.act_live {s : State} (f : State → State) (h : s.Live) : s.act f = .next (f s) := by
  simp only [State.act, show s.cfg.held = false from h, Bool.false_eq_true, if_false]

theorem State.Hears.live {s : State} {k : Sender} {src : Nat} (h : s.Hears k src) : s.Live := h.1

theorem Sender.cell_allows {n : Nat} : Sender.cell.allows n = true ↔ 1 ≤ n ∧ n ≤ 12 := by
  simp [Sender.allows]

theorem Sender.terminal_allows {n : Nat} : Sender.terminal.allows n = true ↔ 16 ≤ n ∧ n ≤ 30 := by
  simp [Sender.allows]

/-- A cell's notice that is addressed rightly and of right counts is taken as it stands (R12). -/
theorem State.Hears.hear_cell {s : State} {src : Nat} (h : s.Hears .cell src) (take : State → State) :
    s.hear .cell src true take = take s := by
  obtain ⟨-, hl, ha, hne⟩ := h
  obtain ⟨-, h12⟩ := Sender.cell_allows.mp ha
  exact s.hear_cell hl (by simp [ha, hne]) (by omega)

/-- A terminal's notice refreshes its entry and is taken (R12, R21). -/
theorem State.Hears.hear_terminal {s : State} {src : Nat} (h : s.Hears .terminal src) (take : State → State) :
    s.hear .terminal src true take = take (s.refresh src none) := by
  obtain ⟨-, hl, ha, hne⟩ := h
  exact s.hear_terminal hl (by simp [ha, hne]) (Sender.terminal_allows.mp ha).1

/-! ## The place of a notice in the queue (R7) -/

theorem insertQueued_perm (q : Queued) (l : List Queued) : (insertQueued q l).Perm (q :: l) := by
  induction l with
  | nil => exact .refl _
  | cons a l ih =>
    unfold insertQueued
    split
    · exact (ih.cons a).trans (.swap q a l)
    · exact .refl _

theorem mem_insertQueued {q a : Queued} {l : List Queued} : a ∈ insertQueued q l ↔ a = q ∨ a ∈ l :=
  (insertQueued_perm q l).mem_iff.trans List.mem_cons

/-- A notice of the lowest urgency goes last. -/
theorem insertQueued_last {q : Queued} {l : List Queued} (h : ∀ a ∈ l, a.notice.cls ≤ q.notice.cls) :
    insertQueued q l = l ++ [q] := by
  induction l with
  | nil => rfl
  | cons a l ih =>
    obtain ⟨ha, hl⟩ := List.forall_mem_cons.mp h
    rw [insertQueued, if_pos ha, ih hl, List.cons_append]

/-- In a queue in class order a notice stands behind those of its class and ahead of the next. -/
theorem insertQueued_eq_filter {q : Queued} {l : List Queued} (h : (l.map (fun q => q.notice.cls)).Pairwise (· ≤ ·)) :
    insertQueued q l = l.filter (fun a => a.notice.cls ≤ q.notice.cls) ++
      q :: l.filter (fun a => q.notice.cls < a.notice.cls) := by
  induction l with
  | nil => rfl
  | cons a l ih =>
    rw [List.map_cons, List.pairwise_cons] at h
    obtain ⟨ha, hl⟩ := h
    unfold insertQueued
    split
    · next hle => simp [ih hl, hle, Nat.not_lt.mpr hle]
    · next hgt =>
      have behind : ∀ b ∈ a :: l, q.notice.cls < b.notice.cls := by
        refine List.forall_mem_cons.mpr ⟨Nat.not_le.mp hgt, fun b hb => ?_⟩
        have := ha _ (List.mem_map_of_mem hb)
        omega
      rw [List.filter_eq_nil_iff.mpr (fun b hb => by simpa using behind b hb),
        List.filter_eq_self.mpr (fun b hb => by simpa using behind b hb), List.nil_append]

/-- Placing a notice keeps the class order. -/
theorem insertQueued_sorted {q : Queued} {l : List Queued} (h : (l.map (fun q => q.notice.cls)).Pairwise (· ≤ ·)) :
    ((insertQueued q l).map (fun q => q.notice.cls)).Pairwise (· ≤ ·) := by
  rw [insertQueued_eq_filter h, List.pairwise_map]
  have h' := List.pairwise_map.mp h
  refine List.pairwise_append.mpr ⟨h'.filter _, List.pairwise_cons.mpr ⟨?_, h'.filter _⟩, ?_⟩
  · intro a ha
    have := (List.mem_filter.mp ha).2
    simp only [decide_eq_true_eq] at this
    omega
  · intro a ha b hb
    have ha := (List.mem_filter.mp ha).2
    rcases List.mem_cons.mp hb with rfl | hb
    · simpa using ha
    · have hb := (List.mem_filter.mp hb).2
      simp only [decide_eq_true_eq] at ha hb
      omega

/-! ## The replaced notice (R8) -/

/-- A queued notice gives its place to `q`: `q` replaces it and it is not in transmission. -/
def Queued.yields (a q : Queued) : Bool := replaces q.notice a.notice && !a.sending

theorem replaceIn_cons (q a : Queued) (l : List Queued) :
    replaceIn q (a :: l) = if a.yields q then some (q :: l) else (replaceIn q l).map (a :: ·) := rfl

theorem replaceIn_eq_none {q : Queued} {l : List Queued} (h : ∀ a ∈ l, a.yields q = false) : replaceIn q l = none := by
  induction l with
  | nil => rfl
  | cons a l ih =>
    obtain ⟨ha, hl⟩ := List.forall_mem_cons.mp h
    simp [replaceIn_cons, ha, ih hl]

theorem replaceIn_append {q a : Queued} {pre post : List Queued} (hpre : ∀ b ∈ pre, b.yields q = false)
    (ha : a.yields q = true) : replaceIn q (pre ++ a :: post) = some (pre ++ q :: post) := by
  induction pre with
  | nil => simp [replaceIn_cons, ha]
  | cons b pre ih =>
    obtain ⟨hb, hpre⟩ := List.forall_mem_cons.mp hpre
    simp [replaceIn_cons, hb, ih hpre]

theorem replaceIn_split {q : Queued} {l l' : List Queued} (h : replaceIn q l = some l') :
    ∃ pre a post, l = pre ++ a :: post ∧ l' = pre ++ q :: post ∧ a.yields q = true := by
  induction l generalizing l' with
  | nil => cases h
  | cons a l ih =>
    rw [replaceIn_cons] at h
    split at h
    · next ha => cases h; exact ⟨[], a, l, rfl, rfl, ha⟩
    · obtain ⟨m, hm, rfl⟩ := Option.map_eq_some_iff.mp h
      obtain ⟨pre, b, post, rfl, rfl, hb⟩ := ih hm
      exact ⟨a :: pre, b, post, rfl, rfl, hb⟩

/-- A notice replaces one of its own class. -/
theorem replaces_cls {m n : Notice} (h : replaces m n = true) : m.cls = n.cls := by
  cases m <;> cases n <;> first | rfl | cases h

/-! ## The dropped notice (R9) -/

theorem dropOldest_cons (c : Nat) (a : Queued) (l : List Queued) :
    dropOldest c (a :: l) = if !a.sending && a.notice.cls == c then some l else (dropOldest c l).map (a :: ·) := rfl

theorem dropOldest_sublist {c : Nat} {l l' : List Queued} (h : dropOldest c l = some l') : l'.Sublist l := by
  induction l generalizing l' with
  | nil => cases h
  | cons a l ih =>
    rw [dropOldest_cons] at h
    split at h
    · cases h; exact List.sublist_cons_self a l
    · obtain ⟨m, hm, rfl⟩ := Option.map_eq_some_iff.mp h
      exact (ih hm).cons_cons a

theorem dropOldest_append {c : Nat} {a : Queued} {pre post : List Queued}
    (hpre : ∀ b ∈ pre, b.sending = true ∨ b.notice.cls ≠ c) (ha : a.sending = false) (hc : a.notice.cls = c) :
    dropOldest c (pre ++ a :: post) = some (pre ++ post) := by
  induction pre with
  | nil => simp [dropOldest_cons, ha, hc]
  | cons b pre ih =>
    obtain ⟨hb, hpre⟩ := List.forall_mem_cons.mp hpre
    have : (!b.sending && b.notice.cls == c) = false := by rcases hb with hb | hb <;> simp [hb]
    simp [dropOldest_cons, this, ih hpre]

theorem dropOldest_eq_none {c : Nat} {l : List Queued} (h : ∀ b ∈ l, b.sending = true ∨ b.notice.cls ≠ c) :
    dropOldest c l = none := by
  induction l with
  | nil => rfl
  | cons b l ih =>
    obtain ⟨hb, hl⟩ := List.forall_mem_cons.mp h
    have : (!b.sending && b.notice.cls == c) = false := by rcases hb with hb | hb <;> simp [hb]
    simp [dropOldest_cons, this, ih hl]

theorem worstClass_cons (c : Nat) (a : Queued) (l : List Queued) :
    worstClass c (a :: l) = worstClass (if a.sending then c else max c a.notice.cls) l := rfl

/-- The worst class is one that every notice waiting and the new one stay within, and that one of them has. -/
theorem worstClass_eq {c k : Nat} {l : List Queued} (hle : c ≤ k) (h : ∀ b ∈ l, b.sending = true ∨ b.notice.cls ≤ k)
    (hk : c = k ∨ ∃ a ∈ l, a.sending = false ∧ a.notice.cls = k) : worstClass c l = k := by
  induction l generalizing c with
  | nil => simpa [worstClass] using hk
  | cons b l ih =>
    obtain ⟨hb, hl⟩ := List.forall_mem_cons.mp h
    rw [worstClass_cons]
    by_cases hs : b.sending = true
    · rw [if_pos hs]
      exact ih hle hl (hk.imp_right fun ⟨a, ha, hak⟩ => by
        rcases List.mem_cons.mp ha with rfl | ha
        · simp [hs] at hak
        · exact ⟨a, ha, hak⟩)
    · rw [if_neg hs]
      have hbk : b.notice.cls ≤ k := hb.resolve_left hs
      refine ih (max_le hle hbk) hl ?_
      rcases hk with rfl | ⟨a, ha, has, hak⟩
      · exact .inl (max_eq_left hbk)
      · rcases List.mem_cons.mp ha with rfl | ha
        · left; omega
        · exact .inr ⟨a, ha, has, hak⟩

/-! ## Placing on the bus (R7 to R9) -/

theorem Bus.add_of_room {b : Bus} (q : Queued) (h : b.queue.length < 16) :
    b.add q = { b with queue := insertQueued q b.queue } := if_pos h

theorem Bus.replaceOrAdd_of_none {b : Bus} {q : Queued} (h : ∀ a ∈ b.queue, a.yields q = false) :
    b.replaceOrAdd q = b.add q := by
  rw [Bus.replaceOrAdd, replaceIn_eq_none h]

theorem Bus.replaceOrAdd_append {b : Bus} {q a : Queued} {pre post : List Queued} (hq : b.queue = pre ++ a :: post)
    (hpre : ∀ b ∈ pre, b.yields q = false) (ha : a.yields q = true) :
    b.replaceOrAdd q = { b with queue := pre ++ q :: post } := by
  rw [Bus.replaceOrAdd, hq, replaceIn_append hpre ha]

theorem Bus.add_rxErrors (b : Bus) (q : Queued) : (b.add q).rxErrors = b.rxErrors := by
  unfold Bus.add
  split
  · rfl
  · split <;> rfl

theorem Bus.replaceOrAdd_rxErrors (b : Bus) (q : Queued) : (b.replaceOrAdd q).rxErrors = b.rxErrors := by
  unfold Bus.replaceOrAdd
  split
  · rfl
  · exact b.add_rxErrors q

theorem Bus.add_period (b : Bus) (q : Queued) : (b.add q).period = b.period := by
  unfold Bus.add
  split
  · rfl
  · split <;> rfl

theorem Bus.replaceOrAdd_period (b : Bus) (q : Queued) : (b.replaceOrAdd q).period = b.period := by
  unfold Bus.replaceOrAdd
  split
  · rfl
  · exact b.add_period q

theorem bump_le (n : Nat) : bump n ≤ 255 := Nat.min_le_left _ _

/-- What `State.QueueBound` asks, of the bus port. -/
def Bus.Bounded (b : Bus) : Prop :=
  b.queue.length ≤ 16 ∧ (b.queue.map (fun q => q.notice.cls)).Pairwise (· ≤ ·) ∧
  b.queue.countP Queued.sending ≤ 1 ∧ b.rxErrors ≤ 255 ∧ b.sendDrops ≤ 255

theorem State.queueBound_iff {s : State} : s.QueueBound ↔ s.bus.Bounded := Iff.rfl

/-- A new notice is placed within the bounds (R7, R9). -/
theorem Bus.Bounded.add {b : Bus} (h : b.Bounded) {q : Queued} (hq : q.sending = false) : (b.add q).Bounded := by
  have hlen := b.add_length q h.1
  obtain ⟨-, hsort, hsend, hrx, hdrop⟩ := h
  have placed : ∀ l : List Queued, l.Sublist b.queue →
      ((insertQueued q l).map (fun q => q.notice.cls)).Pairwise (· ≤ ·) ∧ (insertQueued q l).countP Queued.sending ≤ 1 := by
    intro l hl
    refine ⟨insertQueued_sorted (hsort.sublist (hl.map _)), ?_⟩
    rw [(insertQueued_perm q l).countP_eq, List.countP_cons_of_neg (by simp [hq])]
    exact hl.countP_le.trans hsend
  revert hlen
  unfold Bus.add
  split
  · exact fun hlen => ⟨hlen, (placed _ (.refl _)).1, (placed _ (.refl _)).2, hrx, hdrop⟩
  · split
    · exact fun hlen => ⟨hlen, hsort, hsend, hrx, bump_le _⟩
    · next l hl =>
      have := placed l (dropOldest_sublist hl)
      exact fun hlen => ⟨hlen, this.1, this.2, hrx, bump_le _⟩

/-- A notice that takes the place of another keeps the bounds (R8). -/
theorem Bus.Bounded.replaceOrAdd {b : Bus} (h : b.Bounded) {q : Queued} (hq : q.sending = false) :
    (b.replaceOrAdd q).Bounded := by
  unfold Bus.replaceOrAdd
  split
  · next l hl =>
    obtain ⟨pre, a, post, hb, rfl, ha⟩ := replaceIn_split hl
    obtain ⟨hrep, has⟩ := Bool.and_eq_true_iff.mp ha
    simp only [Bus.Bounded, hb] at h ⊢
    simp only [List.map_append, List.map_cons, replaces_cls hrep, List.countP_append, List.countP_cons, hq,
      List.length_append, List.length_cons] at h ⊢
    simpa [show a.sending = false by simpa using has] using h
  · exact h.add hq

/-- The notices left of a queue, each with its class and none newly in transmission, keep the bounds. -/
theorem Bus.Bounded.filterMap {b : Bus} (h : b.Bounded) {f : Queued → Option Queued} {d : Nat} (hd : d ≤ 255)
    (hf : ∀ a a', f a = some a' → a'.notice = a.notice ∧ (a'.sending = true → a.sending = true)) :
    ({ b with queue := b.queue.filterMap f, sendDrops := d } : Bus).Bounded := by
  obtain ⟨hlen, hsort, hsend, hrx, -⟩ := h
  refine ⟨(List.length_filterMap_le f _).trans hlen, ?_, ?_, hrx, hd⟩
  · refine List.pairwise_map.mpr (List.pairwise_filterMap.mpr ((List.pairwise_map.mp hsort).imp ?_))
    intro a c hac a' ha' c' hc'
    rw [(hf a a' ha').1, (hf c c' hc').1]
    exact hac
  · refine le_trans ?_ hsend
    rw [List.countP_filterMap]
    refine List.countP_mono_left fun a _ ha => ?_
    cases hfa : f a with
    | none => simp [hfa] at ha
    | some a' => exact (hf a a' hfa).2 (by simpa [hfa] using ha)

end Sys2Proof.Machine
end

/-! # Proofs: what every step keeps of the records (O58)

`State.KeepsRecords s t` says that going from `s` to `t` keeps each law of the records. It is a preorder, so one lemma
per operation is enough, and a command keeps the laws because the operations it is made of do. Two operations are apart:
the release of a tin into the lane and the start of an index, whose effect on the lane is bounded by R145 and R155. -/

section
namespace Sys2Proof.Machine

/-! ## The laws kept from one state to another -/

/-- Going from `s` to `t` keeps the laws of the queue, the book, the magazines, the chute and the volumes. -/
structure State.KeepsStores (s t : State) : Prop where
  queue : s.QueueBound → t.QueueBound
  book : s.BookSound → t.BookSound
  magazines : s.MagazinesSound → t.MagazinesSound
  chute : s.ChuteBound → t.ChuteBound
  levels : s.LevelsHeld → t.LevelsHeld
  content : s.ContentHeld → t.ContentHeld

/-- Going from `s` to `t` puts no record into the lane and sends no index to it. -/
structure State.KeepsLane (s t : State) : Prop where
  transit : t.xfr.inTransit.length ≤ s.xfr.inTransit.length
  forLane : t.seg.index.forLane = true → s.seg.index.forLane = true

/-- Going from `s` to `t` keeps every law of the records, adding nothing to the lane. -/
structure State.KeepsRecords (s t : State) : Prop extends s.KeepsStores t, s.KeepsLane t

theorem State.KeepsStores.trans {s t u : State} (h : s.KeepsStores t) (h' : t.KeepsStores u) : s.KeepsStores u where
  queue := h'.queue ∘ h.queue
  book := h'.book ∘ h.book
  magazines := h'.magazines ∘ h.magazines
  chute := h'.chute ∘ h.chute
  levels := h'.levels ∘ h.levels
  content := h'.content ∘ h.content

theorem State.KeepsLane.trans {s t u : State} (h : s.KeepsLane t) (h' : t.KeepsLane u) : s.KeepsLane u where
  transit := h'.transit.trans h.transit
  forLane := h.forLane ∘ h'.forLane

theorem State.KeepsRecords.trans {s t u : State} (h : s.KeepsRecords t) (h' : t.KeepsRecords u) : s.KeepsRecords u :=
  ⟨h.toKeepsStores.trans h'.toKeepsStores, h.toKeepsLane.trans h'.toKeepsLane⟩

/-- The parts of a state that the laws of the records read, but for the lane. -/
def State.stores (s : State) : Bus × List OrderEntry × List Magazine × Nat × List Canister × List Pump × Option Image :=
  (s.bus, s.book, s.lids.magazines, s.seg.chute, s.canisters, s.shots.pumps, s.cfg.image)

theorem State.KeepsStores.of_eq {s t : State} (h : t.stores = s.stores) : s.KeepsStores t := by
  simp only [State.stores, Prod.mk.injEq] at h
  obtain ⟨hbus, hbook, hmag, hchute, hcan, hpumps, himage⟩ := h
  refine ⟨fun h => ?_, fun h => ?_, fun h => ?_, fun h => ?_, fun h => ?_, fun h => ?_⟩
  · rwa [State.QueueBound, hbus]
  · rwa [State.BookSound, State.openJobs, hbook]
  · rwa [State.MagazinesSound, hmag]
  · rwa [State.ChuteBound, hchute]
  · simpa only [State.LevelsHeld, State.fitted, State.canister, hcan, himage] using h
  · simpa only [State.ContentHeld, State.pump, State.pumpCfg, hpumps, himage] using h

/-- A change of none of the parts that the laws read keeps them. -/
theorem State.KeepsRecords.of_eq {s t : State} (hs : t.stores = s.stores) (hx : t.xfr.inTransit = s.xfr.inTransit)
    (hi : t.seg.index = s.seg.index) : s.KeepsRecords t :=
  ⟨.of_eq hs, ⟨by rw [hx], by rw [hi]; exact fun h => h⟩⟩

theorem State.KeepsRecords.refl (s : State) : s.KeepsRecords s := .of_eq rfl rfl rfl

theorem State.KeepsLane.laneBound {s t : State} (h : s.KeepsLane t) (hs : s.LaneBound) : t.LaneBound :=
  ⟨h.transit.trans hs.1, fun hf => h.transit.trans (hs.2 (h.forLane hf))⟩

theorem State.keeps_foldl {α : Type} {f : State → α → State} (h : ∀ (s : State) (a : α), s.KeepsRecords (f s a)) (l : List α) (s : State) :
    s.KeepsRecords (l.foldl f s) := by
  induction l generalizing s with
  | nil => exact .refl s
  | cons a l ih => exact (h s a).trans (ih _)

/-- A choice between two states that keep the laws keeps them. -/
theorem State.keeps_ite {s t u : State} {c : Prop} [Decidable c] (ht : c → s.KeepsRecords t) (hu : ¬c → s.KeepsRecords u) :
    s.KeepsRecords (if c then t else u) := by
  split
  · next h => exact ht h
  · next h => exact hu h

variable (s : State)

/-! ## The send queue -/

theorem State.keeps_place (n : Notice) : s.KeepsRecords (s.place n) :=
  { State.KeepsRecords.refl s with
    queue := fun h => Bus.Bounded.add h rfl }

theorem State.keeps_placeAgain {q : Queued} (hq : q.sending = false) : s.KeepsRecords (s.placeAgain q) :=
  { State.KeepsRecords.refl s with
    queue := fun h => Bus.Bounded.replaceOrAdd h hq }

theorem State.keeps_rxError : s.KeepsRecords s.rxError :=
  { State.KeepsRecords.refl s with
    queue := fun ⟨hlen, hsort, hsend, _, hdrop⟩ => ⟨hlen, hsort, hsend, bump_le _, hdrop⟩ }

theorem State.keeps_buildStatus : s.KeepsRecords s.buildStatus :=
  .trans (t := { s with bus := { s.bus with period := 0 } }) { State.KeepsRecords.refl s with queue := fun h => h }
    (State.keeps_placeAgain _ rfl)

/-! ## The order book -/

/-- The entries of a sound book have an id each, so an entry is the one its id finds. -/
theorem State.entry_of_mem {s : State} (h : (s.book.map OrderEntry.id).Nodup) {e : OrderEntry} (he : e ∈ s.book) :
    s.entry e.id = some e := by
  unfold State.entry
  generalize s.book = l at h he
  induction l with
  | nil => cases he
  | cons a l ih =>
    rw [List.map_cons, List.nodup_cons] at h
    rcases List.mem_cons.mp he with rfl | he
    · simp
    · have : a.id ≠ e.id := fun hid => h.1 (hid ▸ List.mem_map_of_mem he)
      simpa [List.find?_cons, this] using ih h.2 he

theorem State.entry_some {s : State} {id : OrderId} {e : OrderEntry} (h : s.entry id = some e) : e ∈ s.book ∧ e.id = id :=
  ⟨List.mem_of_find?_eq_some h, by simpa using List.find?_some h⟩

/-- Entries changed in place, no id changed and none made an open job, keep the book sound. -/
theorem State.BookSound.map {s : State} (h : s.BookSound) {f : OrderEntry → OrderEntry} (hid : ∀ e, (f e).id = e.id)
    (ho : ∀ e ∈ s.book, (f e).openJob = true → e.openJob = true) : { s with book := s.book.map f }.BookSound := by
  obtain ⟨hlen, hnd, hopen⟩ := h
  refine ⟨by simpa using hlen, ?_, ?_⟩
  · rwa [show (s.book.map f).map OrderEntry.id = s.book.map OrderEntry.id by
      rw [List.map_map]; exact List.map_congr_left fun e _ => hid e]
  · refine le_trans ?_ hopen
    simp only [State.openJobs, ← List.countP_eq_length_filter, List.countP_map]
    exact List.countP_mono_left ho

/-- The entry of an id changed, its id kept and no job opened, keeps the laws (R51). -/
theorem State.keeps_modEntry {id : OrderId} {f : OrderEntry → OrderEntry} (hid : ∀ e, (f e).id = e.id)
    (ho : ∀ e, s.entry id = some e → (f e).openJob = true → e.openJob = true) : s.KeepsRecords (s.modEntry id f) :=
  { State.KeepsRecords.refl s with
    book := fun h => by
      refine h.map (fun e => ?_) fun e he => ?_
      · split
        · exact hid e
        · rfl
      · split
        · next heq => exact ho e (by rw [← eq_of_beq heq]; exact State.entry_of_mem h.2.1 he)
        · exact fun ho => ho }

/-- A change that keeps the state of an entry and whether it has a job opens nothing. -/
theorem OrderEntry.openJob_of_same {e e' : OrderEntry} (hst : e'.st = e.st) (hj : e'.job.isSome = e.job.isSome) :
    e'.openJob = e.openJob := by
  simp [OrderEntry.openJob, hst, hj]

/-- A change of the job an entry holds opens nothing. -/
theorem OrderEntry.openJob_mapJob (e : OrderEntry) (f : Job → Job) : { e with job := e.job.map f }.openJob = e.openJob :=
  OrderEntry.openJob_of_same rfl (by simp)

theorem OrderEntry.openJob_eq_false {e : OrderEntry} (h : OrderState.isOpen e.st = false) : e.openJob = false := by
  simp [OrderEntry.openJob, h]

theorem State.keeps_placeJobStatus (id : OrderId) : s.KeepsRecords (s.placeJobStatus id) := by
  unfold State.placeJobStatus
  split
  · exact .refl s
  · split
    · refine (s.keeps_place _).trans (State.keeps_modEntry _ (fun _ => rfl) fun e _ h => ?_)
      exact (e.openJob_mapJob _).symm.trans h
    · exact .refl s

theorem State.keeps_placeClaim (id : OrderId) : s.KeepsRecords (s.placeClaim id) := by
  unfold State.placeClaim
  split
  · exact .refl s
  · exact State.keeps_ite (fun _ => s.keeps_place _) fun _ => .refl s

/-- An open job that only changes its state stays one at most. -/
theorem State.keeps_setSt {id : OrderId} {e : OrderEntry} (he : s.entry id = some e) (st : OrderState)
    (h : OrderState.isOpen st = true → OrderState.isOpen e.st = true) :
    s.KeepsRecords (s.modEntry id (fun e => { e with st := st })) := by
  refine s.keeps_modEntry (fun _ => rfl) fun e' he' ho => ?_
  cases he.symm.trans he'
  obtain ⟨hj, hs⟩ := Bool.and_eq_true_iff.mp ho
  exact Bool.and_eq_true_iff.mpr ⟨hj, h hs⟩

/-- A finished entry is no open job (R51). -/
theorem State.keeps_finish (id : OrderId) {st : OrderState} (h : OrderState.isOpen st = false) :
    s.KeepsRecords (s.modEntry id (fun e => e.finish st)) :=
  s.keeps_modEntry (fun _ => rfl) fun e _ ho => by simp [OrderEntry.openJob, OrderEntry.finish, h] at ho

/-- A job that an entry holds may be replaced by another. -/
theorem State.keeps_setJob {id : OrderId} {e : OrderEntry} (he : s.entry id = some e) (hj : e.job.isSome) (j : Job) :
    s.KeepsRecords (s.modEntry id (fun e => { e with job := some j })) := by
  refine s.keeps_modEntry (fun _ => rfl) fun e' he' ho => ?_
  cases he.symm.trans he'
  rwa [← OrderEntry.openJob_of_same (e := e) (e' := { e with job := some j }) rfl hj.symm]

/-- Jobs changed where entries hold them open nothing. -/
theorem State.keeps_mapJob (id : OrderId) (f : Job → Job) :
    s.KeepsRecords (s.modEntry id (fun e => { e with job := e.job.map f })) := by
  refine s.keeps_modEntry (fun _ => rfl) fun e _ ho => ?_
  exact (e.openJob_mapJob f).symm.trans ho

theorem State.keeps_retestJob (id : OrderId) : s.KeepsRecords (s.retestJob id) := by
  unfold State.retestJob
  split
  · exact .refl s
  · next e he =>
    refine State.keeps_ite (fun hc => ?_) fun _ => .refl s
    have hst : e.st = .ownBlocked := by simpa using (Bool.and_eq_true_iff.mp hc).1
    exact (s.keeps_setSt he _ fun _ => by rw [hst]; rfl).trans (State.keeps_placeJobStatus _ id)

theorem State.keeps_retestBlocked : s.KeepsRecords s.retestBlocked := State.keeps_foldl State.keeps_retestJob _ s

theorem State.keeps_tellCover (before : List CoverItem) : s.KeepsRecords (s.tellCover before) :=
  State.keeps_ite (fun _ => .refl s) fun _ => s.keeps_retestBlocked

theorem State.keeps_endPrompt : s.KeepsRecords s.endPrompt := .of_eq rfl rfl rfl

theorem State.keeps_withdrawPrompt (id : OrderId) : s.KeepsRecords (s.withdrawPrompt id) :=
  State.keeps_ite (fun _ => s.keeps_endPrompt) fun _ => .refl s

theorem State.keeps_settleJob (id : OrderId) (f : TinFate) : s.KeepsRecords (s.settleJob id f) := by
  unfold State.settleJob
  split
  · exact .refl s
  · next e he =>
    split
    · exact .refl s
    · next j hj =>
      have settle : s.KeepsRecords (if f == .done then
          if j.done = e.tinCount then (s.modEntry id (fun e => e.finish .ownComplete)).placeJobStatus id else s
        else if j.remakes < 3 then
          (s.modEntry id (fun e => { e with job := some { j with remakes := j.remakes + 1 } })).placeJobStatus id
        else ((s.modEntry id (fun e => e.finish .ownFailed)).withdrawPrompt id).placeJobStatus id) := by
        refine State.keeps_ite (fun _ => State.keeps_ite (fun _ => ?_) fun _ => .refl s)
          fun _ => State.keeps_ite (fun _ => ?_) fun _ => ?_
        · exact (s.keeps_finish id rfl).trans (State.keeps_placeJobStatus _ id)
        · exact (s.keeps_setJob he (by simp [hj]) _).trans (State.keeps_placeJobStatus _ id)
        · exact ((s.keeps_finish id rfl).trans (State.keeps_withdrawPrompt _ id)).trans (State.keeps_placeJobStatus _ id)
      split
      case h_1 => exact settle
      case h_2 => exact settle
      case h_3 =>
        exact State.keeps_ite (fun _ => (s.keeps_finish id rfl).trans (State.keeps_placeJobStatus _ id)) fun _ => .refl s
      all_goals exact .refl s

theorem State.keeps_resolveTin (tin : TinId) (f : TinFate) : s.KeepsRecords (s.resolveTin tin f) := by
  unfold State.resolveTin
  split
  · exact .refl s
  · exact ((s.keeps_mapJob _ _).trans (State.keeps_placeJobStatus _ _)).trans (State.keeps_settleJob _ _ _)

theorem State.keeps_report (m : TinReportMsg) : s.KeepsRecords (s.report m) :=
  State.keeps_ite (fun _ => (s.keeps_place _).trans (State.keeps_resolveTin _ _ _)) fun _ => s.keeps_place _

/-! ## Canisters -/

/-- Canisters whose levels have not risen keep within their capacities (R98). -/
theorem State.LevelsHeld.of_le {s t : State} (h : s.LevelsHeld) (hf : ∀ n, t.fitted n = s.fitted n)
    (hl : ∀ n, (t.canister n).level ≤ (s.canister n).level) : t.LevelsHeld := by
  intro n hn c hc
  obtain ⟨hdead, hlev⟩ := h n hn c (hf n ▸ hc)
  exact ⟨hdead, (hl n).trans hlev⟩

theorem State.canister_modCanister (n m : Nat) (f : Canister → Canister) : (s.modCanister n f).canister m =
    (s.canisters[m]?.map (fun c => if n = m then f c else c)).getD Canister.blank := by
  simp [State.canister, State.modCanister, List.getD_eq_getElem?_getD, List.getElem?_modify]

/-- A canister changed without a rise of its level keeps the laws. -/
theorem State.keeps_modCanister (n : Nat) {f : Canister → Canister} (hf : ∀ c, (f c).level ≤ c.level) :
    s.KeepsRecords (s.modCanister n f) :=
  { State.KeepsRecords.refl s with
    levels := fun h => h.of_le (fun _ => rfl) fun m => by
      rw [State.canister_modCanister, State.canister, List.getD_eq_getElem?_getD]
      cases s.canisters[m]? with
      | none => exact le_rfl
      | some c =>
        simp only [Option.map_some, Option.getD_some]
        split
        · exact hf c
        · exact le_rfl }

theorem State.keeps_modStir (n : Nat) (f : Stirrer → Stirrer) : s.KeepsRecords (s.modStir n f) :=
  s.keeps_modCanister n fun _ => le_rfl

theorem State.keeps_stirTest (n : Nat) : s.KeepsRecords (s.stirTest n) := by
  unfold State.stirTest
  split
  · exact .refl s
  · exact State.keeps_ite (fun _ => State.keeps_ite (fun _ => s.keeps_modStir n _)
      fun _ => State.keeps_ite (fun _ => s.keeps_modStir n _) fun _ => .refl s) fun _ => .refl s

theorem State.keeps_stirTestAll : s.KeepsRecords s.stirTestAll := State.keeps_foldl State.keeps_stirTest _ s

theorem Canister.draw_level (c : Canister) (v : Nat) : (c.draw v).level ≤ c.level := by
  cases h : c.stock <;> simp [Canister.level, Canister.draw, h]

theorem Canister.takeLock_level (c : Canister) : c.takeLock.level = c.level := by
  unfold Canister.takeLock
  split <;> rfl

theorem State.keeps_holdEnd (n : Nat) : s.KeepsRecords (s.holdEnd n) := by
  refine (s.keeps_modCanister n (f := Canister.takeLock) fun c => c.takeLock_level.le).trans ?_
  unfold State.holdEnd
  dsimp only
  split
  · exact .refl _
  · split
    · exact State.keeps_ite (fun _ => State.keeps_modStir _ n _) fun _ => State.keeps_modStir _ n _
    · exact State.keeps_stirTest _ n
    · exact .refl _

theorem State.keeps_stirDue (n : Nat) : s.KeepsRecords (s.stirDue n) := by
  unfold State.stirDue
  split
  · exact .refl s
  · split
    · exact (s.keeps_modStir n _).trans (State.keeps_stirTest _ n)
    · exact .refl s
    · exact s.keeps_modStir n _

theorem State.keeps_dueTest (n : Nat) : s.KeepsRecords (s.dueTest n) :=
  State.keeps_ite (fun _ => (s.keeps_modStir n _).trans (State.keeps_stirTest _ n)) fun _ => .refl s

theorem State.keeps_dueTestAll : s.KeepsRecords s.dueTestAll := State.keeps_foldl State.keeps_dueTest _ s

theorem State.keeps_pullDue (n i : Nat) : s.KeepsRecords (s.pullDue n i) :=
  State.keeps_ite (fun _ => s.keeps_modStir n _) fun _ => .refl s

theorem State.keeps_settingBack : s.KeepsRecords s.settingBack := by
  refine State.keeps_foldl (fun s n => ?_) _ s
  split
  · exact .refl s
  · exact s.keeps_pullDue n _

theorem State.keeps_windowOpened : s.KeepsRecords s.windowOpened := by
  refine State.keeps_foldl (fun s n => ?_) _ s
  split
  · exact .refl s
  · exact s.keeps_pullDue n _

/-- Every canister changed without a rise of its level keeps the laws. -/
theorem State.keeps_mapCanisters {f : Canister → Canister} (hf : ∀ c, (f c).level ≤ c.level) :
    s.KeepsRecords { s with canisters := s.canisters.map f } :=
  { State.KeepsRecords.refl s with
    levels := fun h => h.of_le (fun _ => rfl) fun m => by
      simp only [State.canister, List.getD_eq_getElem?_getD, List.getElem?_map]
      cases s.canisters[m]? with
      | none => exact le_rfl
      | some c => exact hf c }

theorem State.keeps_stopStirrers : s.KeepsRecords s.stopStirrers := s.keeps_mapCanisters fun _ => le_rfl

/-! ## Pumps and entries -/

theorem State.pump_modPump (n m : Nat) (f : Pump → Pump) : (s.modPump n f).pump m =
    (s.shots.pumps[m]?.map (fun u => if n = m then f u else u)).getD Pump.blank := by
  simp [State.pump, State.modPump, List.getD_eq_getElem?_getD, List.getElem?_modify]

/-- A pump whose new content lies within its stroke steps keeps the laws (R119). -/
theorem State.keeps_modPump (n : Nat) {f : Pump → Pump}
    (hf : ∀ u, u.content ≤ (s.pumpCfg n).strokeSteps → (f u).content ≤ (s.pumpCfg n).strokeSteps) :
    s.KeepsRecords (s.modPump n f) :=
  { State.KeepsRecords.refl s with
    content := fun h m => by
      have hm := h m
      rw [State.pump, List.getD_eq_getElem?_getD] at hm
      rw [State.pump_modPump]
      cases hp : s.shots.pumps[m]? with
      | none => simp [Pump.blank]
      | some u =>
        simp only [hp, Option.map_some, Option.getD_some] at hm ⊢
        split
        · next hnm => subst hnm; exact hf u hm
        · exact hm }

theorem Pump.begin_content (p : Pump) (k c : Nat) : (p.begin k c).content = p.content := by
  unfold Pump.begin
  split <;> split <;> rfl

theorem rederive_le (p : PumpCfg) (g : Gray) : rederive p g ≤ p.strokeSteps := Nat.min_le_left _ _

theorem State.keeps_nextMove (ch : Nat) : s.KeepsRecords (s.nextMove ch) := by
  unfold State.nextMove
  split
  · next p _ =>
    split
    · exact .refl s
    · exact State.keeps_ite (fun _ => s.keeps_modPump _ fun u hu => (u.begin_content _ _).le.trans hu)
        fun _ => s.keeps_modPump _ fun _ hu => hu
  · exact .refl s

theorem State.keeps_resumeMove (ch : Nat) : s.KeepsRecords (s.resumeMove ch) := by
  unfold State.resumeMove
  split
  · exact .refl s
  · exact State.keeps_ite (fun _ => s.keeps_nextMove ch) fun _ => .refl s

theorem State.keeps_resumeMoves : s.KeepsRecords s.resumeMoves := State.keeps_foldl State.keeps_resumeMove _ s

theorem State.keeps_setChannel (ch : Nat) (e : Option Nat) : s.KeepsRecords (s.setChannel ch e) := .of_eq rfl rfl rfl

theorem State.keeps_freeChannel (ch n : Nat) : s.KeepsRecords (s.freeChannel ch n) :=
  (s.keeps_setChannel ch none).trans (State.keeps_holdEnd _ n)

theorem State.keeps_setSlot (n : Nat) (r : Option TinRecord) : s.KeepsRecords (s.setSlot n r) := .of_eq rfl rfl rfl

theorem State.keeps_modTinAt (n : Nat) (f : Tin → Tin) : s.KeepsRecords (s.modTinAt n f) := by
  unfold State.modTinAt
  split
  · exact .refl s
  · exact s.keeps_setSlot n _

theorem State.pumpCfg_modTinAt (n m : Nat) (f : Tin → Tin) : (s.modTinAt n f).pumpCfg m = s.pumpCfg m := by
  obtain ⟨g, h⟩ := s.modTinAt_frame n f
  rw [h]
  rfl

theorem State.keeps_abortEntry (ch emitted : Nat) (st : PumpState) (g : Gray) :
    s.KeepsRecords (s.abortEntry ch emitted st g) := by
  unfold State.abortEntry
  split
  · exact s.keeps_setChannel ch none
  · next e _ =>
    split
    · exact s.keeps_setChannel ch none
    · next p _ =>
      dsimp only
      generalize hv : emitted * (s.pumpCfg p.canister).d = v
      generalize hs : s.modTinAt 2 (fun t => t.failEntry e.index emitted v) = s1
      have hk : s.KeepsRecords s1 := hs ▸ s.keeps_modTinAt 2 _
      have hcfg : s1.pumpCfg p.canister = s.pumpCfg p.canister := hs ▸ s.pumpCfg_modTinAt 2 _ _
      have hcharge : s1.KeepsRecords (s1.chargeAbort p.canister v) := s1.keeps_modCanister _ fun c => c.draw_level v
      refine ((hk.trans hcharge).trans (State.keeps_modPump _ p.canister fun u _ => ?_)).trans (State.keeps_freeChannel _ ch _)
      change rederive (s.pumpCfg p.canister) g ≤ (s1.pumpCfg p.canister).strokeSteps
      rw [hcfg]
      exact rederive_le _ g

theorem State.keeps_stopEntry (ch : Nat) : s.KeepsRecords (s.stopEntry ch) := by
  unfold State.stopEntry
  split
  · exact s.keeps_setChannel ch none
  · exact s.keeps_abortEntry _ _ _ _

theorem State.keeps_stopEntries : s.KeepsRecords s.stopEntries := State.keeps_foldl State.keeps_stopEntry _ s

theorem State.keeps_settleSlot2 : s.KeepsRecords s.settleSlot2 := s.keeps_modTinAt 2 _

theorem State.keeps_afterDosing (before : List CoverItem) : s.KeepsRecords (s.afterDosing before) :=
  s.keeps_settleSlot2.trans (State.keeps_tellCover _ before)

/-! ## Lid magazines -/

/-- A magazine made sound out of a sound one keeps the laws (R183). -/
theorem State.keeps_modMagazine (n : Nat) {f : Magazine → Magazine}
    (hf : n ≠ 0 → ∀ m, s.lids.magazines[n - 1]? = some m → m.Sound → (f m).Sound) :
    s.KeepsRecords (s.modMagazine n f) := by
  unfold State.modMagazine
  split
  · exact .refl s
  · next hn =>
    refine { State.KeepsRecords.refl s with magazines := fun h m hm => ?_ }
    obtain ⟨i, hi⟩ := List.mem_iff_getElem?.mp hm
    rw [List.getElem?_modify] at hi
    obtain ⟨m', hm', rfl⟩ := Option.map_eq_some_iff.mp hi
    have hs := h m' (List.mem_of_getElem? hm')
    split
    · next hni => exact hf hn m' (hni ▸ hm') hs
    · exact hs

theorem Magazine.Sound.empty (p : Nat) : ({ layers := [], pulses := p } : Magazine).Sound :=
  ⟨by simp, by simp [Magazine.count], by simp⟩

/-- A lid popped leaves a sound magazine (R188). -/
theorem Magazine.Sound.pop {m : Magazine} (h : m.Sound) (p : Nat) :
    ({ layers := popLid m.layers, pulses := p } : Magazine).Sound := by
  obtain ⟨hlen, hcount, hall⟩ := h
  obtain ⟨layers, _⟩ := m
  cases layers with
  | nil => exact .empty p
  | cons a l =>
    obtain ⟨ha, hrest⟩ := List.forall_mem_cons.mp hall
    simp only [Magazine.count, List.map_cons, List.sum_cons, List.length_cons] at hlen hcount
    rw [popLid]
    split
    · exact ⟨show l.length ≤ 6 by omega, show (l.map Layer.count).sum ≤ 60 by omega, hrest⟩
    · refine ⟨show l.length + 1 ≤ 6 from hlen, ?_, List.forall_mem_cons.mpr ⟨⟨?_, ha.2⟩, hrest⟩⟩
      · simp only [Magazine.count, List.map_cons, List.sum_cons]
        omega
      · dsimp only
        omega

/-- Lids pushed where there is room for them and for their layer leave a sound magazine (R185). -/
theorem Magazine.Sound.push {m : Magazine} (h : m.Sound) {lid n : Nat} (hlid : 1 ≤ lid) (hn : 1 ≤ n) (hroom : m.count + n ≤ 60)
    (hlayer : topIs lid m.layers = true ∨ m.layers.length < 6) :
    ({ m with layers := pushLids lid n m.layers } : Magazine).Sound := by
  obtain ⟨hlen, -, hall⟩ := h
  obtain ⟨layers, p⟩ := m
  cases layers with
  | nil =>
    simp only [Magazine.count, List.map_nil, List.sum_nil] at hroom
    exact ⟨by simp [pushLids], show n + 0 ≤ 60 by omega, by simp [pushLids, hlid, hn]⟩
  | cons a l =>
    obtain ⟨ha, hrest⟩ := List.forall_mem_cons.mp hall
    simp only [Magazine.count, List.map_cons, List.sum_cons, List.length_cons] at hlen hroom hlayer
    rw [pushLids]
    split
    · refine ⟨show l.length + 1 ≤ 6 from hlen, ?_, List.forall_mem_cons.mpr ⟨⟨?_, ha.2⟩, hrest⟩⟩
      · simp only [Magazine.count, List.map_cons, List.sum_cons]
        omega
      · dsimp only
        omega
    · next hne =>
      have hroom6 : l.length + 1 < 6 := hlayer.resolve_left (by simpa [topIs] using hne)
      refine ⟨show l.length + 2 ≤ 6 by omega, ?_, List.forall_mem_cons.mpr ⟨⟨hn, hlid⟩, hall⟩⟩
      simp only [Magazine.count, List.map_cons, List.sum_cons]
      omega

/-- A LID LOAD that no test refuses has lids, a lid type, and room in its magazine (R184). -/
theorem State.lidLoadCode_none {s : State} {size lid count : Nat} (h : s.lidLoadCode size lid count = none) :
    1 ≤ lid ∧ 1 ≤ count ∧ (s.magazine size).count < 60 ∧
      (topIs lid (s.magazine size).layers = true ∨ (s.magazine size).layers.length < 6) := by
  unfold State.lidLoadCode at h
  split at h
  · cases h
  · split at h
    · cases h
    · split at h
      · cases h
      · split at h
        · cases h
        · split at h
          · cases h
          · next hlid hcount hfull hlayers =>
            refine ⟨by omega, by omega, by simpa [lidMax] using hfull, ?_⟩
            by_contra hcon
            obtain ⟨htop, hlen⟩ := not_or.mp hcon
            exact hlayers (by simp [layerMax, htop, Nat.not_lt.mp hlen])

theorem State.keeps_loadLids (size lid count : Nat) : s.KeepsRecords (s.loadLids size lid count) := by
  unfold State.loadLids
  split
  · exact .of_eq rfl rfl rfl
  · next h =>
    obtain ⟨hlid, hcount, hfull, hlayers⟩ := State.lidLoadCode_none h
    refine (s.keeps_modMagazine size (f := fun m => { m with layers := pushLids lid (s.lidsAccepted size count) m.layers })
      fun h0 m hm hs => ?_).trans (.of_eq rfl rfl rfl)
    have hmag : s.magazine size = m := by
      rw [State.magazine, if_neg h0, List.getD_eq_getElem?_getD, hm, Option.getD_some]
    rw [hmag] at hfull hlayers
    refine hs.push hlid ?_ ?_ hlayers
    all_goals
      simp only [State.lidsAccepted, hmag, lidMax]
      omega

theorem State.keeps_setBay (b : LidBay) : s.KeepsRecords (s.setBay b) := .of_eq rfl rfl rfl

theorem State.keeps_pressStart : s.KeepsRecords s.pressStart := by
  unfold State.pressStart
  split
  · exact .refl s
  · refine State.keeps_ite (fun _ => State.keeps_ite (fun _ => State.keeps_ite (fun _ => ?_) fun _ => ?_)
      fun _ => s.keeps_setBay _) fun _ => .refl s
    · exact (s.keeps_modMagazine _ fun _ m _ hs => hs.pop _).trans (State.keeps_setBay _ _)
    · exact (s.keeps_modMagazine _ fun _ m _ _ => .empty _).trans (State.keeps_setBay _ _)

theorem State.keeps_lidLook : s.KeepsRecords s.lidLook :=
  State.keeps_ite (fun _ => s.keeps_pressStart) fun _ => .refl s

theorem State.keeps_lidOnState : s.KeepsRecords s.lidOnState := by
  refine State.keeps_ite (fun _ => ?_) fun _ => .refl s
  split
  · exact s.keeps_pressStart
  · exact s.keeps_pressStart
  · exact s.keeps_setBay _
  · exact .refl s

theorem State.keeps_lidRejudge (n : Nat) : s.KeepsRecords (s.lidRejudge n) := by
  unfold State.lidRejudge
  split
  · exact State.keeps_ite (fun _ => s.keeps_pressStart) fun _ => .refl s
  · exact .refl s

/-! ## Shaker, prompt, cap, and a change of cell state -/

theorem State.keeps_shakerLook : s.KeepsRecords s.shakerLook := by
  obtain ⟨k, h⟩ := s.shakerLook_frame
  rw [h]
  exact .of_eq rfl rfl rfl

theorem State.keeps_shakerOnState : s.KeepsRecords s.shakerOnState := by
  obtain ⟨k, h⟩ := s.shakerOnState_frame
  rw [h]
  exact .of_eq rfl rfl rfl

theorem State.keeps_judgePrompt : s.KeepsRecords s.judgePrompt := by
  unfold State.judgePrompt
  split
  · refine State.keeps_ite (fun _ => ?_) fun _ => .refl s
    unfold State.handLabel
    split
    · exact .of_eq rfl rfl rfl
    · exact .of_eq rfl rfl rfl
  · exact .refl s
  · exact .refl s

theorem State.keeps_promptOnState : s.KeepsRecords s.promptOnState :=
  State.keeps_ite (fun _ => s.keeps_judgePrompt) fun _ => State.keeps_ite (fun _ => s.keeps_endPrompt) fun _ => .refl s

theorem State.keeps_dck (d : DayClock) : s.KeepsRecords { s with dck := d } := .of_eq rfl rfl rfl

theorem State.keeps_capOpen : s.KeepsRecords s.capOpen := by
  obtain ⟨d, h⟩ := s.capOpen_frame
  rw [h]
  exact s.keeps_dck d

theorem State.keeps_capClose : s.KeepsRecords s.capClose := by
  obtain ⟨d, h⟩ := s.capClose_frame
  rw [h]
  exact s.keeps_dck d

theorem State.keeps_judgeCap : s.KeepsRecords s.judgeCap := by
  obtain ⟨d, h⟩ := s.judgeCap_frame
  rw [h]
  exact s.keeps_dck d

theorem State.keeps_enter (c : CellState) : s.KeepsRecords (s.enter c) :=
  ((((((s.keeps_dck _).trans (State.keeps_resumeMoves _)).trans (State.keeps_stirTestAll _)).trans
    (State.keeps_promptOnState _)).trans (State.keeps_lidOnState _)).trans (State.keeps_shakerOnState _)).trans
    (State.keeps_judgeCap _)

theorem State.keeps_enterByCap : s.KeepsRecords s.enterByCap := by
  unfold State.enterByCap
  split
  · exact s.keeps_enter _
  · exact s.keeps_enter _
  · exact s.keeps_enter _
  · exact s.keeps_enter _
  · exact State.keeps_ite (fun _ => s.keeps_capOpen.trans (State.keeps_enter _ _))
      fun _ => s.keeps_capClose.trans (State.keeps_enter _ _)

theorem State.keeps_chooseState : s.KeepsRecords s.chooseState :=
  State.keeps_ite (fun _ => s.keeps_enter _) fun _ => State.keeps_ite (fun _ => s.keeps_enter _) fun _ => s.keeps_enterByCap

/-! ## Consignment -/

/-- The transfer unit changed but for its in-transit list keeps the laws. -/
theorem State.keeps_xfr {x : Transfer} (h : x.inTransit.length ≤ s.xfr.inTransit.length) :
    s.KeepsRecords { s with xfr := x } :=
  { State.KeepsRecords.refl s with
    transit := h }

theorem State.keeps_restartRepeat (q : Nat) : s.KeepsRecords (s.restartRepeat q) := s.keeps_xfr (by simp)

theorem State.keeps_repeatConsign (r : Transit) : s.KeepsRecords (s.repeatConsign r) :=
  (s.keeps_placeAgain rfl).trans (State.keeps_restartRepeat _ _)

theorem State.keeps_consignBurst : s.KeepsRecords s.consignBurst := State.keeps_foldl State.keeps_repeatConsign _ s

theorem State.keeps_retire (p : Nat) : s.KeepsRecords (s.retire p) :=
  State.keeps_ite (fun _ => .refl s) fun _ => s.keeps_xfr (List.length_filter_le _ _)

theorem State.keeps_downstreamRestarted : s.KeepsRecords s.downstreamRestarted :=
  (State.keeps_foldl (fun s _ => State.keeps_report s _) _ s).trans (State.keeps_xfr _ (Nat.zero_le _))

theorem State.keeps_setIntake (i : Intake) : s.KeepsRecords (s.setIntake i) := .of_eq rfl rfl rfl

theorem State.keeps_dropItem (q : Nat) : s.KeepsRecords (s.dropItem q) := .of_eq rfl rfl rfl

theorem State.keeps_setPointer (p : Nat) : s.KeepsRecords (s.setPointer p) := .of_eq rfl rfl rfl

theorem State.keeps_firstRead : s.KeepsRecords s.firstRead := by
  refine State.keeps_ite (fun _ => .refl s) fun _ => ?_
  split
  · exact State.keeps_ite (fun _ => s.keeps_setIntake _) fun _ => s.keeps_setIntake _
  · exact s.keeps_setIntake _

theorem State.keeps_openIntake : s.KeepsRecords s.openIntake :=
  State.keeps_ite (fun _ => (s.keeps_setIntake _).trans (State.keeps_firstRead _)) fun _ => s.keeps_setIntake _

theorem State.keeps_upstreamRestarted : s.KeepsRecords s.upstreamRestarted := by
  refine (s.keeps_xfr (x := { s.xfr with pointer := 0, expected := [] }) le_rfl).trans ?_
  refine State.keeps_ite (fun _ => State.keeps_setIntake _ _) fun _ => ?_
  split
  · exact .refl _
  · exact State.keeps_openIntake _
  · exact State.keeps_openIntake _

theorem State.keeps_skipItem (q : Nat) : s.KeepsRecords (s.skipItem q) := by
  unfold State.skipItem
  split
  · exact .refl s
  · exact (s.keeps_dropItem q).trans (State.keeps_report _ _)

theorem State.keeps_resolveHold (last : Option TinId) : s.KeepsRecords (s.resolveHold last) := by
  unfold State.resolveHold
  split
  · exact ((State.keeps_foldl (fun s _ => State.keeps_skipItem s _) _ s).trans (State.keeps_setPointer _ _)).trans
      (State.keeps_setIntake _ _)
  · split
    · exact State.keeps_ite (fun _ => s.keeps_setIntake _) fun _ => s.keeps_setIntake _
    · exact s.keeps_setIntake _

theorem State.keeps_afterPull : s.KeepsRecords s.afterPull := by
  unfold State.afterPull
  split
  · split
    · exact .refl s
    · exact (s.keeps_dropItem _).trans (State.keeps_setPointer _ _)
  · exact .refl s
  · exact .refl s

theorem State.keeps_reconcilePull : s.KeepsRecords s.reconcilePull := by
  refine State.keeps_ite (fun _ => .refl s) fun _ => ?_
  refine (s.keeps_xfr (x := { s.xfr with cutShort := false }) le_rfl).trans ?_
  refine State.keeps_ite (fun _ => .refl _) fun _ => ?_
  split
  · split
    · exact State.keeps_setIntake _ _
    · exact (((State.keeps_dropItem _ _).trans (State.keeps_setPointer _ _)).trans (State.keeps_report _ _)).trans
        (State.keeps_setIntake _ _)
  · exact State.keeps_setIntake _ _
  · exact State.keeps_setIntake _ _

theorem State.keeps_reportTransit : s.KeepsRecords s.reportTransit := by
  refine State.keeps_foldl (fun s _ => ?_) _ s
  exact State.keeps_ite (fun _ => .refl s) fun _ => s.keeps_place _

/-- A tin released into the lane keeps the laws but for the lane's own, which counts it (R164). -/
theorem State.releaseTin_keepsStores (t : Tin) : s.KeepsStores (s.releaseTin t) := by
  refine .trans ?_ (State.keeps_place _ _).toKeepsStores
  exact .of_eq rfl

/-! ## The segment -/

theorem State.keeps_judgeSlot7 : s.KeepsRecords s.judgeSlot7 :=
  State.keeps_ite (fun _ => s.keeps_modTinAt 7 _) fun _ => .refl s

theorem State.keeps_rejectLidded : s.KeepsRecords s.rejectLidded :=
  State.keeps_ite (fun _ => s.keeps_modTinAt 6 _) fun _ => .refl s

theorem State.keeps_intoChute (r : TinRecord) : s.KeepsRecords (s.intoChute r) := by
  have count : s.KeepsRecords { s with seg := { s.seg with chute := min chuteMax (s.seg.chute + 1) } } :=
    { State.KeepsRecords.refl s with chute := fun _ => Nat.min_le_left _ _ }
  unfold State.intoChute
  split
  · exact count
  · exact count.trans (State.keeps_report _ _)

/-- A tin that leaves slot 7 for the chute or the dispatch table adds nothing to the lane. -/
theorem State.keeps_depart {d : Destination} (hd : d ≠ .lane) : s.KeepsRecords (s.depart d) := by
  unfold State.depart
  split
  · exact .refl s
  · split
    · exact (s.keeps_setSlot 7 none).trans (State.keeps_intoChute _ _)
    · exact absurd rfl hd
    · exact absurd rfl hd
    · exact s.keeps_setSlot 7 none

theorem State.depart_keepsStores (d : Destination) : s.KeepsStores (s.depart d) := by
  unfold State.depart
  split
  · exact .of_eq rfl
  · split
    · exact ((s.keeps_setSlot 7 none).trans (State.keeps_intoChute _ _)).toKeepsStores
    · exact (s.keeps_setSlot 7 none).toKeepsStores.trans (State.releaseTin_keepsStores _ _)
    · exact (s.keeps_setSlot 7 none).toKeepsStores
    · exact (s.keeps_setSlot 7 none).toKeepsStores

/-- One tin at most is released (R164). -/
theorem State.depart_lane_transit : (s.depart .lane).xfr.inTransit.length ≤ s.xfr.inTransit.length + 1 := by
  unfold State.depart
  split
  · exact Nat.le_succ _
  · next r _ =>
    cases r with
    | unknown => exact Nat.le_succ _
    | known t =>
      exact (List.length_append (as := s.xfr.inTransit)
        (bs := [{ seq := seqNext s.xfr.release, tin := t, time := 0 }])).le

theorem State.keeps_shift (r : Option TinRecord) : s.KeepsRecords (s.shift r) := .of_eq rfl rfl rfl

theorem State.keeps_tellBays : s.KeepsRecords s.tellBays :=
  .trans (t := s.formWaiting) (.of_eq rfl rfl rfl) ((((((State.keeps_modTinAt _ 2 _).trans (State.keeps_lidLook _)).trans
    (State.keeps_shakerLook _)).trans (State.keeps_judgeCap _)).trans (State.keeps_judgeSlot7 _)).trans
    (State.keeps_judgePrompt _))

theorem State.keeps_jamCell : s.KeepsRecords s.jamCell := (s.keeps_dck _).trans (State.keeps_enter _ _)

theorem State.keeps_pullIn : s.KeepsRecords s.pullIn :=
  (s.keeps_afterPull.trans (State.keeps_shift _ _)).trans (State.keeps_openIntake _)

/-- What an index does after the tin at slot 7 has left. -/
def State.advance (s : State) (r : Option TinRecord) (pull : Bool) : State :=
  let s2 := if pull then s.pullIn else s.shift r
  { s2 with seg := { s2.seg with index := .idle }, shots := { s2.shots with waiting := [] } }

theorem State.indexMoves_eq (d : Destination) (pull : Bool) : s.indexMoves d pull = (s.depart d).advance none pull := rfl

theorem State.keeps_advance (r : Option TinRecord) (pull : Bool) : s.KeepsRecords (s.advance r pull) :=
  (State.keeps_ite (fun _ => s.keeps_pullIn) fun _ => s.keeps_shift r).trans { State.KeepsRecords.refl _ with forLane := (fun h => by cases h) }

theorem State.keeps_checkCompletion : s.KeepsRecords s.checkCompletion :=
  State.keeps_ite (fun _ => s.keeps_tellBays) fun _ => s.keeps_jamCell

theorem State.keeps_reconcile : s.KeepsRecords s.reconcile := by
  have slot : ∀ (s : State) (n : Nat), s.KeepsRecords (s.reconcileSlot n) := fun s n => by
    refine State.keeps_ite (fun _ => State.keeps_ite (fun _ => s.keeps_setSlot n _) fun _ => .refl s) fun _ => ?_
    split
    · exact .refl s
    · exact s.keeps_setSlot n _
    · exact (s.keeps_setSlot n _).trans (State.keeps_report _ _)
  have pull : s.KeepsRecords ((List.range 8).foldl State.reconcileSlot s).reconcilePull :=
    (State.keeps_foldl slot _ s).trans (State.keeps_reconcilePull _)
  exact ((pull.trans (State.keeps_dck _ _)).trans (State.keeps_ite (fun _ => State.keeps_enter _ _)
    fun _ => State.keeps_enterByCap _)).trans (State.keeps_tellBays _)

theorem State.keeps_reportOthers (l : List (Option TinRecord)) : s.KeepsRecords (s.reportOthers l) := by
  refine State.keeps_foldl (fun s r => ?_) l s
  split
  · exact State.keeps_ite (fun _ => .refl s) fun _ => s.keeps_place _
  · exact .refl s

/-! ## Notices heard -/

theorem State.keeps_restartRepeats (term : Nat) : s.KeepsRecords (s.restartRepeats term) :=
  { State.KeepsRecords.refl s with
    book := fun h => h.map (fun e => by split <;> rfl) fun e _ ho => by
      split at ho
      · exact (e.openJob_mapJob _).symm.trans ho
      · exact ho }

theorem State.keeps_stations (l : List Station) : s.KeepsRecords { s with stations := l } := .of_eq rfl rfl rfl

theorem State.keeps_refreshed (n : Nat) (m : Option CellStatusMsg) : s.KeepsRecords (s.refreshed n m) := by
  unfold State.refreshed
  split
  · exact s.keeps_stations _
  · exact s.keeps_stations _

theorem State.keeps_refresh (n : Nat) (m : Option CellStatusMsg) : s.KeepsRecords (s.refresh n m) := by
  refine (s.keeps_refreshed n m).trans ?_
  unfold State.refresh
  dsimp only
  split
  · exact State.keeps_restartRepeats _ n
  · exact .refl _
  · exact State.keeps_retestBlocked _
  · exact (State.keeps_restartRepeats _ n).trans (State.keeps_retestBlocked _)

theorem State.keeps_hear (k : Sender) (src : Nat) (ok : Bool) {take : State → State}
    (h : ∀ s : State, s.KeepsRecords (take s)) :
    s.KeepsRecords (s.hear k src ok take) :=
  State.keeps_ite (fun _ => .refl s) fun _ => State.keeps_ite
    (fun _ => (State.keeps_ite (fun _ => s.keeps_refresh src none) fun _ => .refl s).trans (h _)) fun _ => s.keeps_rxError

end Sys2Proof.Machine
end

/-! # Proofs: every command keeps the laws of the records (O58)

One lemma per command whose effect needs an argument of its own; the others are made of the operations before. -/

section
namespace Sys2Proof.Machine

/-- A command of the gate of RESET_L keeps what its effect keeps. -/
theorem State.act_keeps {s t : State} {f : State → State} (h : s.act f = .next t) (hf : s.KeepsRecords (f s)) :
    s.KeepsRecords t := by
  simp only [State.act, Host.Outcome.next.injEq] at h
  rw [← h]
  exact State.keeps_ite (fun _ => .refl s) fun _ => hf

variable (s : State)

/-! ## Pins -/

theorem State.keeps_pins (p : Pins) : s.KeepsRecords { s with pins := p } := .of_eq rfl rfl rfl
theorem State.keeps_latch (x : Sample) : s.KeepsRecords (s.latch x) := s.keeps_pins _
theorem State.keeps_latchTag (g : Option TinId) : s.KeepsRecords (s.latchTag g) := s.keeps_pins _
theorem State.keeps_latchLid (b : Bool) : s.KeepsRecords (s.latchLid b) := s.keeps_pins _
theorem State.keeps_latchGray (n : Nat) (g : Gray) : s.KeepsRecords (s.latchGray n g) := s.keeps_pins _
theorem State.keeps_setHatch (n : Fin 5) (b : Bool) : s.KeepsRecords (s.setHatch n b) := s.keeps_pins _
theorem State.keeps_modShaker (f : Shaker → Shaker) : s.KeepsRecords (s.modShaker f) := .of_eq rfl rfl rfl

/-! ## Reset, power-on, STARTING, RESTART -/

/-- The power-on values meet every law (R10, R51, R115, R141, R163, R183). -/
theorem State.keeps_powerOn (pins : Pins) : s.KeepsRecords (State.powerOn pins) where
  queue _ := by simp [State.QueueBound, State.powerOn]
  book _ := by simp [State.BookSound, State.openJobs, State.powerOn]
  magazines _ m hm := by
    obtain ⟨-, rfl⟩ := List.mem_replicate.mp hm
    exact .empty 0
  chute _ := Nat.zero_le _
  levels _ n _ c hc := by cases hc
  content _ n := by
    have : (State.powerOn pins).pump n = Pump.blank := by
      simp only [State.pump, State.powerOn, List.getD_eq_getElem?_getD, List.getElem?_replicate]
      split <;> rfl
    rw [this]
    exact Nat.zero_le _
  transit := Nat.zero_le _
  forLane h := by cases h

theorem State.keeps_strapped (straps : Straps) : s.KeepsRecords (s.strapped straps) :=
  State.keeps_ite (fun _ => (.of_eq rfl rfl rfl)) fun _ => (.of_eq rfl rfl rfl)

/-- An image that passes R203 gives every fitted canister a dead volume below its capacity (R97). -/
theorem checkImage_dead {r : ImageRead} (h : checkImage r = none) {c : CanisterCfg} (hc : c ∈ r.fields.canisters)
    (h0 : c.colorant ≠ 0) : c.dead ≤ c.capacity := by
  have hbad : r.fields.canisters.any canisterBad = false := by
    unfold checkImage at h
    by_contra hany
    rw [Bool.not_eq_false] at hany
    rw [if_pos hany] at h
    repeat (split at h; · cases h)
    cases h
  have := List.any_eq_false.mp hbad c hc
  simp only [canisterBad, canisterOutOfRange, Bool.or_eq_true, Bool.and_eq_true, bne_iff_ne, ne_eq, h0,
    not_false_eq_true, true_and, decide_eq_true_eq, not_or] at this
  omega

theorem freshCanister_level (m : Moment) (c : CanisterCfg) : (freshCanister m c).level = 0 := by
  unfold freshCanister
  split <;> rfl

theorem freshPump_content (c : CanisterCfg) (p : PumpCfg) (g : Gray) : (freshPump c p g).content ≤ p.strokeSteps := by
  unfold freshPump
  split
  · exact Nat.zero_le _
  · exact rederive_le p g

theorem State.keeps_rebuildSegment : s.KeepsRecords s.rebuildSegment :=
  { State.KeepsRecords.refl s with
    forLane := fun h => by
      simp only [State.rebuildSegment, State.rebuiltIndex] at h
      split at h <;> cases h }

/-- The image handed out leaves every canister empty and every pump within its stroke steps (R115, R141). -/
theorem State.keeps_handOut {r : ImageRead} (h : checkImage r = none) : s.KeepsRecords (s.handOut r.fields) := by
  refine .trans ?_ (State.keeps_rebuildSegment _)
  refine { State.KeepsRecords.refl s with levels := fun _ n hn c hc => ?_, content := fun _ n => ?_ }
  · constructor
    · simp only [State.fitted] at hc
      split at hc
      · cases hc
      · next c' hc' =>
        split at hc
        · cases hc
        · next h0 => cases hc; exact checkImage_dead h (List.mem_of_getElem? hc') h0
    · simp only [State.canister, List.getD_eq_getElem?_getD, List.getElem?_map]
      cases r.fields.canisters[n]? with
      | none => exact Nat.zero_le _
      | some c' => exact (freshCanister_level _ c').le.trans (Nat.zero_le _)
  · simp only [State.pump, State.pumpCfg, List.getD_eq_getElem?_getD, List.getElem?_map]
    by_cases hn : n < 16
    · rw [List.getElem?_range hn]
      exact freshPump_content _ _ _
    · rw [List.getElem?_eq_none (by simpa using hn)]
      exact Nat.zero_le _

theorem State.keeps_beginWork : s.KeepsRecords s.beginWork :=
  (((s.keeps_dck _).trans (State.keeps_chooseState _)).trans (State.keeps_openIntake _)).trans (State.keeps_buildStatus _)

theorem State.emptyQueue_queue : s.emptyQueue.bus.queue =
    s.bus.queue.filterMap (fun q => if q.sending then some { q with final := true } else none) := by
  simp only [State.emptyQueue]
  induction s.bus.queue with
  | nil => rfl
  | cons q l ih => cases hq : q.sending <;> simp [hq, ih]

theorem State.keeps_emptyQueue : s.KeepsRecords s.emptyQueue :=
  { State.KeepsRecords.refl s with
    queue := fun h => by
      have left := Bus.Bounded.filterMap h (f := fun q => if q.sending then some { q with final := true } else none) h.2.2.2.2
        fun a a' ha => by
          split at ha
          · cases ha; exact ⟨rfl, fun h => h⟩
          · cases ha
      rw [← s.emptyQueue_queue] at left
      exact left }

theorem State.keeps_restartCanisters : s.KeepsRecords s.restartCanisters :=
  (s.keeps_stopEntries.trans (State.keeps_mapCanisters _ (f := fun c => { c.takeLock with reserved := 0 })
    fun c => c.takeLock_level.le)).trans (State.keeps_stopStirrers _)

theorem State.keeps_clearRecords : s.KeepsRecords s.clearRecords :=
  (((s.keeps_reportOthers _).trans (State.keeps_reportTransit _)).trans (State.keeps_rebuildSegment _)).trans
    { State.KeepsRecords.refl _ with transit := Nat.zero_le _ }

theorem State.keeps_forget : s.KeepsRecords s.forget :=
  { State.KeepsRecords.refl s with
    book := fun _ => by simp [State.BookSound, State.openJobs, State.forget] }

/-! ## Stock -/

/-- A stock whose level lies within the capacity of its fitted canister keeps the laws (R98). -/
theorem State.keeps_setStock (n : Nat) {k : Stock}
    (hk : s.LevelsHeld → n < 16 → ∀ c, s.fitted n = some c → k.level ≤ c.capacity * 1000) :
    s.KeepsRecords (s.setStock n k) :=
  { State.KeepsRecords.refl s with
    levels := fun h m hm c hc => by
      obtain ⟨hdead, hlev⟩ := h m hm c hc
      refine ⟨hdead, ?_⟩
      rw [State.setStock, State.canister_modCanister]
      rw [State.canister, List.getD_eq_getElem?_getD] at hlev
      cases hq : s.canisters[m]? with
      | none => exact Nat.zero_le _
      | some c' =>
        simp only [hq, Option.map_some, Option.getD_some] at hlev ⊢
        split
        · next hnm => subst hnm; exact hk h hm c hc
        · exact hlev }

theorem State.keeps_newBatch (n : Nat) (k : Stock) (b : Nat) : s.KeepsRecords (s.newBatch n k b) :=
  State.keeps_ite (fun _ => .refl s) fun _ => s.keeps_stirDue n

theorem State.keeps_stockReply (n : Nat) (a : StockAction) (o : StockOutcome) (c : Option StockCode) (l : LevelClass)
    (v : Nat) : s.KeepsRecords (s.stockReply n a o c l v) := s.keeps_place _

theorem State.keeps_stockRefuse (n : Nat) (a : StockAction) (c : StockCode) : s.KeepsRecords (s.stockRefuse n a c) :=
  s.keeps_stockReply _ _ _ _ _ _

/-- The canister a STOCK passes the first tests for is fitted (R102). -/
theorem State.stockTarget_ok {s : State} {n : Nat} {cfg : CanisterCfg} (h : s.stockTarget n = .ok cfg) :
    n < 16 ∧ s.fitted n = some cfg := by
  unfold State.stockTarget at h
  split at h
  · cases h
  · split at h
    · cases h
    · next hn _ hc => cases h; exact ⟨by omega, hc⟩

theorem State.keeps_takeRefill (n v st b : Nat) : s.KeepsRecords (s.takeRefill n v st b) := by
  unfold State.takeRefill
  split
  · exact s.keeps_stockRefuse _ _ _
  · next cfg hcfg =>
    refine State.keeps_ite (fun _ => s.keeps_stockRefuse _ _ _) fun _ =>
      State.keeps_ite (fun _ => s.keeps_stockRefuse _ _ _) fun _ => ?_
    split
    · exact s.keeps_stockRefuse _ _ _
    · next k hk =>
      obtain ⟨-, hfit⟩ := State.stockTarget_ok hcfg
      have stocked : ∀ k' : Stock, k'.level = k.level + min (v * 1000) (cfg.capacity * 1000 - k.level) →
          s.KeepsRecords (s.setStock n k') := fun k' hk' => s.keeps_setStock n fun h hn c hc => by
        have := (h n hn c hc).2
        cases hfit.symm.trans hc
        simp only [Canister.level, hk, Option.map_some, Option.getD_some] at this
        omega
      exact State.keeps_ite (fun _ => ((stocked _ rfl).trans (State.keeps_newBatch _ _ _ _)).trans (State.keeps_stockReply _ _ _ _ _ _ _))
        fun _ => ((stocked _ rfl).trans (State.keeps_newBatch _ _ _ _)).trans (State.keeps_stockReply _ _ _ _ _ _ _)

theorem State.keeps_takeSetLevel (n l st b : Nat) : s.KeepsRecords (s.takeSetLevel n l st b) := by
  unfold State.takeSetLevel
  split
  · exact s.keeps_stockRefuse _ _ _
  · next cfg hcfg =>
    refine State.keeps_ite (fun _ => s.keeps_stockRefuse _ _ _) fun _ =>
      State.keeps_ite (fun _ => s.keeps_stockRefuse _ _ _) fun hcap =>
      State.keeps_ite (fun _ => s.keeps_stockRefuse _ _ _) fun _ => ?_
    obtain ⟨-, hfit⟩ := State.stockTarget_ok hcfg
    have stocked := s.keeps_setStock n (k := { level := max l cfg.dead * 1000, strength := st, batch := b }) fun h hn c hc => by
      have hdead := (h n hn c hc).1
      cases hfit.symm.trans hc
      exact Nat.mul_le_mul_right _ (max_le (Nat.not_lt.mp hcap) hdead)
    refine .trans ?_ (State.keeps_stockReply _ _ _ _ _ _ _)
    split
    · exact stocked
    · exact stocked.trans (State.keeps_newBatch _ _ _ _)

theorem Canister.takeOut_level (c : Canister) (b : Bool) : (c.takeOut b).level = c.level := by
  unfold Canister.takeOut
  split
  · rfl
  · split <;> rfl

theorem State.keeps_takeLock (n : Nat) : s.KeepsRecords (s.takeLock n) := by
  unfold State.takeLock
  split
  · exact s.keeps_stockRefuse _ _ _
  · exact (s.keeps_modCanister n fun c => (c.takeOut_level _).le).trans (State.keeps_stockReply _ _ _ _ _ _ _)

theorem Pump.clearLock_content {p : Pump} {cfg : PumpCfg} (g : Gray) (h : p.content ≤ cfg.strokeSteps) :
    (p.clearLock cfg g).content ≤ cfg.strokeSteps := by
  unfold Pump.clearLock
  split
  · exact rederive_le cfg g
  · exact h

theorem State.keeps_takeRelease (n : Nat) (g : Gray) : s.KeepsRecords (s.takeRelease n g) := by
  unfold State.takeRelease
  split
  · exact s.keeps_stockRefuse _ _ _
  · have unlocked := s.keeps_modCanister n (f := fun c => { c with lock := false, pendingLock := false }) fun _ => le_rfl
    exact (unlocked.trans (State.keeps_modPump _ n (f := fun p => p.clearLock (s.pumpCfg n) g)
      fun u hu => u.clearLock_content g hu)).trans (State.keeps_stockReply _ _ _ _ _ _ _)

theorem State.keeps_stock (src target : Nat) {take : State → State} (h : ∀ s : State, s.KeepsRecords (take s)) :
    s.KeepsRecords (s.stock src target take) :=
  s.keeps_hear _ _ _ fun s => State.keeps_ite (fun _ => (h s).trans (State.keeps_tellCover _ _)) fun _ => .refl s

/-! ## Day clock -/

theorem State.keeps_judgeWindow (was : Bool) : s.KeepsRecords (s.judgeWindow was) := by
  have opened : s.KeepsRecords (if !was && s.inside then s.windowOpened else s) :=
    State.keeps_ite (fun _ => s.keeps_windowOpened) fun _ => .refl s
  unfold State.judgeWindow
  dsimp only
  split
  · exact State.keeps_ite (fun _ => opened.trans (State.keeps_enter _ _)) fun _ => opened
  · exact State.keeps_ite (fun _ => opened.trans (State.keeps_enter _ _)) fun _ => opened
  · exact opened.trans (State.keeps_judgeCap _)
  · exact opened
  · exact opened
  · exact opened
  · exact opened
  · exact opened

theorem State.keeps_setMoment (m : Moment) : s.KeepsRecords (s.setMoment m) := s.keeps_dck _

theorem State.keeps_settingStirrers (old : Moment) : s.KeepsRecords (s.settingStirrers old) :=
  (State.keeps_ite (fun _ => s.keeps_settingBack) fun _ => .refl s).trans (State.keeps_dueTestAll _)

theorem State.keeps_takeClock (m : Moment) : s.KeepsRecords (s.takeClock m) :=
  ((s.keeps_setMoment m).trans (State.keeps_settingStirrers _ _)).trans (State.keeps_judgeWindow _ _)

theorem State.keeps_takePause : s.KeepsRecords s.takePause := by
  refine (s.keeps_dck { s.dck with pause := true }).trans ?_
  unfold State.takePause
  dsimp only
  split
  case h_1 | h_2 | h_3 => exact State.keeps_enter _ _
  all_goals exact .refl _

theorem State.keeps_takeResume : s.KeepsRecords s.takeResume := by
  refine (s.keeps_dck { s.dck with pause := false }).trans ?_
  unfold State.takeResume
  dsimp only
  split
  case h_1 => exact State.keeps_enterByCap _
  all_goals exact .refl _

theorem State.keeps_capOpened : s.KeepsRecords s.capOpened := by
  unfold State.capOpened
  split
  · exact s.keeps_dck _
  · exact State.keeps_ite (fun _ => (s.keeps_dck _).trans (State.keeps_enter _ _)) fun _ => s.keeps_dck _
  · exact State.keeps_ite (fun _ => (s.keeps_dck _).trans (State.keeps_enter _ _)) fun _ => s.keeps_dck _

theorem State.keeps_capClosed : s.KeepsRecords s.capClosed := by
  unfold State.capClosed
  split <;> exact s.keeps_dck _

theorem IndexState.stop_forLane (i : IndexState) : i.stop.forLane = i.forLane := by cases i <;> rfl

theorem State.keeps_stopDrives : s.KeepsRecords s.stopDrives :=
  .trans (t := { s with seg := { s.seg with index := s.seg.index.stop }, lids := { s.lids with bay := s.lids.bay.stop },
                        shaker := s.shaker.estop, dck := s.dck.stopCap })
    { State.KeepsRecords.refl s with forLane := fun h => (IndexState.stop_forLane _).symm.trans h } (State.keeps_stopStirrers _)

theorem State.keeps_takeStop : s.KeepsRecords s.takeStop :=
  (((((s.keeps_dck _).trans (State.keeps_enter _ _)).trans (State.keeps_stopEntries _)).trans (State.keeps_settleSlot2 _)).trans
    (State.keeps_stopDrives _)).trans (State.keeps_tellCover _ _)

theorem State.keeps_leaveHalt : s.KeepsRecords s.leaveHalt :=
  State.keeps_ite (fun _ => .refl s) fun _ => (s.keeps_dck { s.dck with halt := false }).trans
    (State.keeps_ite (fun _ => State.keeps_enter _ _) fun _ => State.keeps_ite (fun _ => State.keeps_enter _ _)
      fun _ => State.keeps_enterByCap _)

/-! ## Stations and consignment -/

theorem State.keeps_takeStatus (src : Nat) (m : CellStatusMsg) : s.KeepsRecords (s.takeStatus src m) := by
  have heard := (s.keeps_refresh src (some m)).trans (State.keeps_retestBlocked _)
  refine State.keeps_ite (fun _ => heard.trans (State.keeps_ite (fun _ => State.keeps_upstreamRestarted _) fun _ => .refl _))
    fun _ => State.keeps_ite (fun _ => heard.trans ?_) fun _ => heard
  exact ((State.keeps_ite (fun _ => State.keeps_downstreamRestarted _) fun _ => .refl _).trans
    (State.keeps_ite (fun _ => State.keeps_consignBurst _) fun _ => .refl _)).trans (State.keeps_retire _ _)

theorem State.keeps_replaceItem (m : ConsignMsg) : s.KeepsRecords (s.replaceItem m) := by
  have replaced : s.KeepsRecords { s with xfr := { s.xfr with
      expected := s.xfr.expected.map (fun e => if e.msg.seq == m.seq then { msg := m, mark := consignMark m } else e) } } :=
    s.keeps_xfr le_rfl
  exact State.keeps_ite (fun _ => replaced.trans (State.keeps_setIntake _ _)) fun _ =>
    State.keeps_ite (fun _ => replaced.trans (State.keeps_openIntake _)) fun _ => replaced

theorem State.keeps_takeConsign (m : ConsignMsg) : s.KeepsRecords (s.takeConsign m) := by
  refine State.keeps_ite (fun _ => .refl s) fun _ => ?_
  split
  · exact .of_eq rfl rfl rfl
  · exact State.keeps_ite (fun _ => .refl s) fun _ => s.keeps_replaceItem m

theorem State.keeps_judgeRead (tag : Option TinId) (g a h : Nat) (last : Option TinId) :
    s.KeepsRecords (s.judgeRead tag g a h last) := by
  unfold State.judgeRead
  split
  · exact State.keeps_ite (fun _ => s.keeps_setIntake _) fun _ => s.keeps_setIntake _
  · exact s.keeps_setIntake _

/-! ## Order book -/

theorem State.keeps_booked {f : State → State} (h : s.KeepsRecords (f s)) : s.KeepsRecords (s.booked f) :=
  State.keeps_ite (fun _ => h) fun _ => .refl s

theorem evict_sublist {l l' : List OrderEntry} (h : evict l = some l') : l'.Sublist l ∧ l'.length + 1 = l.length := by
  induction l generalizing l' with
  | nil => cases h
  | cons e l ih =>
    rw [evict] at h
    split at h
    · cases h; exact ⟨List.sublist_cons_self e l, rfl⟩
    · obtain ⟨m, hm, rfl⟩ := Option.map_eq_some_iff.mp h
      exact ⟨(ih hm).1.cons_cons e, by simpa using (ih hm).2⟩

/-- A book of no more than 32 entries has room for one after R52. -/
theorem makeRoom_sublist {l l' : List OrderEntry} (h : makeRoom l = some l') (hl : l.length ≤ 32) :
    l'.Sublist l ∧ l'.length < 32 := by
  unfold makeRoom bookMax at h
  split at h
  · next hlt => cases h; exact ⟨.refl l, hlt⟩
  · obtain ⟨hs, hlen⟩ := evict_sublist h
    exact ⟨hs, by omega⟩

/-- A part of a sound book, and a new entry of an id it does not hold that is no job, make a sound book (R51). -/
theorem State.BookSound.push {s : State} (h : s.BookSound) {l : List OrderEntry} (hl : l.Sublist s.book) (hlen : l.length < 32)
    {e : OrderEntry} (hnew : s.entry e.id = none) (he : e.openJob = false) : { s with book := l ++ [e] }.BookSound := by
  obtain ⟨-, hnd, hopen⟩ := h
  refine ⟨by simpa using hlen, ?_, ?_⟩
  · rw [List.map_append, List.map_singleton]
    refine (hnd.sublist (hl.map _)).append (List.nodup_singleton _) fun i hi hi' => ?_
    obtain ⟨a, ha, rfl⟩ := List.mem_map.mp hi
    exact absurd (List.mem_singleton.mp hi') (by simpa using List.find?_eq_none.mp hnew a (hl.subset ha))
  · refine le_trans ?_ hopen
    simpa [State.openJobs, List.filter_append, he] using (hl.filter OrderEntry.openJob).length_le

theorem State.keeps_answerInvalid (e : OrderEntry) : s.KeepsRecords (s.answerInvalid e) :=
  State.keeps_ite (fun _ => s.keeps_place _) fun _ => .refl s

theorem State.keeps_takeOrder (m : OrderMsg) : s.KeepsRecords (s.takeOrder m) := by
  unfold State.takeOrder
  split
  · exact State.keeps_ite (fun _ => s.keeps_answerInvalid _) fun _ => .refl s
  · next hnew =>
    split
    · exact s.keeps_rxError
    · next l hl =>
      have push : ∀ e : OrderEntry, e.id = m.id → e.openJob = false → s.KeepsRecords { s with book := l ++ [e] } := by
        refine fun e hid he => { State.KeepsRecords.refl s with book := fun h => ?_ }
        obtain ⟨hsub, hlen⟩ := makeRoom_sublist hl h.1
        exact h.push hsub hlen (hid ▸ hnew) he
      unfold State.bookNew
      split
      · exact (push _ rfl rfl).trans (State.keeps_answerInvalid _ _)
      · exact State.keeps_ite (fun _ => (push _ rfl rfl).trans (State.keeps_place _ _)) fun _ => push _ rfl rfl

/-- An entry changed into one that is no open job keeps the laws. -/
theorem State.keeps_close (id : OrderId) {f : OrderEntry → OrderEntry} (hid : ∀ e, (f e).id = e.id)
    (hf : ∀ e, (f e).openJob = true → e.openJob = true) : s.KeepsRecords (s.modEntry id f) :=
  s.keeps_modEntry hid fun e _ => hf e

theorem State.keeps_cancelForeign (id : OrderId) : s.KeepsRecords (s.modEntry id OrderEntry.cancelForeign) :=
  s.keeps_close id (fun _ => rfl) fun _ h => by cases h

theorem State.keeps_placeElsewhere (id : OrderId) (c : Claim) :
    s.KeepsRecords (s.modEntry id (fun e => e.placeElsewhere c)) :=
  s.keeps_close id (fun _ => rfl) fun _ h => by cases h

theorem State.keeps_takeCancel {e : OrderEntry} (he : s.entry e.id = some e) : s.KeepsRecords (s.takeCancel e) := by
  have active : OrderState.isOpen e.st = true → s.KeepsRecords (match e.job with
      | none => s
      | some j =>
        if j.unresolved = 0 then
          ((s.modEntry e.id (fun e => e.finish .cancelled)).withdrawPrompt e.id).placeJobStatus e.id
        else ((s.modEntry e.id (fun e => { e with st := .ownCancelling })).withdrawPrompt e.id).placeJobStatus e.id) := by
    intro ho
    split
    · exact .refl s
    · refine State.keeps_ite (fun _ => ?_) fun _ => ?_
      · exact ((s.keeps_finish e.id rfl).trans (State.keeps_withdrawPrompt _ _)).trans (State.keeps_placeJobStatus _ _)
      · exact ((s.keeps_setSt he _ fun _ => ho).trans (State.keeps_withdrawPrompt _ _)).trans (State.keeps_placeJobStatus _ _)
  unfold State.takeCancel
  split
  case h_1 | h_2 | h_3 | h_4 => exact s.keeps_cancelForeign _
  case h_5 =>
    dsimp only
    split
    · exact s.keeps_cancelForeign _
    · exact (s.keeps_cancelForeign _).trans (State.keeps_place _ _)
  case h_6 hst => exact active (by rw [hst]; rfl)
  case h_7 hst => exact active (by rw [hst]; rfl)
  all_goals exact .refl s

theorem OrderEntry.hearClaim_id (e : OrderEntry) (c : Claim) : (e.hearClaim c).id = e.id := by
  unfold OrderEntry.hearClaim
  split
  case h_4 => split <;> rfl
  all_goals rfl

theorem OrderEntry.hearClaim_openJob (e : OrderEntry) (c : Claim) (h : (e.hearClaim c).openJob = true) : e.openJob = true := by
  unfold OrderEntry.hearClaim at h
  split at h
  case h_4 => split at h <;> exact h
  case h_2 | h_3 => cases h
  all_goals exact h

theorem State.keeps_setDuplicate {id : OrderId} {e : OrderEntry} (he : s.entry id = some e) {j : Job} (hj : e.job = some j) :
    s.KeepsRecords (s.setDuplicate id j) :=
  State.keeps_ite (fun _ => .refl s) fun _ => ((s.keeps_setJob he (by simp [hj]) _).trans (State.keeps_placeJobStatus _ id)).trans
    (State.keeps_placeClaim _ id)

theorem State.keeps_contest {e : OrderEntry} (he : s.entry e.id = some e) {j : Job} (hj : e.job = some j) (c : Claim) :
    s.KeepsRecords (s.contest e j c) :=
  State.keeps_ite (fun _ => s.keeps_setDuplicate he hj) fun _ => State.keeps_ite
    (fun _ => ((s.keeps_placeElsewhere _ c).trans (State.keeps_withdrawPrompt _ _)).trans (State.keeps_place _ _))
    fun _ => s.keeps_placeClaim _

/-- An entry in a state of no open job is none. -/
theorem OrderEntry.openJob_of_closed {e e' : OrderEntry} (h : OrderState.isOpen e'.st = false) (ho : e'.openJob = true) :
    e.openJob = true := by
  rw [OrderEntry.openJob_eq_false h] at ho
  cases ho

theorem OrderEntry.hearWithdraw_same (e : OrderEntry) (src : Nat) :
    (e.hearWithdraw src).id = e.id ∧ ((e.hearWithdraw src).openJob = true → e.openJob = true) := by
  unfold OrderEntry.hearWithdraw
  split
  · split
    · exact ⟨rfl, OrderEntry.openJob_of_closed rfl⟩
    · split <;> exact ⟨rfl, fun h => h⟩
  · exact ⟨rfl, fun h => h⟩

theorem OrderEntry.hearJobStatus_same (e : OrderEntry) (src : Nat) (m : JobStatusMsg) :
    (e.hearJobStatus src m).id = e.id ∧ ((e.hearJobStatus src m).openJob = true → e.openJob = true) := by
  unfold OrderEntry.hearJobStatus
  split
  case h_1 | h_2 => exact ⟨rfl, fun h => by cases h⟩
  case h_3 =>
    split
    · split
      · exact ⟨rfl, fun h => by cases h⟩
      · exact ⟨rfl, fun h => h⟩
    · exact ⟨rfl, fun h => h⟩
  all_goals exact ⟨rfl, fun h => h⟩

/-- An entry made an own job where fewer than eight are open keeps the laws (R59). -/
theorem State.keeps_own {id : OrderId} (now : Nat) (hlt : s.openJobs < 8) :
    s.KeepsRecords (s.modEntry id (fun e => e.own now)) := by
  refine { State.KeepsRecords.refl s with book := fun ⟨hlen, hnd, _⟩ => ⟨by simpa [State.modEntry] using hlen, ?_, ?_⟩ }
  · rwa [show (s.modEntry id (fun e => e.own now)).book.map OrderEntry.id = s.book.map OrderEntry.id by
      rw [State.modEntry, List.map_map]
      exact List.map_congr_left fun e _ => by dsimp only [Function.comp]; split <;> rfl]
  · have one : s.book.countP (fun e => e.id == id) ≤ 1 := by
      rw [← Function.comp_def (fun i => i == id) OrderEntry.id, ← List.countP_map, ← List.count_eq_countP]
      exact List.nodup_iff_count_le_one.mp hnd id
    simp only [State.openJobs, State.modEntry, ← List.countP_eq_length_filter, List.countP_map] at hlt ⊢
    calc s.book.countP (OrderEntry.openJob ∘ fun e => if e.id == id then e.own now else e)
        ≤ s.book.countP (fun e => e.openJob || e.id == id) := List.countP_mono_left fun e _ h => by
          simp only [Function.comp] at h
          split at h
          · next hid => simp [hid]
          · simp [h]
      _ ≤ s.book.countP OrderEntry.openJob + s.book.countP (fun e => e.id == id) := by
          simp only [List.countP_eq_length_filter]
          induction s.book with
          | nil => simp
          | cons a l ih => cases ha : a.openJob <;> cases hb : (a.id == id) <;> simp [ha, hb] at ih ⊢ <;> omega
      _ ≤ 8 := by omega

theorem State.keeps_request (id : OrderId) : s.KeepsRecords { s with seg := { s.seg with prompt := .requested id } } :=
  .of_eq rfl rfl rfl

/-- Every entry of an id in `ids` that holds a job is open. -/
def State.AllOpen (s : State) (ids : List OrderId) : Prop :=
  ∀ e ∈ s.book, e.id ∈ ids → e.job.isSome = true → OrderState.isOpen e.st = true

theorem State.AllOpen.modEntry {s : State} {ids : List OrderId} (h : s.AllOpen ids) {id : OrderId} {f : OrderEntry → OrderEntry}
    (hf : ∀ e, (f e).id = e.id ∧ (f e).job.isSome = e.job.isSome ∧
      (OrderState.isOpen e.st = true → OrderState.isOpen (f e).st = true)) : (s.modEntry id f).AllOpen ids := by
  intro e' he' hid hj
  obtain ⟨e, he, rfl⟩ := List.mem_map.mp he'
  split at hid
  · next hc =>
    rw [if_pos hc] at hj ⊢
    obtain ⟨hfid, hfj, hfo⟩ := hf e
    exact hfo (h e he (hfid ▸ hid) (hfj ▸ hj))
  · next hc =>
    rw [if_neg hc] at hj ⊢
    exact h e he hid hj

theorem State.AllOpen.placeJobStatus {s : State} {ids : List OrderId} (h : s.AllOpen ids) (id : OrderId) :
    (s.placeJobStatus id).AllOpen ids := by
  unfold State.placeJobStatus
  split
  · exact h
  · split
    · exact State.AllOpen.modEntry (s := s.place _) h fun e => ⟨rfl, by simp [OrderEntry.statusPlaced], fun h => h⟩
    · exact h

/-- A job blocked where every entry of its id is open, the book being sound, keeps the laws. -/
theorem State.KeepsRecords.block {s0 s : State} (h0 : s0.KeepsRecords s) {id : OrderId}
    (h : s0.BookSound → s.AllOpen [id]) : s0.KeepsRecords (s.blockJob id) := by
  refine .trans (t := s.modEntry id (fun e => { e with st := .ownBlocked })) ?_ (State.keeps_placeJobStatus _ id)
  refine { h0 with book := fun hb => ?_ }
  refine (s.keeps_modEntry (f := fun e => { e with st := .ownBlocked }) (fun _ => rfl) fun e he ho => ?_).book (h0.book hb)
  obtain ⟨hmem, hid⟩ := State.entry_some he
  have hj := (Bool.and_eq_true_iff.mp ho).1
  exact Bool.and_eq_true_iff.mpr ⟨hj, h hb e hmem (by simp [hid]) hj⟩

/-- Jobs that are open before the gates are tried are blocked or asked to load, and none is opened (R65). -/
theorem State.KeepsRecords.tryGates {s0 s : State} (h0 : s0.KeepsRecords s) (l : List OrderEntry)
    (h : s0.BookSound → s.AllOpen (l.map OrderEntry.id)) : s0.KeepsRecords (s.tryGates l) := by
  induction l generalizing s with
  | nil => exact h0
  | cons e l ih =>
    refine State.keeps_ite (fun _ => h0.trans ((s.keeps_request e.id).trans (State.keeps_judgePrompt _))) fun _ => ?_
    refine ih (h0.block fun hb e' he' hid => h hb e' he' (by simp [List.mem_singleton.mp hid])) fun hb => ?_
    have rest : s.AllOpen (l.map OrderEntry.id) := fun e' he' hid => h hb e' he' (List.mem_cons_of_mem _ hid)
    exact (rest.modEntry (f := fun e => { e with st := .ownBlocked }) fun e => ⟨rfl, rfl, fun _ => rfl⟩).placeJobStatus e.id

theorem mem_insertLoad {e a : OrderEntry} {l : List OrderEntry} : a ∈ insertLoad e l ↔ a = e ∨ a ∈ l := by
  induction l with
  | nil => simp [insertLoad]
  | cons b l ih =>
    unfold insertLoad
    split
    · simp
    · simp only [List.mem_cons, ih]
      tauto

theorem State.mem_loadOrder {e : OrderEntry} : e ∈ s.loadOrder ↔ e ∈ s.book ∧ e.asksLoad = true := by
  rw [← List.mem_filter, State.loadOrder]
  induction s.book.filter OrderEntry.asksLoad with
  | nil => simp
  | cons a l ih => simp [mem_insertLoad, ih]

theorem State.keeps_loadOrderGates : s.KeepsRecords (s.tryGates s.loadOrder) :=
  (State.KeepsRecords.refl s).tryGates _ fun hb e he hid _ => by
    obtain ⟨a, ha, hae⟩ := List.mem_map.mp hid
    obtain ⟨hmem, hload⟩ := s.mem_loadOrder.mp ha
    have same : a = e := Option.some.inj <|
      (State.entry_of_mem hb.2.1 hmem).symm.trans (hae ▸ State.entry_of_mem hb.2.1 he)
    simp only [OrderEntry.asksLoad, Bool.and_eq_true, beq_iff_eq] at hload
    simp [← same, hload.1.1, OrderState.isOpen]

end Sys2Proof.Machine
end

/-! # Proofs: the laws of the records kept by every step (O58) -/

section
namespace Sys2Proof.Machine

variable (s : State)

/-! ## The bus port's commands -/

theorem Bus.Bounded.sublist {b : Bus} (h : b.Bounded) {l : List Queued} (hl : l.Sublist b.queue) :
    ({ b with queue := l } : Bus).Bounded := by
  obtain ⟨hlen, hsort, hsend, hcounters⟩ := h
  exact ⟨hl.length_le.trans hlen, hsort.sublist (hl.map _), hl.countP_le.trans hsend, hcounters⟩

/-- The head of a queue of which nothing is in transmission may be sent (R7). -/
theorem State.keeps_sendHead (h : s.inTransmission = false) : s.KeepsRecords (s.setQueue (sendHead s.bus.queue)) :=
  { State.KeepsRecords.refl s with
    queue := fun hq => by
      obtain ⟨hlen, hsort, -, hcounters⟩ := hq
      have none_sent : s.bus.queue.countP Queued.sending = 0 :=
        List.countP_eq_zero.mpr fun a ha => by simpa using List.any_eq_false.mp h a ha
      unfold State.QueueBound State.setQueue
      cases hl : s.bus.queue with
      | nil => simpa [sendHead] using hcounters
      | cons q l =>
        simp only [hl, List.countP_cons, Nat.add_eq_zero_iff] at hlen hsort none_sent
        exact ⟨hlen, hsort, by simp [sendHead, none_sent.1], hcounters⟩ }

theorem Queued.lose_some {a a' : Queued} (h : a.lose = some a') :
    a'.notice = a.notice ∧ (a'.sending = true → a.sending = true) := by
  unfold Queued.lose at h
  split at h
  · split at h
    · cases h
    · cases h; exact ⟨rfl, fun h => by cases h⟩
  · cases h; exact ⟨rfl, fun h => h⟩

theorem Queued.abandon_some {a a' : Queued} (h : a.abandon = some a') :
    a'.notice = a.notice ∧ (a'.sending = true → a.sending = true) := by
  unfold Queued.abandon at h
  split at h
  · split at h
    · cases h
    · cases h; exact ⟨rfl, fun h => by cases h⟩
  · cases h; exact ⟨rfl, fun h => h⟩

theorem State.keeps_lost : s.KeepsRecords (s.setQueue (s.bus.queue.filterMap Queued.lose)) :=
  { State.KeepsRecords.refl s with
    queue := fun h => Bus.Bounded.filterMap h h.2.2.2.2 fun _ _ => Queued.lose_some }

theorem State.keeps_abandoned : s.KeepsRecords { s with bus := { s.bus with
    queue := s.bus.queue.filterMap Queued.abandon,
    sendDrops := if s.bus.queue.any Queued.exhausted then bump s.bus.sendDrops else s.bus.sendDrops } } :=
  { State.KeepsRecords.refl s with
    queue := fun h => Bus.Bounded.filterMap h (by split; exacts [bump_le _, h.2.2.2.2]) fun _ _ => Queued.abandon_some }

theorem State.keeps_told (q : Queued) : s.KeepsRecords (s.told q) := by
  unfold State.told
  split
  case h_1 => exact .of_eq rfl rfl rfl
  case h_2 => exact s.keeps_restartRepeat _
  all_goals exact .refl s

theorem State.keeps_completed (q : Queued) :
    s.KeepsRecords ((s.setQueue (s.bus.queue.filter (fun q => !q.sending))).told q) :=
  .trans (t := s.setQueue _) { State.KeepsRecords.refl s with queue := fun h => Bus.Bounded.sublist h List.filter_sublist } (State.keeps_told _ q)

/-! ## Loads -/

theorem State.keeps_failLoad (id : OrderId) : s.KeepsRecords (s.failLoad id) := by
  unfold State.failLoad
  split
  · exact .refl s
  · next e he =>
    refine State.keeps_ite (fun hst => (State.KeepsRecords.refl s).block fun hb e' he' hid _ => ?_) fun _ => .refl s
    have same : e = e' := Option.some.inj <|
      he.symm.trans (List.mem_singleton.mp hid ▸ State.entry_of_mem hb.2.1 he')
    rw [← same, eq_of_beq hst]
    rfl

theorem State.keeps_countLoad (id : OrderId) (tin : TinId) : s.KeepsRecords (s.countLoad id tin) := by
  have counted := s.keeps_mapJob id (fun j => j.load tin s.now)
  unfold State.countLoad
  dsimp only
  split
  · exact counted
  · exact State.keeps_ite (fun _ => counted.trans (State.keeps_placeClaim _ id)) fun _ => counted

theorem State.keeps_takeLoad (id : OrderId) (serial : Nat) : s.KeepsRecords (s.takeLoad id serial) := by
  unfold State.takeLoad
  dsimp only
  split
  · exact (s.keeps_endPrompt.trans (State.keeps_setSlot _ 1 _)).trans (State.keeps_countLoad _ _ _)
  · exact (s.keeps_endPrompt.trans (State.keeps_setSlot _ 1 _)).trans (State.keeps_failLoad _ _)

theorem State.keeps_takeStranger : s.KeepsRecords s.takeStranger :=
  State.keeps_ite (fun _ => (s.keeps_setSlot 1 _).trans (.of_eq rfl rfl rfl)) fun _ => .refl s

/-- A drive toward the destination an index already has sends none to the lane. -/
theorem State.keeps_drive {d : Destination} {pull : Bool} (h : s.seg.index = .stopped d pull) :
    s.KeepsRecords (s.drive d pull) :=
  { State.KeepsRecords.refl s with
    forLane := fun hf => by rw [h]; exact hf }

/-! ## The index -/

theorem State.startIndex_keepsStores : s.KeepsStores s.startIndex :=
  (s.keeps_rejectLidded.trans (State.keeps_judgeSlot7 _)).toKeepsStores.trans (.of_eq rfl)

theorem State.startIndex_transit : s.startIndex.xfr.inTransit = s.xfr.inTransit := by
  have judged : ∀ s : State, s.judgeSlot7.xfr = s.xfr := fun s => by
    unfold State.judgeSlot7
    split
    · obtain ⟨g, h⟩ := s.modTinAt_frame 7 (fun t => if t.st == .deferred || t.st == .pass then t.rejected .unfinished else t)
      rw [h]
    · rfl
  have rejected : s.rejectLidded.xfr = s.xfr := by
    unfold State.rejectLidded
    split
    · obtain ⟨g, h⟩ := s.modTinAt_frame 6 (fun t => if t.st == .lidded then t.rejected .unfinished else t)
      rw [h]
    · rfl
  change s.rejectLidded.judgeSlot7.xfr.inTransit = s.xfr.inTransit
  rw [judged, rejected]

theorem State.slot_modTinAt_ne {n m : Nat} (f : Tin → Tin) (h : n ≠ m) : (s.modTinAt n f).slot m = s.slot m := by
  unfold State.modTinAt
  split
  · rfl
  · simp [State.slot, State.setSlot, List.getD_eq_getElem?_getD, List.getElem?_set_ne h]

/-- The destination of a tin depends on the last-cell flag alone. -/
theorem State.destination_congr {s s' : State} (h : s'.cfg = s.cfg) (r : TinRecord) : s'.destination r = s.destination r := by
  unfold State.destination
  rw [h]

/-- A tin bound for the lane when its index starts was bound for it when the index was judged (R145, R155). -/
theorem State.startIndex_lane (h : s.startIndex.seg.index.forLane = true) :
    ∃ r, s.slot 7 = some r ∧ s.destination r = .lane := by
  have hslot : s.rejectLidded.slot 7 = s.slot 7 := by
    unfold State.rejectLidded
    split
    · exact s.slot_modTinAt_ne _ (by decide)
    · rfl
  have hcfg : s.rejectLidded.cfg = s.cfg := by
    unfold State.rejectLidded
    split
    · obtain ⟨g, h⟩ := s.modTinAt_frame 6 (fun t => if t.st == .lidded then t.rejected .unfinished else t)
      rw [h]
    · rfl
  change (s.rejectLidded.judgeSlot7.fixedDestination == .lane) = true at h
  rw [beq_iff_eq] at h
  generalize s.rejectLidded = s1 at h hslot hcfg
  unfold State.fixedDestination at h
  split at h
  · cases h
  · next r hr =>
    unfold State.judgeSlot7 at h hr
    split at h
    · next hlast =>
      rw [if_pos hlast] at hr
      obtain ⟨g, hg⟩ := s1.modTinAt_frame 7 (fun t => if t.st == .deferred || t.st == .pass then t.rejected .unfinished else t)
      rw [State.destination_congr (s := s1) (by rw [hg])] at h
      cases r with
      | unknown => cases h
      | known t => cases ht : t.st <;> simp [State.destination, ht, hlast] at h
    · next hlast =>
      rw [if_neg hlast] at hr
      exact ⟨r, hslot ▸ hr, by rw [← h, State.destination_congr hcfg]⟩

/-- An index starts toward the lane only where the lane has room (R155, R163). -/
theorem State.startIndex_laneBound (hr : s.indexReady = true) (h : s.LaneBound) : s.startIndex.LaneBound := by
  rw [State.LaneBound, s.startIndex_transit]
  refine ⟨h.1, fun hf => ?_⟩
  obtain ⟨r, hslot, hdest⟩ := s.startIndex_lane hf
  simp only [State.indexReady, Bool.and_eq_true] at hr
  have free := hr.1.2
  simp only [State.slot7Free, hslot, hdest, State.canLeave, laneMax] at free
  have room : s.xfr.inTransit.length < 3 := of_decide_eq_true free
  omega

/-- The laws of the records, each kept from `s` to `t`. -/
def State.KeepsLaws (s t : State) : Prop := s.KeepsStores t ∧ (s.LaneBound → t.LaneBound)

theorem State.KeepsRecords.laws {s t : State} (h : s.KeepsRecords t) : s.KeepsLaws t :=
  ⟨h.toKeepsStores, h.toKeepsLane.laneBound⟩

theorem State.startIndex_keepsLaws (hr : s.indexReady = true) : s.KeepsLaws s.startIndex :=
  ⟨s.startIndex_keepsStores, s.startIndex_laneBound hr⟩

/-- A completed index releases at most one tin, for which its command found room, and stands no longer (R146). -/
theorem State.indexMoves_keepsLaws {d : Destination} {pull : Bool} {n : Nat} (h : s.seg.index = .running d pull n) :
    s.KeepsLaws (s.indexMoves d pull) := by
  rw [State.indexMoves_eq]
  have rest := (s.depart d).keeps_advance none pull
  by_cases hd : d = .lane
  · subst hd
    refine ⟨(s.depart_keepsStores .lane).trans rest.toKeepsStores, fun ⟨_, hroom⟩ => ⟨?_, fun hf => by cases hf⟩⟩
    exact (rest.transit.trans s.depart_lane_transit).trans (Nat.succ_le_succ (hroom (by rw [h]; rfl)))
  · exact ((s.keeps_depart hd).trans rest).laws

/-! ## Every command -/

theorem State.act_keepsLaws {s t : State} {f : State → State} (h : s.act f = .next t) (hf : s.KeepsLaws (f s)) :
    s.KeepsLaws t := by
  simp only [State.act, Host.Outcome.next.injEq] at h
  subst h
  split
  · exact (State.KeepsRecords.refl s).laws
  · exact hf

theorem execIndexCommand_keeps {s t : State} (h : execIndexCommand s = .next t) : s.KeepsLaws t := by
  refine State.act_keepsLaws h ?_
  split
  · next hr => exact s.startIndex_keepsLaws hr
  · exact (State.KeepsRecords.refl s).laws

theorem execIndexComplete_keeps {s t : State} {x : Sample} (h : execIndexComplete x s = .next t) : s.KeepsLaws t := by
  refine State.act_keepsLaws h ?_
  split
  · next d pull n hi =>
    have latched : s.KeepsRecords (s.latch { x with offIndex := false }) := s.keeps_latch _
    obtain ⟨hstores, hlane⟩ := State.indexMoves_keepsLaws (s.latch { x with offIndex := false }) hi
    have checked := ((s.latch { x with offIndex := false }).indexMoves d pull).keeps_checkCompletion
    exact ⟨(latched.toKeepsStores.trans hstores).trans checked.toKeepsStores,
      fun hl => checked.laneBound (hlane (latched.laneBound hl))⟩
  · exact (State.KeepsRecords.refl s).laws
  · exact (State.KeepsRecords.refl s).laws

theorem execStartingEnd_keeps {s t : State} {im : ImageRead} {x : Sample} (h : execStartingEnd im x s = .next t) :
    s.KeepsRecords t := by
  refine State.act_keeps h (State.keeps_ite (fun _ => ?_) fun _ => .refl s)
  split
  · refine .trans ?_ (State.keeps_buildStatus _)
    exact .of_eq rfl rfl rfl
  · next hc => exact ((s.keeps_latch x).trans (State.keeps_handOut _ hc)).trans (State.keeps_beginWork _)

theorem execFrameComplete_keeps {s t : State} (h : execFrameComplete s = .next t) : s.KeepsRecords t := by
  refine State.act_keeps h ?_
  split
  · exact .refl s
  · exact s.keeps_completed _

theorem execQuietGap_keeps {s t : State} (h : execQuietGap s = .next t) : s.KeepsRecords t :=
  State.act_keeps h (State.keeps_ite (fun _ => .refl s) fun hc =>
    s.keeps_sendHead (by simpa using (not_or.mp (mt Bool.or_eq_true_iff.mpr hc)).1))

theorem execOrder_keeps {s t : State} {src : Nat} {m : OrderMsg} (h : execOrder src m s = .next t) : s.KeepsRecords t :=
  State.act_keeps h (s.keeps_hear _ _ _ fun s =>
    (State.keeps_ite (fun _ => .refl s) fun _ => s.keeps_rxError).trans (State.keeps_booked _ (State.keeps_takeOrder _ m)))

theorem execCancel_keeps {s t : State} {src : Nat} {id : OrderId} (h : execCancel src id s = .next t) : s.KeepsRecords t := by
  refine State.act_keeps h (s.keeps_hear _ _ _ fun s => s.keeps_booked ?_)
  split
  · exact .refl s
  · next e he =>
    exact State.keeps_ite (fun _ => s.keeps_takeCancel ((State.entry_some he).2.symm ▸ he)) fun _ => .refl s

theorem execOffer_keeps {s t : State} {src : Nat} {id : OrderId} {est : Nat} (h : execOffer src id est s = .next t) :
    s.KeepsRecords t :=
  State.act_keeps h (s.keeps_hear _ _ _ fun s => s.keeps_booked (s.keeps_close id
    (fun e => by split <;> rfl) fun e ho => by split at ho <;> exact ho))

theorem execClaim_keeps {s t : State} {src : Nat} {id : OrderId} {est : Nat} {c : Bool}
    (h : execClaim src id est c s = .next t) : s.KeepsRecords t := by
  refine State.act_keeps h (s.keeps_hear _ _ _ fun s => s.keeps_booked ?_)
  split
  · exact .refl s
  · next e he =>
    dsimp only
    split
    · exact s.keeps_close id (fun e => e.hearClaim_id _) fun e => e.hearClaim_openJob _
    · next j hj =>
      exact State.keeps_ite (fun _ => .refl s) fun _ => s.keeps_contest ((State.entry_some he).2.symm ▸ he) hj _

theorem execWithdraw_keeps {s t : State} {src : Nat} {id : OrderId} (h : execWithdraw src id s = .next t) :
    s.KeepsRecords t :=
  State.act_keeps h (s.keeps_hear _ _ _ fun s => s.keeps_booked (s.keeps_close id
    (fun e => (e.hearWithdraw_same src).1) fun e => (e.hearWithdraw_same src).2))

theorem execJobStatus_keeps {s t : State} {src : Nat} {m : JobStatusMsg} (h : execJobStatus src m s = .next t) :
    s.KeepsRecords t := by
  refine State.act_keeps h (s.keeps_hear _ _ _ fun s => s.keeps_booked (State.keeps_ite (fun _ => .refl s) fun _ => ?_))
  split
  · exact .refl s
  · split
    · exact s.keeps_close m.id (fun e => (e.hearJobStatus_same src m).1) fun e => (e.hearJobStatus_same src m).2
    · exact State.keeps_ite (fun _ => .refl s) fun _ => s.keeps_placeClaim _

theorem execStirringRunEnd_keeps {s t : State} {n : Fin 16} (h : execStirringRunEnd n s = .next t) : s.KeepsRecords t := by
  refine State.act_keeps h ?_
  split
  · exact .refl s
  · exact State.keeps_ite (fun _ => s.keeps_modStir _ _) fun _ => .refl s

theorem execRestart_keeps {s t : State} {src target : Nat} {x : Sample} (h : execRestart src target x s = .next t) :
    s.KeepsRecords t :=
  State.act_keeps h ((s.keeps_latch x).trans (State.keeps_hear _ _ _ _ fun s => State.keeps_ite
    (fun _ => ((((s.keeps_restartCanisters).trans (State.keeps_emptyQueue _)).trans (State.keeps_clearRecords _)).trans
      (State.keeps_forget _)).trans (State.keeps_beginWork _)) fun _ => .refl s))

theorem execEntryFreed_keeps {s t : State} {n : Nat} (h : execEntryFreed n s = .next t) : s.KeepsRecords t := by
  refine State.act_keeps h (State.keeps_ite (fun _ => ?_) fun _ => .refl s)
  have freed := (s.keeps_stations (s.stations.filter (fun e => e.number != n))).trans (State.keeps_retestBlocked _)
  exact State.keeps_ite (fun _ => freed.trans (State.keeps_xfr _ le_rfl)) fun _ => freed

theorem execCapMoveEnd_keeps {s t : State} {x : Sample} (h : execCapMoveEnd x s = .next t) : s.KeepsRecords t := by
  refine State.act_keeps h ?_
  split
  case h_1 => exact (s.keeps_latch x).trans (State.keeps_capOpened _)
  case h_2 => exact (s.keeps_latch x).trans (State.keeps_capClosed _)
  all_goals exact .refl s

theorem execEmergencyStop_keeps {s t : State} {x : Sample} (h : execEmergencyStop x s = .next t) : s.KeepsRecords t := by
  refine State.act_keeps h ((s.keeps_pins { (s.latch x).pins with estop := true }).trans ?_)
  dsimp only
  split
  case h_1 | h_2 | h_3 | h_4 | h_5 => exact State.keeps_takeStop _
  all_goals exact .refl _

theorem execConfirm_keeps {s t : State} {x : Sample} (h : execConfirm x s = .next t) : s.KeepsRecords t := by
  refine State.act_keeps h ((s.keeps_latch x).trans ?_)
  dsimp only
  split
  case h_1 => exact State.keeps_leaveHalt _
  case h_2 => exact State.keeps_reconcile _
  case h_3 | h_4 | h_5 | h_6 => exact .of_eq rfl rfl rfl
  all_goals exact .refl _

theorem execLoaded_keeps {s t : State} {x : Sample} (h : execLoaded x s = .next t) : s.KeepsRecords t := by
  refine State.act_keeps h ((s.keeps_latch x).trans (State.keeps_ite (fun _ => ?_) fun _ => .refl _))
  split
  · exact State.keeps_takeLoad _ _ _
  · exact State.keeps_takeStranger _
  · exact State.keeps_takeStranger _

theorem execOfferWindowEnd_keeps {s t : State} {id : OrderId} (h : execOfferWindowEnd id s = .next t) : s.KeepsRecords t := by
  refine State.act_keeps h ?_
  split
  · exact .refl s
  · next e _ =>
    refine State.keeps_ite (fun _ => State.keeps_ite (fun hc => ?_) fun _ => ?_) fun _ => .refl s
    · have room : s.openJobs < 8 := by
        simp only [State.claims, Bool.and_eq_true, decide_eq_true_eq] at hc
        exact hc.2
      exact (s.keeps_own s.now room).trans (State.keeps_placeClaim _ id)
    · split
      · exact s.keeps_placeElsewhere id _
      · exact s.keeps_close id (fun _ => rfl) fun _ => OrderEntry.openJob_of_closed rfl

theorem execClaimSettleEnd_keeps {s t : State} {id : OrderId} (h : execClaimSettleEnd id s = .next t) : s.KeepsRecords t := by
  refine State.act_keeps h ?_
  split
  · exact .refl s
  · next e he =>
    refine State.keeps_ite (fun hst => ?_) fun _ => .refl s
    exact (s.keeps_setSt he _ fun _ => by rw [eq_of_beq hst]; rfl).trans (State.keeps_placeJobStatus _ id)

theorem execClaimWaitEnd_keeps {s t : State} {id : OrderId} (h : execClaimWaitEnd id s = .next t) : s.KeepsRecords t :=
  State.act_keeps h (s.keeps_close id (fun e => by split <;> rfl) fun e ho => by
    split at ho
    · exact OrderEntry.openJob_of_closed rfl ho
    · exact ho)

theorem execRetentionEnd_keeps {s t : State} {id : OrderId} (h : execRetentionEnd id s = .next t) : s.KeepsRecords t := by
  refine State.act_keeps h { State.KeepsRecords.refl s with book := fun ⟨hlen, hnd, hopen⟩ => ⟨?_, ?_, ?_⟩ }
  · exact (List.length_filter_le _ _).trans hlen
  · exact hnd.sublist (List.filter_sublist.map _)
  · exact ((List.filter_sublist.filter _).length_le).trans hopen

theorem State.keeps_reserve (n v : Nat) : s.KeepsRecords (s.reserve n v) := s.keeps_modCanister n fun _ => le_rfl

theorem State.keeps_chargeStroke (n v : Nat) : s.KeepsRecords (s.chargeStroke n v) :=
  s.keeps_modCanister n fun c => c.draw_level v

theorem State.keeps_actOnCheck (ch : Nat) (tin : Tin) (e : DoseEntry) (p : Plan) :
    s.KeepsRecords (s.actOnCheck ch tin e p) := by
  unfold State.actOnCheck
  split
  · exact s.keeps_freeChannel _ _
  · exact (s.keeps_modTinAt 2 _).trans (State.keeps_freeChannel _ _ _)
  · exact (s.keeps_modTinAt 2 _).trans (State.keeps_freeChannel _ _ _)
  · exact (s.keeps_modTinAt 2 _).trans (State.keeps_freeChannel _ _ _)
  · exact ((s.keeps_reserve _ _).trans (State.keeps_modTinAt _ 2 _)).trans (State.keeps_nextMove _ _)

theorem State.keeps_grantTo (ch i : Nat) : s.KeepsRecords (s.grantTo ch i) := by
  have held : s.KeepsRecords ((s.leaveWaiting i).setChannel ch (some i)) := .of_eq rfl rfl rfl
  unfold State.grantTo
  dsimp only
  split
  · exact .refl s
  · split
    · exact .refl s
    · split
      case h_1 => exact (held.trans (State.keeps_actOnCheck _ _ _ _ _)).trans (State.keeps_afterDosing _ _)
      all_goals exact .refl s

theorem execChannelGrant_keeps {s t : State} (h : execChannelGrant s = .next t) : s.KeepsRecords t := by
  refine State.act_keeps h ?_
  split
  · exact .refl s
  · exact s.keeps_grantTo _ _

theorem execSwitchEnd_keeps {s t : State} {ch : Fin 4} (h : execSwitchEnd ch s = .next t) : s.KeepsRecords t := by
  refine State.act_keeps h ?_
  split
  · exact .refl s
  · next n _ =>
    have switched : s.KeepsRecords (s.modPump n Pump.switched) := s.keeps_modPump n fun _ hu => hu
    exact State.keeps_ite (fun _ => switched.trans (State.keeps_nextMove _ _)) fun _ => .refl s

theorem State.keeps_strokeComplete (ch : Nat) (e : DoseEntry) (p : Plan) : s.KeepsRecords (s.strokeComplete ch e p) := by
  have moved : s.KeepsRecords (s.modPump p.canister (fun u => u.moved (u.content - (s.pump p.canister).steps))) :=
    s.keeps_modPump _ fun u hu => (Nat.sub_le _ _).trans hu
  unfold State.strokeComplete
  dsimp only
  split
  · exact ((moved.trans (State.keeps_modTinAt _ 2 _)).trans (State.keeps_chargeStroke _ _ _)).trans (State.keeps_nextMove _ _)
  · exact (((moved.trans (State.keeps_modTinAt _ 2 _)).trans (State.keeps_chargeStroke _ _ _)).trans
      (State.keeps_modTinAt _ 2 _)).trans (State.keeps_freeChannel _ _ _)

theorem execStrokeEnd_keeps {s t : State} {ch : Fin 4} {g : Gray} (h : execStrokeEnd ch g s = .next t) : s.KeepsRecords t := by
  refine State.act_keeps h ?_
  split
  · exact .refl s
  · split
    case h_1 =>
      exact State.keeps_ite (fun _ => ((s.keeps_latchGray _ g).trans (State.keeps_ite
        (fun _ => State.keeps_strokeComplete _ _ _ _) fun _ => State.keeps_abortEntry _ _ _ _ _)).trans
        (State.keeps_afterDosing _ _)) fun _ => .refl s
    all_goals exact .refl s

theorem execRefillEnd_keeps {s t : State} {ch : Fin 4} {g : Gray} (h : execRefillEnd ch g s = .next t) : s.KeepsRecords t := by
  refine State.act_keeps h ?_
  split
  · exact .refl s
  · next n _ =>
    have latched := s.keeps_latchGray n g
    refine State.keeps_ite (fun _ => State.keeps_ite (fun _ => (latched.trans ?_).trans (State.keeps_nextMove _ _))
      fun _ => (latched.trans (State.keeps_abortEntry _ _ _ _ _)).trans (State.keeps_afterDosing _ _)) fun _ => .refl s
    exact (s.latchGray n g).keeps_modPump n (f := fun u => u.moved (s.pumpCfg n).strokeSteps) fun _ _ => le_rfl

theorem execDriveFault_keeps {s t : State} {ch : Fin 4} {g : Gray} (h : execDriveFault ch g s = .next t) :
    s.KeepsRecords t := by
  have fault : s.KeepsRecords (s.setFault ch true) := s.keeps_pins _
  refine State.act_keeps h ?_
  dsimp only
  split
  · exact fault
  · exact ((fault.trans (State.keeps_latchGray _ _ g)).trans (State.keeps_abortEntry _ _ _ _ _)).trans
      (State.keeps_afterDosing _ _)

theorem execIndexTimeout_keeps {s t : State} (h : execIndexTimeout s = .next t) : s.KeepsRecords t := by
  refine State.act_keeps h ?_
  split
  · refine .trans ?_ (State.keeps_jamCell _)
    exact ⟨.of_eq rfl, le_rfl, fun h => by cases h⟩
  · exact .refl s
  · exact .refl s

theorem execIndexFinish_keeps {s t : State} (h : execIndexFinish s = .next t) : s.KeepsRecords t := by
  refine State.act_keeps h ?_
  split
  · next d pull hi => exact State.keeps_ite (fun _ => s.keeps_drive hi) fun _ => .refl s
  · exact .refl s
  · exact .refl s

theorem execLoadWaitDisplay_keeps {s t : State} (h : execLoadWaitDisplay s = .next t) : s.KeepsRecords t := by
  refine State.act_keeps h ?_
  split
  · exact .of_eq rfl rfl rfl
  · exact .refl s
  · exact .refl s

theorem execConsignRepeat_keeps {s t : State} {q : Nat} (h : execConsignRepeat q s = .next t) : s.KeepsRecords t := by
  refine State.act_keeps h ?_
  split
  · exact .refl s
  · exact State.keeps_ite (fun _ => s.keeps_repeatConsign _) fun _ => .refl s

theorem execTinArrival_keeps {s t : State} {g : Option TinId} (h : execTinArrival g s = .next t) : s.KeepsRecords t := by
  refine State.act_keeps h ((s.keeps_pins ((s.latchTag g).setLaneHead true).pins).trans ?_)
  dsimp only
  split
  · exact State.keeps_firstRead _
  · exact .refl _
  · exact .refl _

theorem execHoldRead_keeps {s t : State} {g : Option TinId} (h : execHoldRead g s = .next t) : s.KeepsRecords t := by
  refine State.act_keeps h ?_
  split
  · exact (s.keeps_latchTag g).trans (State.keeps_judgeRead _ _ _ _ _ _)
  · exact .refl s
  · exact .refl s

theorem execHoldPeriodEnd_keeps {s t : State} (h : execHoldPeriodEnd s = .next t) : s.KeepsRecords t := by
  refine State.act_keeps h ?_
  split
  · exact State.keeps_ite (fun _ => s.keeps_setIntake _) fun _ => s.keeps_resolveHold _
  · exact .refl s
  · exact .refl s

theorem State.keeps_endPress (f : Tin → Tin) : s.KeepsRecords (s.endPress f) :=
  (s.keeps_modTinAt 4 f).trans (State.keeps_setBay _ _)

theorem execPressComplete_keeps {s t : State} (h : execPressComplete s = .next t) : s.KeepsRecords t := by
  refine State.act_keeps h ?_
  split
  case h_1 => exact s.keeps_endPress _
  all_goals exact .refl s

theorem execPressTimeout_keeps {s t : State} (h : execPressTimeout s = .next t) : s.KeepsRecords t := by
  refine State.act_keeps h ?_
  split
  case h_1 => exact s.keeps_endPress _
  all_goals exact .refl s

theorem execHatchOpened_keeps {s t : State} {m : Fin 5} (h : execHatchOpened m s = .next t) : s.KeepsRecords t :=
  State.act_keeps h ((s.keeps_setHatch m true).trans (State.keeps_modMagazine _ _ fun _ _ _ _ => .empty _))

theorem State.keeps_takeLidLoad (size lid count : Nat) : s.KeepsRecords (s.takeLidLoad size lid count) :=
  State.keeps_ite (fun _ => (s.keeps_loadLids _ _ _).trans (State.keeps_lidRejudge _ _)) fun _ => s.keeps_loadLids _ _ _

theorem execTransferInComplete_keeps {s t : State} (h : execTransferInComplete s = .next t) : s.KeepsRecords t := by
  refine State.act_keeps h ((s.keeps_pins (s.setShakerTin true).pins).trans ?_)
  dsimp only
  split
  case h_1 =>
    refine .trans ?_ (State.keeps_shakerLook _)
    exact .of_eq rfl rfl rfl
  all_goals exact .of_eq rfl rfl rfl

theorem State.keeps_interruptOrLook : s.KeepsRecords s.interruptOrLook :=
  State.keeps_ite (fun _ => s.keeps_modShaker _) fun _ => s.keeps_shakerLook

theorem State.keeps_reportDone (r : Option TinRecord) : s.KeepsRecords (s.reportDone r) := by
  unfold State.reportDone
  split
  · exact .refl s
  · exact State.keeps_ite (fun _ => s.keeps_report _) fun _ => .refl s

theorem execReturnComplete_keeps {s t : State} (h : execReturnComplete s = .next t) : s.KeepsRecords t := by
  refine State.act_keeps h ((s.keeps_pins (s.setSensed 7).pins).trans ?_)
  dsimp only
  split
  case h_1 =>
    refine .trans (.trans ?_ (State.keeps_reportDone _ _)) (State.keeps_shakerLook _)
    exact .of_eq rfl rfl rfl
  all_goals exact .of_eq rfl rfl rfl

theorem execPrinterReady_keeps {s t : State} (h : execPrinterReady s = .next t) : s.KeepsRecords t := by
  refine State.act_keeps h ((s.keeps_pins s.setPrinterReady.pins).trans ?_)
  dsimp only
  split
  · exact .of_eq rfl rfl rfl
  · exact .of_eq rfl rfl rfl

theorem execAttentionChange_keeps {s t : State} {i : Fin 7} {b : Bool} (h : execAttentionChange i b s = .next t) :
    s.KeepsRecords t := by
  have atn : s.KeepsRecords (s.setAtn i b) :=
    State.keeps_ite (fun _ => s.keeps_pins _) fun _ => State.keeps_ite (fun _ => s.keeps_pins _) fun _ => .refl s
  exact State.act_keeps h (State.keeps_ite (fun _ => atn) fun _ => atn.trans (.of_eq rfl rfl rfl))

theorem State.keeps_modPeers (n : Nat) (f : Station → Station) : s.KeepsRecords (s.modPeer n f) := s.keeps_stations _

/-- Every command but the start and the completion of an index keeps the laws of the records and adds nothing to the
lane. -/
theorem exec_keepsRecords {c : Instr} {s t : State} (h : exec c s = .next t) (hc : c ≠ .indexCommand)
    (hx : ∀ x, c ≠ .indexComplete x) : s.KeepsRecords t := by
  unfold exec at h
  cases c with
  | indexCommand => exact absurd rfl hc
  | indexComplete x => exact absurd rfl (hx x)
  | resetAsserted => cases h; exact (s.keeps_powerOn s.pins).trans (.of_eq rfl rfl rfl)
  | powerOn straps pins => cases h; exact ((s.keeps_powerOn pins).trans (State.keeps_strapped _ straps)).trans (.of_eq rfl rfl rfl)
  | startingEnd im x => exact execStartingEnd_keeps h
  | quietGap => exact execQuietGap_keeps h
  | arbitrationLost => exact State.act_keeps h s.keeps_lost
  | frameAbandoned => exact State.act_keeps h s.keeps_abandoned
  | frameComplete => exact execFrameComplete_keeps h
  | frameDiscarded f => exact State.act_keeps h (State.keeps_ite (fun _ => s.keeps_rxError) fun _ => .refl s)
  | statusPeriod => exact State.act_keeps h (State.keeps_ite (fun _ => s.keeps_buildStatus) fun _ => .refl s)
  | order src m => exact execOrder_keeps h
  | cancel src id => exact execCancel_keeps h
  | offer src id est => exact execOffer_keeps h
  | claim src id est committed => exact execClaim_keeps h
  | withdraw src id => exact execWithdraw_keeps h
  | jobStatus src m => exact execJobStatus_keeps h
  | cellStatus src m tag =>
    exact State.act_keeps h ((s.keeps_latchTag tag).trans (State.keeps_hear _ _ _ _ fun s => s.keeps_takeStatus src m))
  | consign src m tag =>
    exact State.act_keeps h ((s.keeps_latchTag tag).trans (State.keeps_hear _ _ _ _ fun s =>
      State.keeps_ite (fun _ => s.keeps_takeConsign m) fun _ => .refl s))
  | tinReport src m =>
    exact State.act_keeps h (s.keeps_hear _ _ _ fun s => s.keeps_booked
      (State.keeps_ite (fun _ => s.keeps_resolveTin _ _) fun _ => .refl s))
  | stockRefill src target n v st b => exact State.act_keeps h (s.keeps_stock _ _ fun s => s.keeps_takeRefill n v st b)
  | stockSetLevel src target n l st b => exact State.act_keeps h (s.keeps_stock _ _ fun s => s.keeps_takeSetLevel n l st b)
  | stockLock src target n => exact State.act_keeps h (s.keeps_stock _ _ fun s => s.keeps_takeLock n)
  | stockRelease src target n g =>
    exact State.act_keeps h (s.keeps_stock _ _ fun s => (s.keeps_latchGray n g).trans (State.keeps_takeRelease _ n g))
  | stockReply src m => exact State.act_keeps h (s.keeps_hear _ _ _ fun s => .refl s)
  | lidLoad src target size lid count b =>
    exact State.act_keeps h ((s.keeps_latchLid b).trans (State.keeps_hear _ _ _ _ fun s =>
      State.keeps_ite (fun _ => s.keeps_takeLidLoad size lid count) fun _ => .refl s))
  | clock src time day x =>
    exact State.act_keeps h ((s.keeps_latch x).trans (State.keeps_hear _ _ _ _ fun s =>
      State.keeps_ite (fun _ => s.keeps_takeClock _) fun _ => s.keeps_rxError))
  | pause src => exact State.act_keeps h (s.keeps_hear _ _ _ State.keeps_takePause)
  | resume src x => exact State.act_keeps h ((s.keeps_latch x).trans (State.keeps_hear _ _ _ _ State.keeps_takeResume))
  | restart src target x => exact execRestart_keeps h
  | entryStale n =>
    exact State.act_keeps h (State.keeps_ite (fun _ => (s.keeps_modPeers n _).trans (State.keeps_retestBlocked _)) fun _ => .refl s)
  | entryGone n =>
    exact State.act_keeps h (State.keeps_ite (fun _ => (s.keeps_modPeers n _).trans (State.keeps_retestBlocked _)) fun _ => .refl s)
  | entryFreed n => exact execEntryFreed_keeps h
  | clockAdvance x =>
    exact State.act_keeps h ((((s.keeps_latch x).trans (State.keeps_dck _ _)).trans (State.keeps_dueTestAll _)).trans
      (State.keeps_judgeWindow _ _))
  | idleTimeout =>
    exact State.act_keeps h (State.keeps_ite (fun _ => s.keeps_capClose.trans (State.keeps_enter _ _)) fun _ => .refl s)
  | capMoveEnd x => exact execCapMoveEnd_keeps h
  | emergencyStop x => exact execEmergencyStop_keeps h
  | estopReleased => exact State.act_keeps h (s.keeps_pins _)
  | loaded x => exact execLoaded_keeps h
  | skip => exact State.act_keeps h (State.keeps_ite (fun _ => s.keeps_endPrompt) fun _ => .refl s)
  | confirm x => exact execConfirm_keeps h
  | offerWindowEnd id => exact execOfferWindowEnd_keeps h
  | claimSettleEnd id => exact execClaimSettleEnd_keeps h
  | claimWaitEnd id => exact execClaimWaitEnd_keeps h
  | loadGate x =>
    exact State.act_keeps h ((s.keeps_latch x).trans
      (State.keeps_ite (fun _ => State.keeps_loadOrderGates _) fun _ => .refl _))
  | tinOverdue tin => exact State.act_keeps h (s.keeps_resolveTin tin _)
  | jobStatusRepeat id => exact State.act_keeps h (State.keeps_ite (fun _ => s.keeps_placeJobStatus id) fun _ => .refl s)
  | retentionEnd id => exact execRetentionEnd_keeps h
  | stirringRunEnd n => exact execStirringRunEnd_keeps h
  | channelGrant => exact execChannelGrant_keeps h
  | switchEnd ch => exact execSwitchEnd_keeps h
  | strokeEnd ch g => exact execStrokeEnd_keeps h
  | refillEnd ch g => exact execRefillEnd_keeps h
  | driveFault ch g => exact execDriveFault_keeps h
  | channelFaultCleared ch => exact State.act_keeps h (s.keeps_pins _)
  | spillAsserted => exact State.act_keeps h (s.keeps_pins _)
  | spillReleased => exact State.act_keeps h (s.keeps_pins _)
  | indexTimeout => exact execIndexTimeout_keeps h
  | indexFinish => exact execIndexFinish_keeps h
  | loadWaitEnd => exact State.act_keeps h (State.keeps_ite (fun _ => s.keeps_endPrompt) fun _ => .refl s)
  | loadWaitDisplay => exact execLoadWaitDisplay_keeps h
  | chuteDoorOpened => exact State.act_keeps h (s.keeps_pins _)
  | chuteDoorClosed => exact State.act_keeps h { State.KeepsRecords.refl s with chute := fun _ => Nat.zero_le _ }
  | dispatchFullChange full => exact State.act_keeps h (s.keeps_pins _)
  | consignRepeat q => exact execConsignRepeat_keeps h
  | tinArrival tag => exact execTinArrival_keeps h
  | tinLiftedOff =>
    have gate : s.KeepsRecords (s.setLaneHead false) := s.keeps_pins _
    exact State.act_keeps h (State.keeps_ite (fun _ => gate) fun _ => gate.trans (State.keeps_setIntake _ _))
  | holdRead tag => exact execHoldRead_keeps h
  | holdPeriodEnd => exact execHoldPeriodEnd_keeps h
  | pressComplete => exact execPressComplete_keeps h
  | pressTimeout => exact execPressTimeout_keeps h
  | hatchOpened m => exact execHatchOpened_keeps h
  | hatchClosed m b =>
    exact State.act_keeps h (((s.keeps_latchLid b).trans (State.keeps_setHatch _ m false)).trans (State.keeps_lidRejudge _ _))
  | transferInComplete => exact execTransferInComplete_keeps h
  | clampConfirmed => exact State.act_keeps h ((s.keeps_pins _).trans (State.keeps_shakerLook (s.setClamp true)))
  | clampConfirmationLost => exact State.act_keeps h ((s.keeps_pins _).trans (State.keeps_interruptOrLook (s.setClamp false)))
  | doorOpened => exact State.act_keeps h ((s.keeps_pins _).trans (State.keeps_interruptOrLook (s.setDoor true)))
  | doorClosed => exact State.act_keeps h ((s.keeps_pins _).trans (State.keeps_shakerLook (s.setDoor false)))
  | shakeRunEnd =>
    exact State.act_keeps h (State.keeps_ite (fun _ => (s.keeps_modShaker _).trans (State.keeps_shakerLook _)) fun _ => .refl s)
  | returnComplete => exact execReturnComplete_keeps h
  | lidLoadEntry size lid count b =>
    exact State.act_keeps h ((s.keeps_latchLid b).trans (State.keeps_ite
      (fun _ => (State.keeps_takeLidLoad _ size lid count).trans (State.keeps_place _ _)) fun _ => .refl _))
  | magazineView m => exact State.act_keeps h (State.keeps_ite (fun _ => (.of_eq rfl rfl rfl)) fun _ => .refl s)
  | printerReady => exact execPrinterReady_keeps h
  | attentionChange i b => exact execAttentionChange_keeps h

theorem exec_keepsLaws {c : Instr} {s t : State} (h : exec c s = .next t) : s.KeepsLaws t := by
  by_cases hc : c = .indexCommand
  · subst hc
    exact execIndexCommand_keeps h
  · by_cases hx : ∃ x, c = .indexComplete x
    · obtain ⟨x, rfl⟩ := hx
      exact execIndexComplete_keeps h
    · exact (exec_keepsRecords h hc (not_exists.mp hx)).laws

/-! ## One millisecond -/

theorem IndexState.tick_forLane (i : IndexState) : i.tick.forLane = i.forLane := by cases i <;> rfl

theorem State.keeps_tickBook : s.KeepsRecords s.tickBook :=
  { State.KeepsRecords.refl s with
    book := fun h => h.map (fun _ => rfl) fun e _ ho =>
      (OrderEntry.openJob_of_same (e := e) (e' := e.tick) rfl (by simp [OrderEntry.tick])).symm.trans ho }

theorem State.keeps_tickStirrers : s.KeepsRecords s.tickStirrers :=
  s.keeps_mapCanisters fun c => by split <;> exact le_rfl

theorem State.keeps_tickPumps : s.KeepsRecords s.tickPumps :=
  { State.KeepsRecords.refl s with
    content := fun h n => by
      have hn := h n
      simp only [State.pump, State.tickPumps, List.getD_eq_getElem?_getD, List.getElem?_map] at hn ⊢
      cases hp : s.shots.pumps[n]? with
      | none => exact Nat.zero_le _
      | some u =>
        simp only [hp, Option.map_some, Option.getD_some] at hn ⊢
        split <;> exact hn }

theorem State.keeps_tickTransfer : s.KeepsRecords s.tickTransfer := s.keeps_xfr (by dsimp only; split <;> simp)

theorem State.keeps_tickBus : s.KeepsRecords s.tickBus :=
  State.keeps_ite (fun _ => { State.KeepsRecords.refl s with queue := fun h => h }) fun _ => .refl s

theorem State.keeps_tickSegment : s.KeepsRecords s.tickSegment :=
  { State.KeepsRecords.refl s with
    forLane := fun h => (IndexState.tick_forLane _).symm.trans h }

theorem State.keeps_tickStations : s.KeepsRecords s.tickStations := .of_eq rfl rfl rfl

theorem State.keeps_tickClock : s.KeepsRecords s.tickClock := .of_eq rfl rfl rfl

theorem State.keeps_tickBays : s.KeepsRecords s.tickBays := .of_eq rfl rfl rfl

theorem State.keeps_now (n : Nat) : s.KeepsRecords { s with now := n } := .of_eq rfl rfl rfl

theorem State.keeps_pass : s.KeepsRecords s.pass :=
  (((((((s.keeps_now _).trans (State.keeps_tickBus _)).trans (State.keeps_tickStations _)).trans
    (State.keeps_tickClock _)).trans (State.keeps_tickBook _)).trans (State.keeps_tickStirrers _)).trans
    (State.keeps_tickPumps _)).trans ((State.keeps_tickSegment _).trans ((State.keeps_tickTransfer _).trans
    (State.keeps_tickBays _)))

theorem State.keeps_pending (l : List Instr) : s.KeepsRecords { s with pending := l } := .of_eq rfl rfl rfl

theorem State.keeps_idleStep : s.KeepsRecords s.idleStep := by
  refine State.keeps_ite (fun _ => .refl s) fun _ => ?_
  split
  · exact s.keeps_pending _
  · exact s.keeps_pass.trans (State.keeps_pending _ _)

/-- Every step keeps the laws of the records. -/
theorem step_keepsLaws {s t : State} (h : step s = .next t) : s.KeepsLaws t := by
  unfold step at h
  split at h
  · cases h
    exact s.keeps_idleStep.laws
  · next i rest _ =>
    obtain ⟨hstores, hlane⟩ := exec_keepsLaws h
    exact ⟨.trans (t := { s with pending := rest }) (.of_eq rfl) hstores, hlane⟩

/-- Settles O58: the laws of the records are an invariant of every step, each command being made of operations that keep
them; the two that touch the lane, the start and the completion of an index, keep it by R145 and R155. -/
theorem recordLawsKept : Obligations.RecordLawsKept := by
  unfold Obligations.RecordLawsKept
  refine ⟨fun s t h => ?_, fun s t h => ?_, fun s t h => ?_⟩
  · exact ⟨(step_keepsLaws h).1.queue, (step_keepsLaws h).1.book⟩
  · exact ⟨(step_keepsLaws h).2, (step_keepsLaws h).1.magazines, (step_keepsLaws h).1.chute⟩
  · exact ⟨(step_keepsLaws h).1.levels, (step_keepsLaws h).1.content⟩

end Sys2Proof.Machine
end

/-! # Proofs: notices heard and sent (O9, O10, O11) -/

section
namespace Sys2Proof.Machine

/-! ## Who is heard (R12 to R15) -/

/-- A live cell's command answers what its effect makes of the state. -/
theorem State.act_next {s t : State} {f : State → State} (h : s.Live) (hf : f s = t) : s.act f = .next t := by
  rw [State.act_live f h, hf]

/-- A notice of a sender that may not send it, or of this cell, is counted and nothing else (R12, R13). -/
theorem State.hear_unheard {s : State} {k : Sender} {src : Nat} (hl : s.listening = true)
    (h : k.allows src = false ∨ src = s.self) (ok : Bool) (take : State → State) : s.hear k src ok take = s.rxError :=
  s.hear_bad hl (by rcases h with h | h <;> simp [h])

theorem State.addressed_eq_false {s : State} {target : Nat} (h1 : target ≠ s.self) (h2 : target ≠ 31) :
    s.addressed target = false := by
  simp [State.addressed, h1, h2]

theorem State.self_refresh (s : State) (n : Nat) (m : Option CellStatusMsg) : (s.refresh n m).self = s.self := by
  obtain ⟨t, b, k, h⟩ := s.refresh_frame n m
  rw [h]
  rfl

theorem State.inService_refresh (s : State) (n : Nat) (m : Option CellStatusMsg) :
    (s.refresh n m).inService = s.inService := by
  obtain ⟨t, b, k, h⟩ := s.refresh_frame n m
  rw [h]
  rfl

/-- A lid load may come from a terminal as well as from a cell. -/
theorem State.Hears.either {s : State} {src : Nat} (h : s.Hears .terminal src) : s.Hears .either src := by
  obtain ⟨hl, hs, ha, hne⟩ := h
  exact ⟨hl, hs, by simpa [Sender.allows] using .inr (Sender.terminal_allows.mp ha), hne⟩

theorem State.Hears.hear_either {s : State} {src : Nat} (h : s.Hears .terminal src) (take : State → State) :
    s.hear .either src true take = take (s.refresh src none) := by
  have hsrc := (Sender.terminal_allows.mp h.2.2.1).1
  obtain ⟨-, hl, ha, hne⟩ := h.either
  exact s.hear_terminal hl (by simp [ha, hne]) hsrc

/-- A STOCK for another station refreshes its terminal's entry and does nothing else (R15). -/
theorem State.stock_elsewhere {s : State} {src target : Nat} (h : s.Hears .terminal src) (h1 : target ≠ s.self)
    (h2 : target ≠ 31) (take : State → State) : s.stock src target take = s.refresh src none := by
  rw [State.stock, h.hear_terminal, State.addressed_eq_false (by rwa [s.self_refresh]) h2]
  rfl

/-- Settles O9, by the sender check for each notice, and by the address tests of R14 and R15 for those heard. -/
theorem unaddressedNoticesAreLeft : Obligations.UnaddressedNoticesAreLeft := by
  unfold Obligations.UnaddressedNoticesAreLeft
  intro src s hs hl
  simp only [exec]
  refine ⟨fun h => ?_, fun h target size lid count b => State.act_next hs (State.hear_unheard (s := s.latchLid b) hl h _ _),
    fun h => ?_, fun h target h1 h2 c v k b g => ?_, fun h m hm => ?_, fun h m => State.act_next hs (h.hear_cell _),
    fun h hsrc m tag hm => ?_⟩
  · have counted := State.hear_unheard hl h
    have latched := fun x => State.hear_unheard (s := s.latch x) hl h
    exact ⟨fun m => State.act_next hs (counted _ _), fun id => State.act_next hs (counted _ _),
      fun target n v k b => ⟨State.act_next hs (counted _ _), State.act_next hs (counted _ _)⟩,
      fun target n g => ⟨State.act_next hs (counted _ _), State.act_next hs (counted _ _)⟩,
      fun time day x => State.act_next hs (latched x _ _), State.act_next hs (counted _ _),
      fun x => State.act_next hs (latched x _ _), fun target x => State.act_next hs (latched x _ _)⟩
  · have counted := State.hear_unheard hl h
    have tagged := fun tag => State.hear_unheard (s := s.latchTag tag) hl h
    exact ⟨fun id est => State.act_next hs (counted _ _), fun id est c => State.act_next hs (counted _ _),
      fun id => State.act_next hs (counted _ _), fun m => State.act_next hs (counted _ _),
      fun m tag => State.act_next hs (tagged tag _ _), fun m tag => State.act_next hs (tagged tag _ _),
      fun m => State.act_next hs (counted _ _), fun m => State.act_next hs (counted _ _)⟩
  · have elsewhere := State.stock_elsewhere h h1 h2
    refine ⟨State.act_next hs (elsewhere _), State.act_next hs (elsewhere _), State.act_next hs (elsewhere _),
      State.act_next hs (elsewhere _), fun b => State.act_next hs ?_, fun x => State.act_next hs ?_⟩
    · rw [State.Hears.hear_either (s := s.latchLid b) h, State.addressed_eq_false (by rwa [State.self_refresh]) h2]
      rfl
    · rw [State.Hears.hear_terminal (s := s.latch x) h, State.addressed_eq_false (by rwa [State.self_refresh]) h2]
      rfl
  · refine State.act_next hs ((h.hear_cell _).trans ?_)
    simp [State.booked, hm]
  · refine State.act_next hs ?_
    rw [hm, State.Hears.hear_cell (s := s.latchTag tag) h]
    exact if_neg fun hc => hsrc (of_decide_eq_true (Bool.and_eq_true_iff.mp hc).1)

/-! ## The notice in transmission (R2 to R5, R10) -/

theorem find?_sending {q : Queued} {pre post : List Queued} (hq : q.sending = true)
    (h : ∀ a ∈ pre ++ post, a.sending = false) : (pre ++ q :: post).find? Queued.sending = some q := by
  have hpre : pre.find? Queued.sending = none :=
    List.find?_eq_none.mpr fun a ha => by simp [h a (List.mem_append_left _ ha)]
  rw [List.find?_append, hpre, Option.none_or, List.find?_cons_of_pos hq]

/-- The notices that wait are kept by an end of a frame that keeps each of them. -/
theorem filterMap_waiting {f : Queued → Option Queued} (hf : ∀ a, a.sending = false → f a = some a) {l : List Queued}
    (h : ∀ a ∈ l, a.sending = false) : l.filterMap f = l := by
  induction l with
  | nil => rfl
  | cons a l ih =>
    obtain ⟨ha, hl⟩ := List.forall_mem_cons.mp h
    rw [List.filterMap_cons_some (hf a ha), ih hl]

/-- An end of a frame that keeps the waiting notices acts on the one in transmission alone. -/
theorem filterMap_sending {f : Queued → Option Queued} (hf : ∀ a, a.sending = false → f a = some a) (q : Queued)
    {pre post : List Queued} (h : ∀ a ∈ pre ++ post, a.sending = false) :
    (pre ++ q :: post).filterMap f = pre ++ (f q).toList ++ post := by
  obtain ⟨hpre, hpost⟩ := List.forall_mem_append.mp h
  rw [List.filterMap_append, filterMap_waiting hf hpre, List.append_assoc]
  cases hq : f q with
  | none => rw [List.filterMap_cons_none hq, filterMap_waiting hf hpost]; rfl
  | some q' => rw [List.filterMap_cons_some hq, filterMap_waiting hf hpost]; rfl

theorem Queued.lose_waiting (a : Queued) (h : a.sending = false) : a.lose = some a := by
  simp [Queued.lose, h]

theorem Queued.abandon_waiting (a : Queued) (h : a.sending = false) : a.abandon = some a := by
  simp [Queued.abandon, h]

/-- The drop of an abandoned frame is counted by the attempts of the notice in transmission. -/
theorem any_exhausted {q : Queued} {pre post : List Queued} (hq : q.sending = true)
    (h : ∀ a ∈ pre ++ post, a.sending = false) : (pre ++ q :: post).any Queued.exhausted = decide (7 ≤ q.attempts) := by
  have waiting : ∀ l : List Queued, (∀ a ∈ l, a.sending = false) → l.any Queued.exhausted = false := fun l hl =>
    List.any_eq_false.mpr fun a ha => by simp [Queued.exhausted, hl a ha]
  obtain ⟨hpre, hpost⟩ := List.forall_mem_append.mp h
  simp [waiting pre hpre, waiting post hpost, Queued.exhausted, hq, attemptMax]

theorem execArbitrationLost_eq {s : State} (hs : s.Live) {q : Queued} {pre post : List Queued}
    (hqueue : s.bus.queue = pre ++ q :: post) (h : ∀ a ∈ pre ++ post, a.sending = false) :
    execArbitrationLost s = .next { s with bus := { s.bus with queue := pre ++ q.lose.toList ++ post } } := by
  refine State.act_next hs ?_
  rw [hqueue, filterMap_sending Queued.lose_waiting q h]
  rfl

theorem execFrameAbandoned_eq {s : State} (hs : s.Live) {q : Queued} {pre post : List Queued}
    (hqueue : s.bus.queue = pre ++ q :: post) (hq : q.sending = true) (h : ∀ a ∈ pre ++ post, a.sending = false) :
    execFrameAbandoned s = .next { s with bus := { s.bus with
      queue := pre ++ q.abandon.toList ++ post
      sendDrops := if 7 ≤ q.attempts then min 255 (s.bus.sendDrops + 1) else s.bus.sendDrops } } := by
  refine State.act_next hs ?_
  rw [hqueue, filterMap_sending Queued.abandon_waiting q h, any_exhausted hq h]
  simp only [decide_eq_true_eq]
  rfl

/-- Settles O10: the notice in transmission is the only one on which the quiet gap, a lost arbitration and an abandoned
frame act. -/
theorem framesSentLostAbandoned : Obligations.FramesSentLostAbandoned := by
  unfold Obligations.FramesSentLostAbandoned
  simp only [exec]
  refine ⟨fun s hs => ⟨fun q l hqueue hwait hcell => ?_, fun h => State.act_next hs ?_⟩,
    fun s q pre post hs hqueue hq hwait => ?_⟩
  · have none_sent : s.inTransmission = false :=
      List.any_eq_false.mpr fun a ha => by simp [hwait a (hqueue ▸ ha)]
    refine ⟨_, State.act_next hs ?_, rfl, ?_⟩
    · rw [if_neg (by simp [none_sent, hcell]), hqueue]
      rfl
    · simp [State.txFrame, show s.cfg.held = false from hs, State.self]
  · rcases h with h | h | ⟨a, ha, hsend⟩
    · split
      · rfl
      · rw [h, ← h]
        show ({ s with bus := { s.bus with queue := sendHead s.bus.queue } } : State) = s
        rw [h]
        simp only [sendHead, ← h]
    · exact if_pos (by simp [h])
    · exact if_pos (by simpa [State.inTransmission] using .inl ⟨a, ha, hsend⟩)
  · rw [execArbitrationLost_eq hs hqueue hwait, execFrameAbandoned_eq hs hqueue hq hwait]
    refine ⟨fun hfin => ⟨?_, fun hlt => ?_⟩, fun hge => ?_, fun hfin => ⟨?_, fun hlt => ?_⟩⟩
    · simp [Queued.lose, hq, hfin]
    · simp [Queued.abandon, hq, hfin, attemptMax, Nat.not_le.mpr hlt]
    · simp [Queued.abandon, hq, attemptMax, hge]
    · simp [Queued.lose, hq, hfin]
    · simp [Queued.abandon, hq, hfin, Nat.not_le.mpr hlt]

theorem filter_waiting {q : Queued} {pre post : List Queued} (hq : q.sending = true)
    (h : ∀ a ∈ pre ++ post, a.sending = false) : (pre ++ q :: post).filter (fun q => !q.sending) = pre ++ post := by
  obtain ⟨hpre, hpost⟩ := List.forall_mem_append.mp h
  rw [List.filter_append, List.filter_cons_of_neg (by simp [hq]), List.filter_eq_self.mpr (by simpa using hpre),
    List.filter_eq_self.mpr (by simpa using hpost)]

/-- Telling a notice's owner leaves every block but the transfer unit and the attention capture. -/
theorem State.told_frame (s : State) (q : Queued) : ∃ x a, s.told q = { s with xfr := x, atn := a } := by
  unfold State.told
  split
  case h_1 | h_2 => exact ⟨_, _, rfl⟩
  all_goals exact ⟨_, _, rfl⟩

/-- Settles O11, by the kind of the notice that leaves. -/
theorem completedFrameLeavesQueue : Obligations.CompletedFrameLeavesQueue := by
  unfold Obligations.CompletedFrameLeavesQueue
  intro s q pre post hs hqueue hq hwait
  simp only [exec]
  have heff : execFrameComplete s = .next ((s.setQueue (pre ++ post)).told q) := by
    refine State.act_next hs ?_
    rw [hqueue, find?_sending hq hwait]
    simp only [filter_waiting hq hwait]
  refine ⟨_, heff, ?_, ?_, fun m hm => ?_, fun m hm => ?_, fun hc hst => ?_⟩
  · obtain ⟨x, a, h⟩ := (s.setQueue (pre ++ post)).told_frame q
    rw [h]
    rfl
  · obtain ⟨x, a, h⟩ := (s.setQueue (pre ++ post)).told_frame q
    rw [h]
    rfl
  · simp only [State.told, hm, State.restartRepeat, beq_iff_eq]
    exact ⟨rfl, rfl⟩
  · simp only [State.told, hm, Attention.handOver]
    refine ⟨rfl, fun r => by simp, ?_, rfl⟩
    cases m.overwrite <;> simp
  · unfold State.told
    split
    · next m hm => exact absurd hm (hst m)
    · next m hm => exact absurd hm (hc m)
    all_goals exact ⟨rfl, rfl⟩

end Sys2Proof.Machine
end

/-! # Proofs: placing a notice, the status period, the empty queue (O13, O14, O2) -/

section
namespace Sys2Proof.Machine

/-! ## A full queue (R9) -/

/-- A notice added to a full queue takes its place in what the drop leaves. -/
theorem Bus.add_of_drop {b : Bus} {q : Queued} {l : List Queued} (h : b.queue.length = 16)
    (hdrop : dropOldest (worstClass q.notice.cls b.queue) b.queue = some l) :
    b.add q = { b with queue := insertQueued q l, sendDrops := bump b.sendDrops } := by
  unfold Bus.add
  rw [if_neg (by simp [h, queueMax]), hdrop]

/-- A notice added to a full queue is dropped itself where it is alone in the worst class. -/
theorem Bus.add_of_no_drop {b : Bus} {q : Queued} (h : b.queue.length = 16)
    (hdrop : dropOldest (worstClass q.notice.cls b.queue) b.queue = none) :
    b.add q = { b with sendDrops := bump b.sendDrops } := by
  unfold Bus.add
  rw [if_neg (by simp [h, queueMax]), hdrop]

/-- Settles O13: a queue with room, a full one that drops a notice, a full one that drops the new notice. -/
theorem placedNoticeKeepsOrder : Obligations.PlacedNoticeKeepsOrder := by
  unfold Obligations.PlacedNoticeKeepsOrder
  intro s n hb
  obtain ⟨-, hsort, -⟩ := State.queueBound_iff.mp hb
  have hbus : (s.place n).bus = s.bus.add n.queued := rfl
  refine ⟨rfl, s.bus.add_rxErrors _, fun hroom => ?_, fun pre a post hq hfull ha hpre hrest hn => ?_,
    fun hfull hworst => ?_⟩
  · rw [hbus, Bus.add_of_room _ hroom]
    exact ⟨rfl, insertQueued_eq_filter hsort⟩
  · have hcls : worstClass n.queued.notice.cls s.bus.queue = a.notice.cls := by
      refine worstClass_eq hn (fun b hb => ?_) (.inr ⟨a, by simp [hq], ha, rfl⟩)
      rw [hq, List.mem_append, List.mem_cons] at hb
      rcases hb with hb | rfl | hb
      · exact hrest b (List.mem_append_left _ hb)
      · exact .inr le_rfl
      · exact hrest b (List.mem_append_right _ hb)
    have hdrop := dropOldest_append (post := post) hpre ha rfl
    rw [← hq, ← hcls] at hdrop
    rw [hbus, Bus.add_of_drop hfull hdrop]
    have hsub : (pre ++ post).Sublist s.bus.queue := by
      rw [hq]
      exact (List.sublist_cons_self a post).append_left pre
    exact ⟨rfl, insertQueued_eq_filter (hsort.sublist (hsub.map _))⟩
  · have hcls : worstClass n.queued.notice.cls s.bus.queue = n.cls :=
      worstClass_eq le_rfl (fun b hb => (hworst b hb).imp_right le_of_lt) (.inl rfl)
    have hdrop : dropOldest (worstClass n.queued.notice.cls s.bus.queue) s.bus.queue = none := by
      rw [hcls]
      exact dropOldest_eq_none fun b hb => (hworst b hb).imp_right ne_of_lt
    rw [hbus, Bus.add_of_no_drop hfull hdrop]
    exact ⟨rfl, rfl⟩

/-! ## The CELL STATUS (R19, R20, R101) -/

/-- No notice is of a lower urgency than a CELL STATUS. -/
theorem Notice.cls_le (n : Notice) : n.cls ≤ 3 := by
  cases n <;> simp [Notice.cls]

theorem State.cover_canister (s : State) :
    s.cover.map CoverItem.canister = (List.range 16).filter (fun n => (s.fitted n).isSome) := by
  rw [State.cover, List.map_filterMap, ← List.filterMap_eq_filter]
  refine List.filterMap_congr fun n _ => ?_
  rw [State.coverItem, Option.map_map]
  cases h : s.fitted n <;> simp [Option.guard, h]

/-- A fitted canister is never of the class of one that is not fitted. -/
theorem State.levelClass_of_fitted {s : State} {n : Nat} {c : CanisterCfg} (h : s.fitted n = some c) :
    s.levelClass n ≠ .notFitted := by
  unfold State.levelClass
  rw [h]
  repeat' split
  all_goals simp_all

theorem LevelClass.drawable_iff (l : LevelClass) : LevelClass.drawable l = true ↔ l = .full ∨ l = .ok ∨ l = .low := by
  cases l <;> simp [LevelClass.drawable]

/-- What the cover list says of each fitted canister. -/
theorem State.mem_cover {s : State} {i : CoverItem} (h : i ∈ s.cover) :
    ∃ c, s.fitted i.canister = some c ∧ i.colorant = c.colorant ∧ i.cls = s.levelClass i.canister ∧
      i.usable = s.usable i.canister := by
  obtain ⟨n, -, hn⟩ := List.mem_filterMap.mp h
  obtain ⟨c, hc, rfl⟩ := Option.map_eq_some_iff.mp hn
  exact ⟨c, hc, rfl, rfl, rfl⟩

theorem Intake.inHold_iff (i : Intake) : i.inHold = true ↔ ∃ g a h r l, i = .hold g a h r l := by
  cases i <;> simp [Intake.inHold]

theorem LidBay.inWait_iff (b : LidBay) : b.inWait = true ↔ ∃ f, b = .lidWait f := by
  cases b <;> simp [LidBay.inWait]

/-- Out of STARTING, a flag sent in service alone is one kept out of CONFIG_FAULT. -/
theorem State.inService_iff {s : State} (h : s.dck.cell ≠ .starting) : s.inService = true ↔ s.dck.cell ≠ .configFault := by
  unfold State.inService
  cases hc : s.dck.cell <;> simp_all

/-- The status as it is placed, with the attention records it carries. -/
def State.statusQueued (s : State) : Queued :=
  { notice := .cellStatus s.statusMsg, attempts := 0, sending := false, final := false,
    uids := s.atn.records.map Captured.uid, replaced := s.atn.replaced }

/-- The bus port with the status period begun again. -/
def Bus.restarted (b : Bus) : Bus := { b with period := 0 }

theorem State.bus_buildStatus (s : State) : s.buildStatus.bus = s.bus.restarted.replaceOrAdd s.statusQueued := rfl

/-- A status takes the place of a waiting status and of no other notice (R8). -/
theorem Queued.yields_status {a : Queued} (s : State) (h : a.sending = true ∨ ∀ o, a.notice ≠ .cellStatus o) :
    a.yields s.statusQueued = false := by
  rcases h with h | h
  · simp [Queued.yields, h]
  · have : replaces s.statusQueued.notice a.notice = false := by
      cases hn : a.notice with
      | cellStatus o => exact absurd hn (h o)
      | _ => rfl
    simp [Queued.yields, this]

/-- Settles O14: the status is `State.statusMsg`, and the queue places it by R8. -/
theorem statusPeriodBuildsStatus : Obligations.StatusPeriodBuildsStatus := by
  unfold Obligations.StatusPeriodBuildsStatus
  intro s hs hl hcell
  simp only [exec]
  have hbuild : s.buildsStatus = true := by simp [State.buildsStatus, hl, hcell]
  have hservice := State.inService_iff hcell
  refine ⟨s.buildStatus, s.statusMsg, State.act_next hs (if_pos hbuild), rfl, ?_, ?_, rfl, rfl, rfl, ?_, ?_, ?_, rfl,
    s.cover_canister, fun i hi => ?_, rfl, rfl, s.xfr.intake.inHold_iff, rfl, s.lids.bay.inWait_iff, fun h => ?_,
    fun f a hf ha => ?_, ?_, ?_, rfl, rfl, rfl, rfl, fun hnone hroom => ?_, fun pre a post o hq ha hsend hpre => ?_⟩
  · exact Bus.replaceOrAdd_period _ _
  · exact Bus.replaceOrAdd_rxErrors _ _
  · simp [State.statusMsg, hservice]
  · simp [State.statusMsg, hservice]
  · exact decide_eq_true_iff
  · obtain ⟨c, hc, hcol, hcls, huse⟩ := State.mem_cover hi
    refine ⟨c, hc, hcol, hcls, hcls ▸ State.levelClass_of_fitted hc, ?_⟩
    rw [huse, State.usable, Bool.and_eq_true, LevelClass.drawable_iff, hcls]
    simp
  · rw [show s.statusMsg.lidWait = s.lids.bay.inWait from rfl] at h
    simp [State.statusMsg, State.lidWaitSize, h]
  · simp [State.statusMsg, State.lidWaitSize, hf, LidBay.inWait, ha]
  · simp [State.statusMsg, hservice, chuteMax, and_comm]
  · simp only [State.statusMsg, Bool.and_eq_true, hservice]
    tauto
  · have hwait : ∀ a ∈ s.bus.restarted.queue, a.yields s.statusQueued = false :=
      fun a ha => a.yields_status s (hnone a ha)
    rw [s.bus_buildStatus, Bus.replaceOrAdd_of_none hwait, Bus.add_of_room (b := s.bus.restarted) _ hroom,
      insertQueued_last (q := s.statusQueued) fun a _ => a.notice.cls_le, List.map_append]
    rfl
  · have hyields : a.yields s.statusQueued = true := by
      simp [Queued.yields, State.statusQueued, ha, hsend, replaces]
    have hq' : s.bus.restarted.queue = pre ++ a :: post := hq
    rw [s.bus_buildStatus, Bus.replaceOrAdd_append hq' (fun b hb => b.yields_status s (hpre b hb)) hyields,
      List.map_append]
    exact ⟨rfl, rfl⟩

/-! ## One millisecond (log 2) -/

theorem State.pass_now (s : State) : s.pass.now = s.now + 1 := by
  unfold State.pass State.tickBus
  split <;> rfl

theorem State.pass_period {s : State} (h : s.buildsStatus = true) : s.pass.bus.period = s.bus.period + 1 := by
  unfold State.pass State.tickBus
  split
  · rfl
  · next hn => exact absurd h hn

theorem State.pass_buildsStatus (s : State) : s.pass.buildsStatus = s.buildsStatus := by
  unfold State.pass State.tickBus
  split <;> rfl

theorem State.pass_stations (s : State) : s.pass.stations = s.stations.map (fun e => { e with age := e.age + 1 }) := by
  unfold State.pass State.tickBus
  split <;> rfl

theorem State.pass_sub (s : State) : s.pass.dck.sub = s.dck.sub + 1 := by
  unfold State.pass State.tickBus
  split <;> rfl

theorem State.pass_pins (s : State) : s.pass.pins = s.pins := by
  unfold State.pass State.tickBus
  split <;> rfl

theorem State.pass_book (s : State) : s.pass.book = s.book.map OrderEntry.tick := by
  unfold State.pass State.tickBus
  split <;> rfl

theorem State.pass_index (s : State) : s.pass.seg.index = s.seg.index.tick := by
  unfold State.pass State.tickBus
  split <;> rfl

theorem State.pass_bay (s : State) : s.pass.lids.bay = s.lids.bay.tick := by
  unfold State.pass State.tickBus
  split <;> rfl

theorem mem_dueIf {b : Bool} {i : Instr} (h : b = true) : i ∈ dueIf b i := by
  rw [dueIf, if_pos h]
  exact List.mem_singleton_self i

theorem mem_dueIf_le {d t : Nat} {i : Instr} (h : d ≤ t) : i ∈ dueIf (decide (d ≤ t)) i :=
  mem_dueIf (decide_eq_true h)

/-! ## The commands that are due -/

/-- A command is due where one of the parts' timers has run out. -/
theorem State.mem_due {s : State} {i : Instr}
    (h : i ∈ dueIf (s.buildsStatus && statusPeriodMs ≤ s.bus.period) .statusPeriod ∨
      (∃ e ∈ s.stations, i ∈ e.due) ∨ i ∈ dueIf (1000 ≤ s.dck.sub) (.clockAdvance s.pins.sample) ∨
      (∃ e ∈ s.book, i ∈ e.dueTimer) ∨ i ∈ s.seg.index.due ∨ i ∈ s.lids.bay.due) : i ∈ s.due := by
  simp only [State.due, List.mem_append, List.mem_flatMap]
  rcases h with h | h | h | ⟨e, he, h⟩ | h | h
  · simp only [h, true_or]
  · simp only [h, true_or, or_true]
  · simp only [h, true_or, or_true]
  · have : ∃ e ∈ s.book, i ∈ s.dueEntry e := ⟨e, he, List.mem_append_left _ (List.mem_append_left _ h)⟩
    simp only [this, true_or, or_true]
  · simp only [h, true_or, or_true]
  · simp only [h, true_or, or_true]

/-- Settles O2: the block's own step, or a millisecond with the commands of the timers that it runs out. -/
theorem emptyQueueStep : Obligations.EmptyQueueStep := by
  unfold Obligations.EmptyQueueStep
  intro s hp hs
  have hstep : step s = .next s.idleStep := by rw [step, hp]
  have hidle : s.idleStep = match s.ownStep with
      | some i => { s with pending := [i] }
      | none => s.tick := if_neg (by rw [show s.cfg.held = false from hs]; exact Bool.false_ne_true)
  refine ⟨fun i hi => by rw [hstep, hidle, hi], fun hnone => ⟨s.tick, by rw [hstep, hidle, hnone], s.pass_now,
    fun hbuild hper => State.mem_due (.inl ?_), fun e he hpres hage => State.mem_due (.inr (.inl ?_)),
    fun hsub => State.mem_due (.inr (.inr (.inl ?_))), fun e he hnew htime => State.mem_due (.inr (.inr (.inr (.inl ?_)))),
    fun d p n hrun htime => State.mem_due (.inr (.inr (.inr (.inr (.inl ?_))))),
    fun n hrun htime => State.mem_due (.inr (.inr (.inr (.inr (.inr ?_)))))⟩⟩
  · rw [s.pass_buildsStatus, State.pass_period hbuild, hbuild, Bool.true_and]
    exact mem_dueIf_le (Nat.succ_le_succ hper)
  · refine ⟨{ e with age := e.age + 1 }, ?_, ?_⟩
    · rw [s.pass_stations]
      exact List.mem_map_of_mem (f := fun e : Station => { e with age := e.age + 1 }) he
    · simp only [Station.due, hpres]
      exact mem_dueIf_le (Nat.succ_le_succ hage)
  · rw [s.pass_sub, s.pass_pins]
    exact mem_dueIf_le (Nat.succ_le_succ hsub)
  · refine ⟨e.tick, ?_, ?_⟩
    · rw [s.pass_book]
      exact List.mem_map_of_mem he
    · simp only [OrderEntry.dueTimer, OrderEntry.tick, hnew]
      exact mem_dueIf_le (Nat.succ_le_succ htime)
  · rw [s.pass_index, hrun]
    exact mem_dueIf_le (Nat.succ_le_succ htime)
  · rw [s.pass_bay, hrun]
    exact mem_dueIf_le (Nat.succ_le_succ htime)

end Sys2Proof.Machine
end

/-! # Proofs: the station table and the re-test of blocked jobs (O15, O16) -/

section
namespace Sys2Proof.Machine

/-! ## Entries of the station table -/

theorem State.number_of_peer {s : State} {n : Nat} {e : Station} (h : s.peer n = some e) : e.number = n :=
  eq_of_beq (List.find?_some (p := fun e : Station => e.number == n) h)

/-- The entries depend on the station table alone. -/
theorem State.peer_congr {s t : State} (h : t.stations = s.stations) (n : Nat) : t.peer n = s.peer n := by
  rw [State.peer, h, State.peer]

/-- An entry's change shows at that station and at no other. -/
theorem State.peer_modPeer {s : State} {n : Nat} {f : Station → Station} (hf : ∀ e, (f e).number = e.number) (m : Nat) :
    (s.modPeer n f).peer m = if m = n then (s.peer m).map f else s.peer m := by
  have hkey : (fun e : Station => e.number == m) ∘ (fun e => if e.number == n then f e else e) =
      fun e => e.number == m := by
    funext e
    by_cases h : e.number = n <;> simp [h, hf]
  rw [State.peer, State.modPeer, List.find?_map, hkey]
  cases hp : s.peer m with
  | none => rw [show s.stations.find? (fun e => e.number == m) = none from hp]; simp
  | some e =>
    rw [show s.stations.find? (fun e => e.number == m) = some e from hp, ← State.number_of_peer hp]
    by_cases h : e.number = n <;> simp [h]

/-- The refreshed entry is PRESENT with age 0 and what was heard, and no other changes (R21). -/
theorem State.peer_refreshed (s : State) (n : Nat) (m : Option CellStatusMsg) (k : Nat) :
    (s.refreshed n m).peer k =
      if k = n then some { number := n, presence := .present, age := 0, status := m } else s.peer k := by
  unfold State.refreshed
  split
  · next hnone =>
    rw [State.peer, List.find?_append]
    by_cases h : k = n
    · rw [show s.stations.find? (fun e => e.number == k) = none from h ▸ hnone]
      simp [h]
    · simp [h, Ne.symm h, State.peer]
  · next e he =>
    rw [State.peer_modPeer (f := fun e => { e with presence := .present, age := 0, status := m }) fun _ => rfl]
    by_cases h : k = n
    · subst h
      rw [if_pos rfl, if_pos rfl, he, Option.map_some, State.number_of_peer he]
    · rw [if_neg h, if_neg h]

theorem State.stations_retestBlocked (s : State) : s.retestBlocked.stations = s.stations := by
  obtain ⟨b, k, h⟩ := s.retestBlocked_frame
  rw [h]

theorem State.stations_refresh (s : State) (n : Nat) (m : Option CellStatusMsg) :
    (s.refresh n m).stations = (s.refreshed n m).stations := by
  unfold State.refresh
  dsimp only
  split
  · rfl
  · rfl
  · exact State.stations_retestBlocked _
  · exact State.stations_retestBlocked _

/-! ## The re-test of blocked jobs (R65, R71) -/

/-- A blocked job that passes its test. -/
def OrderEntry.activated (e : OrderEntry) : OrderEntry := { e with st := .ownActive }

/-- An own job that is active again, its JOB STATUS just placed. -/
def OrderEntry.reactivated (e : OrderEntry) : OrderEntry :=
  { e with st := .ownActive, job := e.job.map (fun j => { j with repeatTime := 0 }) }

/-- The blocked job passes its test. -/
def State.unblocks (s : State) (e : OrderEntry) : Bool := e.st == .ownBlocked && s.eligibleEntry e

/-- What a test of the jobs named makes of an entry. -/
def State.retested (s : State) (ids : List OrderId) (e : OrderEntry) : OrderEntry :=
  if e.id ∈ ids ∧ s.unblocks e = true then e.reactivated else e

theorem State.retested_id (s : State) (ids : List OrderId) (e : OrderEntry) : (s.retested ids e).id = e.id := by
  unfold State.retested
  split <;> rfl

theorem State.nodup_retested {s : State} (h : (s.book.map OrderEntry.id).Nodup) (t : State) (ids : List OrderId) :
    ((s.book.map (t.retested ids)).map OrderEntry.id).Nodup := by
  rwa [List.map_map, show OrderEntry.id ∘ t.retested ids = OrderEntry.id from funext (t.retested_id ids)]

/-- A change of the only entry of an order id is a change of that entry. -/
theorem State.modEntry_of_mem {s : State} (hnd : (s.book.map OrderEntry.id).Nodup) {e : OrderEntry} (he : e ∈ s.book)
    {f g : OrderEntry → OrderEntry} (h : f e = g e) : s.modEntry e.id f = s.modEntry e.id g := by
  unfold State.modEntry
  congr 1
  refine List.map_congr_left fun a ha => ?_
  split
  · next hid =>
    have : some a = some e := by rw [← State.entry_of_mem hnd ha, eq_of_beq hid, State.entry_of_mem hnd he]
    rw [Option.some.inj this, h]
  · rfl

theorem State.modEntry_modEntry (s : State) (id : OrderId) {f g : OrderEntry → OrderEntry} (hf : ∀ e, (f e).id = e.id) :
    (s.modEntry id f).modEntry id g = s.modEntry id (g ∘ f) := by
  unfold State.modEntry
  congr 1
  rw [List.map_map]
  refine List.map_congr_left fun a _ => ?_
  by_cases h : a.id = id <;> simp [h, hf]

theorem State.entry_modEntry {s : State} {id : OrderId} {e : OrderEntry} (he : s.entry id = some e)
    {f : OrderEntry → OrderEntry} (hf : ∀ e, (f e).id = e.id) : (s.modEntry id f).entry id = some (f e) := by
  have hkey : (fun e : OrderEntry => e.id == id) ∘ (fun e => if e.id == id then f e else e) = fun e => e.id == id := by
    funext a
    by_cases h : a.id = id <;> simp [h, hf]
  have hid : (e.id == id) = true := List.find?_some (p := fun e : OrderEntry => e.id == id) he
  rw [State.entry, State.modEntry, List.find?_map, hkey, show s.book.find? (fun e => e.id == id) = some e from he,
    Option.map_some, if_pos hid]

/-- The book of a JOB STATUS placed for an own job. -/
theorem State.placeJobStatus_eq {s : State} {id : OrderId} {e : OrderEntry} {j : Job} {st : JobState}
    (he : s.entry id = some e) (hj : e.job = some j) (hst : OrderState.jobState e.st = some st) :
    s.placeJobStatus id = (s.place (.jobStatus (jobStatusMsg s.self e j st))).modEntry id OrderEntry.statusPlaced := by
  simp only [State.placeJobStatus, he, hj, hst]

theorem State.placeJobStatus_of_no_job {s : State} {id : OrderId} {e : OrderEntry} (he : s.entry id = some e)
    (hj : e.job = none) : s.placeJobStatus id = s := by
  simp only [State.placeJobStatus, he, hj]

theorem State.retestJob_eq {s : State} {id : OrderId} {e : OrderEntry} (he : s.entry id = some e) :
    s.retestJob id = if s.unblocks e then (s.modEntry id OrderEntry.activated).placeJobStatus id else s := by
  rw [State.retestJob, he]
  rfl

/-- A job that passes its test is active again, and its JOB STATUS ACTIVE is placed. -/
theorem State.retestJob_of_unblocks {s : State} (hnd : (s.book.map OrderEntry.id).Nodup) {e : OrderEntry} (he : e ∈ s.book)
    (hu : s.unblocks e = true) : s.retestJob e.id = { s.modEntry e.id OrderEntry.reactivated with
      bus := match e.job with
        | some j => s.bus.add (Notice.jobStatus (jobStatusMsg s.self e j .active)).queued
        | none => s.bus } := by
  have hentry := State.entry_of_mem hnd he
  have hactive := State.entry_modEntry hentry (f := OrderEntry.activated) fun _ => rfl
  rw [State.retestJob_eq hentry, if_pos hu]
  cases hj : e.job with
  | none =>
    rw [State.placeJobStatus_of_no_job hactive hj]
    exact State.modEntry_of_mem hnd he (by simp [OrderEntry.reactivated, OrderEntry.activated, hj])
  | some j =>
    have hplaced := (s.place (.jobStatus (jobStatusMsg s.self e j .active))).modEntry_modEntry e.id
      (f := OrderEntry.activated) (g := OrderEntry.statusPlaced) fun _ => rfl
    rw [State.placeJobStatus_eq hactive hj rfl]
    exact hplaced

/-- A job that fails its test, or is not blocked, stays as it is. -/
theorem State.retestJob_of_stays {s : State} {id : OrderId} (h : ∀ e, s.entry id = some e → s.unblocks e = false) :
    s.retestJob id = s := by
  unfold State.retestJob
  split
  · rfl
  · next e he => exact if_neg (ne_true_of_eq_false (h e he))

/-- The test of one job changes its entry as `State.retested` says. -/
theorem State.book_retestJob {s : State} (hnd : (s.book.map OrderEntry.id).Nodup) (id : OrderId) :
    (s.retestJob id).book = s.book.map (s.retested [id]) := by
  by_cases h : ∃ e ∈ s.book, e.id = id ∧ s.unblocks e = true
  · obtain ⟨e, he, rfl, hu⟩ := h
    rw [State.retestJob_of_unblocks hnd he hu]
    refine List.map_congr_left fun a ha => ?_
    by_cases hid : a.id = e.id
    · have : some a = some e := by rw [← State.entry_of_mem hnd ha, hid, State.entry_of_mem hnd he]
      rw [Option.some.inj this]
      simp [State.retested, hu]
    · simp [State.retested, hid]
  · rw [State.retestJob_of_stays]
    · have hstay : ∀ a ∈ s.book, s.retested [id] a = a := fun a ha =>
        if_neg fun hc => h ⟨a, ha, List.mem_singleton.mp hc.1, hc.2⟩
      rw [List.map_congr_left hstay, List.map_id']
    · intro e he
      obtain ⟨hmem, hid⟩ := State.entry_some he
      exact Bool.eq_false_iff.mpr fun hu => h ⟨e, hmem, hid, hu⟩

/-- The tests of several jobs change each of their entries once. -/
theorem State.book_foldl_retestJob {s : State} (hnd : (s.book.map OrderEntry.id).Nodup) (ids : List OrderId) :
    (ids.foldl State.retestJob s).book = s.book.map (s.retested ids) := by
  induction ids generalizing s with
  | nil =>
    have hstay : ∀ a ∈ s.book, s.retested [] a = a := fun a _ => if_neg fun hc => List.not_mem_nil hc.1
    rw [List.map_congr_left hstay, List.map_id', List.foldl_nil]
  | cons id ids ih =>
    have hbook := State.book_retestJob hnd id
    obtain ⟨b, k, hframe⟩ := s.retestJob_frame id
    rw [List.foldl_cons, ih (hbook ▸ State.nodup_retested hnd s [id]), hbook, List.map_map]
    refine List.map_congr_left fun a _ => ?_
    have hsame : (s.retestJob id).retested ids = s.retested ids := by
      rw [hframe]
      rfl
    rw [Function.comp_apply, hsame]
    by_cases ha : a.id = id ∧ s.unblocks a = true
    · have hdone : s.unblocks a.reactivated = false := rfl
      simp [State.retested, ha, hdone]
    · by_cases hu : s.unblocks a = true
      · simp [State.retested, hu, show a.id ≠ id from fun h => ha ⟨h, hu⟩]
      · simp [State.retested, hu]

/-- The test of a job places one notice at most. -/
theorem State.bus_retestJob (s : State) (id : OrderId) :
    (s.retestJob id).bus = s.bus ∨ ∃ n : Notice, (s.retestJob id).bus = s.bus.add n.queued := by
  unfold State.retestJob
  split
  · exact .inl rfl
  · split
    · unfold State.placeJobStatus
      split
      · exact .inl rfl
      · split
        · exact .inr ⟨_, rfl⟩
        · exact .inl rfl
    · exact .inl rfl

theorem State.rxErrors_foldl_retestJob (ids : List OrderId) (s : State) :
    (ids.foldl State.retestJob s).bus.rxErrors = s.bus.rxErrors := by
  induction ids generalizing s with
  | nil => rfl
  | cons id ids ih =>
    rw [List.foldl_cons, ih]
    rcases s.bus_retestJob id with h | ⟨n, h⟩
    · rw [h]
    · rw [h, Bus.add_rxErrors]

/-- With room in the queue, the test of a job drops no notice. -/
theorem State.queue_retestJob {s : State} (h : s.bus.queue.length < 16) (id : OrderId) :
    (s.retestJob id).bus.queue.length ≤ s.bus.queue.length + 1 ∧
      ∀ q ∈ s.bus.queue, q ∈ (s.retestJob id).bus.queue := by
  rcases s.bus_retestJob id with hb | ⟨n, hb⟩
  · exact ⟨by rw [hb]; omega, fun q hq => by rwa [hb]⟩
  · rw [hb, Bus.add_of_room _ h]
    exact ⟨(insertQueued_perm _ _).length_eq.le, fun q hq => mem_insertQueued.mpr (.inr hq)⟩

theorem State.queue_foldl_retestJob {ids : List OrderId} {s : State} (h : s.bus.queue.length + ids.length ≤ 16) :
    ∀ q ∈ s.bus.queue, q ∈ (ids.foldl State.retestJob s).bus.queue := by
  induction ids generalizing s with
  | nil => exact fun q hq => hq
  | cons id ids ih =>
    rw [List.length_cons] at h
    obtain ⟨hlen, hkeep⟩ := State.queue_retestJob (s := s) (by omega) id
    exact fun q hq => ih (by omega) q (hkeep q hq)

/-- Each tested job that passes has its JOB STATUS ACTIVE in the queue, where all of them find room (R71). -/
theorem State.placed_foldl_retestJob {ids : List OrderId} {s : State} (hnd : (s.book.map OrderEntry.id).Nodup)
    (h : s.bus.queue.length + ids.length ≤ 16) {e : OrderEntry} (he : e ∈ s.book) (hid : e.id ∈ ids)
    (hu : s.unblocks e = true) {j : Job} (hj : e.job = some j) :
    (Notice.jobStatus (jobStatusMsg s.self e j .active)).queued ∈ (ids.foldl State.retestJob s).bus.queue := by
  induction ids generalizing s with
  | nil => cases hid
  | cons id ids ih =>
    rw [List.length_cons] at h
    have hroom : s.bus.queue.length < 16 := by omega
    obtain ⟨hlen, -⟩ := State.queue_retestJob hroom id
    have hrest : (s.retestJob id).bus.queue.length + ids.length ≤ 16 := by omega
    by_cases heq : e.id = id
    · subst heq
      refine State.queue_foldl_retestJob hrest _ ?_
      rw [State.retestJob_of_unblocks hnd he hu, hj]
      show _ ∈ (s.bus.add _).queue
      rw [Bus.add_of_room _ hroom]
      exact mem_insertQueued.mpr (.inl rfl)
    · have hbook := State.book_retestJob hnd id
      have hmem : e ∈ (s.retestJob id).book := by
        rw [hbook]
        exact List.mem_map.mpr ⟨e, he, if_neg fun hc => heq (List.mem_singleton.mp hc.1)⟩
      obtain ⟨b, k, hframe⟩ := s.retestJob_frame id
      have hu' : (s.retestJob id).unblocks e = true := by rw [hframe]; exact hu
      have hself : (s.retestJob id).self = s.self := by rw [hframe]; rfl
      rw [List.foldl_cons, ← hself]
      exact ih (hbook ▸ State.nodup_retested hnd s [id]) hrest hmem ((List.mem_cons.mp hid).resolve_left heq) hu'

/-- The ids of the blocked jobs. -/
def State.blockedIds (s : State) : List OrderId := (s.book.filter (fun e => e.st == .ownBlocked)).map OrderEntry.id

theorem State.retestBlocked_eq (s : State) : s.retestBlocked = s.blockedIds.foldl State.retestJob s := rfl

theorem State.mem_blockedIds {s : State} {e : OrderEntry} (he : e ∈ s.book) (h : e.st = .ownBlocked) :
    e.id ∈ s.blockedIds :=
  List.mem_map_of_mem (List.mem_filter.mpr ⟨he, by simp [h]⟩)

theorem State.unblocks_iff {s : State} {e : OrderEntry} :
    s.unblocks e = true ↔ e.st = .ownBlocked ∧ s.eligibleEntry e = true := by
  rw [State.unblocks, Bool.and_eq_true, beq_iff_eq]

/-- The re-test makes each eligible blocked job OWN_ACTIVE. -/
theorem State.book_retestBlocked {s : State} (hnd : (s.book.map OrderEntry.id).Nodup) :
    s.retestBlocked.book = s.book.map (fun e => if s.unblocks e = true then e.reactivated else e) := by
  rw [s.retestBlocked_eq, State.book_foldl_retestJob hnd]
  refine List.map_congr_left fun e he => ?_
  have : e.id ∈ s.blockedIds ∧ s.unblocks e = true ↔ s.unblocks e = true :=
    ⟨And.right, fun h => ⟨State.mem_blockedIds he (State.unblocks_iff.mp h).1, h⟩⟩
  simp only [State.retested, this]

/-! ## The ageing of an entry (R22) -/

/-- The tested state is the one whose table the test leaves. -/
theorem State.retestBlocked_own (s : State) (l : List Station) :
    State.retestBlocked { s with stations := l } =
      State.retestBlocked { s with stations := (State.retestBlocked { s with stations := l }).stations } := by
  rw [State.stations_retestBlocked]

theorem State.stands_iff {s : State} {n : Nat} {e : Station} (h : s.peer n = some e) (p : Presence) :
    s.stands n p = true ↔ e.presence = p := by
  simp [State.stands, h]

/-- An entry's state changed, with the re-test that follows. -/
theorem State.peer_aged {s : State} {n : Nat} {e : Station} (h : s.peer n = some e) (p : Presence) (m : Nat) :
    (s.modPeer n (fun e => { e with presence := p })).retestBlocked.peer m =
      if m = n then some { e with presence := p } else s.peer m := by
  rw [State.peer_congr (State.stations_retestBlocked _), State.peer_modPeer (f := fun e => { e with presence := p }) fun _ => rfl]
  split
  · next hm => rw [hm, h, Option.map_some]
  · rfl

/-- No entry of a station is left once it is freed. -/
theorem peer_filter (l : List Station) (n m : Nat) :
    (l.filter (fun e => e.number != n)).find? (fun e => e.number == m) =
      if m = n then none else l.find? (fun e => e.number == m) := by
  rw [List.find?_filter]
  split
  · next h =>
    rw [List.find?_eq_none]
    intro e _
    simp [h]
  · next h =>
    congr 1
    funext e
    by_cases hm : e.number = m <;> simp [hm, h]

/-- The state without the entry of station `n`. -/
def State.withoutPeer (s : State) (n : Nat) : State :=
  { s with stations := s.stations.filter (fun e => e.number != n) }

theorem State.peer_withoutPeer (s : State) (n m : Nat) :
    (s.withoutPeer n).retestBlocked.peer m = if m = n then none else s.peer m := by
  rw [State.peer_congr (State.stations_retestBlocked _)]
  exact peer_filter s.stations n m

theorem Intake.clearedSeq_iff (i : Intake) (q : Nat) :
    i.clearedSeq = some q ↔ ∃ d, i = .cleared d ∧ Disposition.seq d = some q := by
  cases i <;> simp [Intake.clearedSeq]

/-- Settles O15: an entry ages by the rule for its state, and the re-test goes through the blocked jobs. -/
theorem entriesAgeOut : Obligations.EntriesAgeOut := by
  unfold Obligations.EntriesAgeOut
  simp only [exec]
  refine ⟨fun n e s hs he => ⟨fun hp => ?_, fun hp => ?_, fun hp => ?_⟩, fun s hnd => ⟨?_, ?_, ?_, ?_⟩⟩
  · have hpeer := State.peer_aged he .stale
    exact ⟨_, State.act_next hs (if_pos ((State.stands_iff he .present).mpr hp)), by rw [hpeer, if_pos rfl],
      fun m hm => by rw [hpeer, if_neg hm], s.retestBlocked_own _⟩
  · have hpeer := State.peer_aged he .gone
    refine ⟨_, State.act_next hs (if_pos ((State.stands_iff he .stale).mpr hp)), by rw [hpeer, if_pos rfl],
      fun m hm => by rw [hpeer, if_neg hm], fun hn => ?_, s.retestBlocked_own _⟩
    obtain ⟨b, k, hframe⟩ := (s.modPeer n (fun e => { e with presence := .gone })).retestBlocked_frame
    have hdown : (s.modPeer n (fun e => { e with presence := .gone })).retestBlocked.downstream = n := by
      rw [hframe, hn]
      rfl
    rw [State.repeatsOn, hdown, hpeer, if_pos rfl]
    rfl
  · have hfreed := (State.stands_iff he .gone).mpr hp
    have hself := State.peer_withoutPeer s n n
    rw [if_pos rfl] at hself
    have hother : ∀ m, m ≠ n → (s.withoutPeer n).retestBlocked.peer m = s.peer m := fun m hm => by
      rw [State.peer_withoutPeer, if_neg hm]
    have hown := s.retestBlocked_own (s.withoutPeer n).stations
    have hxfr : (s.withoutPeer n).retestBlocked.xfr = s.xfr := by
      obtain ⟨b, k, hframe⟩ := (s.withoutPeer n).retestBlocked_frame
      rw [hframe]
      rfl
    by_cases hn : n + 1 = s.self
    · refine ⟨(s.withoutPeer n).retestBlocked.upstreamFreed, State.act_next hs (by rw [if_pos hfreed]; exact if_pos hn),
        hself, hother, ?_, fun h => absurd hn h, fun _ => ?_⟩
      · exact congrArg (fun t : State => { t with xfr := (s.withoutPeer n).retestBlocked.upstreamFreed.xfr }) hown
      · simp only [State.upstreamFreed, hxfr, List.mem_filter, beq_iff_eq, Intake.clearedSeq_iff, implies_true, and_self]
    · exact ⟨(s.withoutPeer n).retestBlocked, State.act_next hs (by rw [if_pos hfreed]; exact if_neg hn), hself, hother,
        congrArg (fun t : State => { t with xfr := (s.withoutPeer n).retestBlocked.xfr }) hown, fun _ => hxfr, fun h => absurd h hn⟩
  · obtain ⟨b, k, hframe⟩ := s.retestBlocked_frame
    rw [hframe]
  · rw [State.book_retestBlocked hnd]
    refine List.map_congr_left fun e _ => ?_
    simp only [State.unblocks_iff]
    rfl
  · exact State.rxErrors_foldl_retestJob _ s
  · intro hroom e he j hst hel hj
    have hlen : s.bus.queue.length + s.blockedIds.length ≤ 16 := by
      rw [State.blockedIds, List.length_map]
      simpa [beq_eq_decide] using hroom
    exact List.mem_map_of_mem (f := Queued.notice) (State.placed_foldl_retestJob hnd hlen he (State.mem_blockedIds he hst)
      (State.unblocks_iff.mpr ⟨hst, hel⟩) hj)

end Sys2Proof.Machine
end

/-! # Proofs: a cell's status heard (O16, O53) -/

section
namespace Sys2Proof.Machine

/-! ## What the owners of a status change -/

/-- `t` differs from `s` in the send queue, the book, the load prompt, the panel and the transfer unit alone. -/
def State.Tells (s t : State) : Prop :=
  ∃ b k g p x, t = { s with bus := b, book := k, seg := { s.seg with prompt := g }, panel := p, xfr := x }

theorem State.Tells.refl (s : State) : s.Tells s := ⟨_, _, _, _, _, rfl⟩

theorem State.Tells.trans {s t u : State} (h : s.Tells t) (h' : t.Tells u) : s.Tells u := by
  obtain ⟨b, k, g, p, x, rfl⟩ := h
  obtain ⟨b', k', g', p', x', rfl⟩ := h'
  exact ⟨b', k', g', p', x', rfl⟩

theorem State.tells_foldl {α : Type} {f : State → α → State} (h : ∀ (s : State) (a : α), s.Tells (f s a)) (l : List α)
    (s : State) : s.Tells (l.foldl f s) := by
  induction l generalizing s with
  | nil => exact .refl s
  | cons a l ih => exact (h s a).trans (ih (f s a))

section
variable (s : State)

theorem State.tells_xfr (x : Transfer) : s.Tells { s with xfr := x } := ⟨_, _, _, _, x, rfl⟩

theorem State.tells_place (n : Notice) : s.Tells (s.place n) := ⟨_, _, _, _, _, rfl⟩

theorem State.tells_modEntry (id : OrderId) (f : OrderEntry → OrderEntry) : s.Tells (s.modEntry id f) :=
  ⟨_, _, _, _, _, rfl⟩

theorem State.tells_retestBlocked : s.Tells s.retestBlocked := by
  obtain ⟨b, k, h⟩ := s.retestBlocked_frame
  exact ⟨b, k, _, _, _, h⟩

theorem State.tells_placeJobStatus (id : OrderId) : s.Tells (s.placeJobStatus id) := by
  obtain ⟨b, k, h⟩ := s.placeJobStatus_frame id
  exact ⟨b, k, _, _, _, h⟩

theorem State.tells_withdrawPrompt (id : OrderId) : s.Tells (s.withdrawPrompt id) := by
  unfold State.withdrawPrompt
  split
  · exact ⟨_, _, .none, _, _, rfl⟩
  · exact .refl s

theorem State.tells_settleJob (id : OrderId) (f : TinFate) : s.Tells (s.settleJob id f) := by
  have entry := fun g => (s.tells_modEntry id g).trans (State.tells_placeJobStatus _ id)
  unfold State.settleJob
  split
  · exact .refl s
  · split
    · exact .refl s
    · split
      case h_1 | h_2 =>
        split
        · split
          · exact entry _
          · exact .refl s
        · split
          · exact entry _
          · exact ((s.tells_modEntry id _).trans (State.tells_withdrawPrompt _ id)).trans (State.tells_placeJobStatus _ id)
      case h_3 =>
        split
        · exact entry _
        · exact .refl s
      all_goals exact .refl s

theorem State.tells_report (m : TinReportMsg) : s.Tells (s.report m) := by
  have placed := s.tells_place (.tinReport m)
  unfold State.report State.resolveTin
  dsimp only
  split
  · split
    · exact placed
    · next e _ =>
      exact ((placed.trans (State.tells_modEntry _ e.id _)).trans (State.tells_placeJobStatus _ e.id)).trans
        (State.tells_settleJob _ e.id _)
  · exact placed

theorem State.tells_consignBurst : s.Tells s.consignBurst := by
  obtain ⟨b, x, h⟩ := s.consignBurst_frame
  exact ⟨b, _, _, _, x, h⟩

theorem State.tells_retire (p : Nat) : s.Tells (s.retire p) := by
  unfold State.retire
  split
  · exact .refl s
  · exact s.tells_xfr _

theorem State.tells_downstreamRestarted : s.Tells s.downstreamRestarted :=
  (State.tells_foldl (fun s _ => s.tells_report _) s.xfr.inTransit s).trans (State.tells_xfr _ _)

theorem State.tells_upstreamRestarted : s.Tells s.upstreamRestarted := by
  have cleared := s.tells_xfr { s.xfr with pointer := 0, expected := [] }
  have opened := State.openIntake_frame { s with xfr := { s.xfr with pointer := 0, expected := [] } }
  unfold State.upstreamRestarted
  dsimp only
  split
  · exact cleared.trans (State.tells_xfr _ _)
  · obtain ⟨x, h⟩ := opened
    split
    · exact cleared
    all_goals
      rw [h]
      exact cleared.trans (State.tells_xfr _ x)

theorem State.tells_heardUpstream (before : Option Station) (m : CellStatusMsg) : s.Tells (s.heardUpstream before m) := by
  unfold State.heardUpstream
  split
  · exact s.tells_upstreamRestarted
  · exact .refl s

theorem State.tells_heardDownstream (before : Option Station) (m : CellStatusMsg) :
    s.Tells (s.heardDownstream before m) := by
  unfold State.heardDownstream
  dsimp only
  refine .trans ?_ (State.tells_retire _ _)
  have restarted : s.Tells (if restartedEvent (before.bind Station.status) m then s.downstreamRestarted else s) := by
    split
    · exact s.tells_downstreamRestarted
    · exact .refl s
  split
  · exact restarted.trans (State.tells_consignBurst _)
  · exact restarted

theorem State.tells_refresh (n : Nat) (m : Option CellStatusMsg) :
    State.Tells { s with stations := (s.refreshed n m).stations } (s.refresh n m) := by
  have htable := s.stations_refresh n m
  obtain ⟨t, b, k, h⟩ := s.refresh_frame n m
  rw [h] at htable
  rw [← htable, h]
  exact ⟨b, k, _, _, _, rfl⟩

/-- A status taken changes the station table by R21, and what its owners change. -/
theorem State.tells_takeStatus (src : Nat) (m : CellStatusMsg) :
    State.Tells { s with stations := (s.refreshed src (some m)).stations } (s.takeStatus src m) := by
  refine .trans ((s.tells_refresh src (some m)).trans (State.tells_retestBlocked _)) ?_
  unfold State.takeStatus
  dsimp only
  split
  · exact State.tells_heardUpstream _ _ m
  · split
    · exact State.tells_heardDownstream _ _ m
    · exact .refl _

end

/-! ## The book as a status leaves it (R65, R71) -/

/-- The book changed entry by entry, no id and no order with it. -/
structure KeepsOrders (f : OrderEntry → OrderEntry) : Prop where
  keeps_id : ∀ e, (f e).id = e.id
  keeps_order : ∀ e, (f e).order = e.order

theorem KeepsOrders.unblocks {f : OrderEntry → OrderEntry} (hf : KeepsOrders f) (s : State) {e : OrderEntry}
    (hst : (f e).st = e.st) : s.unblocks (f e) = s.unblocks e := by
  rw [State.unblocks, State.unblocks, hst, State.eligibleEntry, State.eligibleEntry, hf.keeps_order]

/-- The state an entry has after a re-test (R65). -/
def State.retestedSt (s : State) (e : OrderEntry) : OrderState := if s.unblocks e = true then .ownActive else e.st

/-- The entries as the restart of a terminal's repeat timers leaves them. -/
def OrderEntry.restartedFor (term : Nat) (e : OrderEntry) : OrderEntry :=
  if e.id.term == term then { e with job := e.job.map (fun j => { j with repeatTime := 0 }) } else e

theorem State.restartRepeats_eq (s : State) (term : Nat) :
    s.restartRepeats term = { s with book := s.book.map (OrderEntry.restartedFor term) } := rfl

theorem OrderEntry.st_restartedFor (term : Nat) (e : OrderEntry) : (e.restartedFor term).st = e.st := by
  unfold OrderEntry.restartedFor
  split <;> rfl

theorem OrderEntry.keepsOrders_restartedFor (term : Nat) : KeepsOrders (OrderEntry.restartedFor term) := by
  refine ⟨fun e => ?_, fun e => ?_⟩ <;> unfold OrderEntry.restartedFor <;> split <;> rfl

/-- `t` is `s` with another send queue and with `f` applied to each entry of the book. -/
def State.Books (s : State) (f : OrderEntry → OrderEntry) (t : State) : Prop :=
  t = { s with bus := t.bus, book := s.book.map f }

theorem State.Books.trans {s t u : State} {f g : OrderEntry → OrderEntry} (h : s.Books f t) (h' : t.Books g u) :
    s.Books (g ∘ f) u := by
  rw [State.Books, h', h, ← List.map_map]

theorem State.Books.unblocks {s t : State} {f : OrderEntry → OrderEntry} (h : s.Books f t) : t.unblocks = s.unblocks := by
  rw [h]
  rfl

theorem State.Books.nodup {s t : State} {f : OrderEntry → OrderEntry} (h : s.Books f t) (hf : KeepsOrders f)
    (hnd : (s.book.map OrderEntry.id).Nodup) : (t.book.map OrderEntry.id).Nodup := by
  rw [h]
  rwa [List.map_map, show OrderEntry.id ∘ f = OrderEntry.id from funext hf.keeps_id]

/-- An entry after a re-test (R65). -/
def State.retestEntry (s : State) (e : OrderEntry) : OrderEntry := if s.unblocks e = true then e.reactivated else e

theorem State.st_retestEntry (s : State) (e : OrderEntry) : (s.retestEntry e).st = s.retestedSt e := by
  unfold State.retestEntry State.retestedSt
  split <;> rfl

theorem State.keepsOrders_retestEntry (s : State) : KeepsOrders s.retestEntry := by
  refine ⟨fun e => ?_, fun e => ?_⟩ <;> unfold State.retestEntry <;> split <;> rfl

theorem State.books_retestBlocked {s : State} (hnd : (s.book.map OrderEntry.id).Nodup) :
    s.Books s.retestEntry s.retestBlocked := by
  have hbook : s.retestBlocked.book = s.book.map s.retestEntry := State.book_retestBlocked hnd
  obtain ⟨b, k, h⟩ := s.retestBlocked_frame
  rw [State.Books, ← hbook, h]

/-- A book of which `f` has made what a re-test may leave, entry by entry: its states as before or as after R65. -/
structure State.RetestsTo (s : State) (f : OrderEntry → OrderEntry) : Prop extends KeepsOrders f where
  keeps_st : ∀ e, (f e).st = e.st ∨ (f e).st = s.retestedSt e

/-- A re-test after what a re-test may leave gives each entry its state of R65. -/
theorem State.RetestsTo.retest {s t : State} {f : OrderEntry → OrderEntry} (hf : s.RetestsTo f) (h : s.Books f t)
    (e : OrderEntry) : (t.retestEntry (f e)).st = s.retestedSt e := by
  rw [t.st_retestEntry, State.retestedSt, h.unblocks]
  rcases hf.keeps_st e with hst | hst
  · rw [hf.unblocks s hst, hst, State.retestedSt]
  · by_cases hu : s.unblocks e = true
    · rw [State.retestedSt, if_pos hu] at hst
      simp [hst, State.retestedSt, hu]
    · rw [State.retestedSt, if_neg hu] at hst
      rw [hf.unblocks s hst, hst, State.retestedSt]

/-- The station's entry is refreshed and the book changed as R21, R65 and R71 say. -/
theorem State.books_refresh {s : State} (hnd : (s.book.map OrderEntry.id).Nodup) (n : Nat) (m : Option CellStatusMsg) :
    ∃ f, State.RetestsTo { s with stations := (s.refreshed n m).stations } f ∧
      State.Books { s with stations := (s.refreshed n m).stations } f (s.refresh n m) := by
  generalize hu : ({ s with stations := (s.refreshed n m).stations } : State) = u
  have hrefreshed : s.refreshed n m = u := by
    rw [← hu]
    unfold State.refreshed
    split <;> rfl
  have hnd' : (u.book.map OrderEntry.id).Nodup := by rwa [← hu]
  have restarted : u.Books (OrderEntry.restartedFor n) (u.restartRepeats n) := rfl
  have hrestart := OrderEntry.keepsOrders_restartedFor n
  unfold State.refresh
  dsimp only
  rw [hrefreshed]
  split
  · exact ⟨_, ⟨hrestart, fun e => .inl (e.st_restartedFor n)⟩, restarted⟩
  · exact ⟨id, ⟨⟨fun _ => rfl, fun _ => rfl⟩, fun _ => .inl rfl⟩, by rw [State.Books, List.map_id]⟩
  · exact ⟨_, ⟨u.keepsOrders_retestEntry, fun e => .inr (u.st_retestEntry e)⟩, State.books_retestBlocked hnd'⟩
  · have hrepeat : u.RetestsTo (OrderEntry.restartedFor n) := ⟨hrestart, fun e => .inl (e.st_restartedFor n)⟩
    have hretest := State.keepsOrders_retestEntry (u.restartRepeats n)
    exact ⟨_, ⟨⟨fun e => (hretest.keeps_id _).trans (hrestart.keeps_id e),
      fun e => (hretest.keeps_order _).trans (hrestart.keeps_order e)⟩, fun e => .inr (hrepeat.retest restarted e)⟩,
      restarted.trans (State.books_retestBlocked (restarted.nodup hrestart hnd'))⟩

/-- A cell's status heard leaves each entry its id and the state of R65. -/
theorem State.book_heard {s : State} (hnd : (s.book.map OrderEntry.id).Nodup) (n : Nat) (m : Option CellStatusMsg) :
    (s.refresh n m).retestBlocked.book.map (fun e => (e.id, e.st)) =
      s.book.map (fun e => (e.id, State.retestedSt { s with stations := (s.refreshed n m).stations } e)) := by
  obtain ⟨f, hf, hb⟩ := State.books_refresh hnd n m
  have hretest := State.books_retestBlocked (hb.nodup hf.toKeepsOrders hnd)
  rw [(hb.trans hretest : State.Books _ _ _), List.map_map]
  refine List.map_congr_left fun e _ => ?_
  have hid : ((s.refresh n m).retestEntry (f e)).id = e.id :=
    ((State.keepsOrders_retestEntry _).keeps_id _).trans (hf.keeps_id e)
  exact Prod.ext hid (hf.retest hb e)

theorem State.Hears.statusBad {s : State} {src : Nat} (h : s.Hears .cell src) (take : State → State) :
    s.hear .cell src false take = s.rxError :=
  s.hear_bad h.2.1 (by simp)

theorem statusOk_iff (src : Nat) (m : CellStatusMsg) :
    statusOk src m = true ↔ m.cover.length ≤ 16 ∧ m.attention.length ≤ 2 ∧ m.station = src := by
  simp [statusOk, and_assoc]

/-- A status that passes its check is taken. -/
theorem State.Hears.exec_cellStatus {s : State} {src : Nat} (h : s.Hears .cell src) {m : CellStatusMsg}
    (hok : statusOk src m = true) (tag : Option TinId) :
    exec (.cellStatus src m tag) s = .next ((s.latchTag tag).takeStatus src m) := by
  refine State.act_next (f := fun s => (s.latchTag tag).hear .cell src (statusOk src m) fun s => s.takeStatus src m) h.live ?_
  rw [hok]
  exact State.Hears.hear_cell (s := s.latchTag tag) h _

/-- Settles O16: the entry by `State.peer_refreshed`, the rest by what the owners of a status change. -/
theorem cellStatusRefreshesEntry : Obligations.CellStatusRefreshesEntry := by
  unfold Obligations.CellStatusRefreshesEntry
  intro src m tag s h
  refine ⟨fun hbad => ?_, fun hcover hatt hst => ?_⟩
  · have hok : statusOk src m = false := by
      rw [← Bool.not_eq_true, statusOk_iff]
      omega
    refine State.act_next (f := fun s => (s.latchTag tag).hear .cell src (statusOk src m) fun s => s.takeStatus src m) h.live ?_
    rw [hok]
    exact State.Hears.statusBad (s := s.latchTag tag) h _
  · have hexec := h.exec_cellStatus ((statusOk_iff src m).mpr ⟨hcover, hatt, hst⟩) tag
    refine ⟨_, hexec, ?_⟩
    have htells := (s.latchTag tag).tells_takeStatus src m
    have htable : ((s.latchTag tag).takeStatus src m).stations = ((s.latchTag tag).refreshed src (some m)).stations := by
      obtain ⟨b, k, g, p, x, ht⟩ := htells
      rw [ht]
    have hpeer := fun n => (State.peer_congr htable n).trans ((s.latchTag tag).peer_refreshed src (some m) n)
    refine ⟨by rw [hpeer, if_pos rfl], fun n hn => by rw [hpeer, if_neg hn]; rfl, ?_⟩
    refine ⟨?_, ?_, ?_, ?_, ?_, ?_, fun hup hdown hnd => ?_⟩
    iterate 6
      obtain ⟨b, k, g, p, x, ht⟩ := htells
      rw [ht]
      rfl
    have htake : (s.latchTag tag).takeStatus src m = ((s.latchTag tag).refresh src (some m)).retestBlocked :=
      (if_neg hup).trans (if_neg hdown)
    have heligible : ∀ e, ((s.latchTag tag).takeStatus src m).eligibleEntry e =
        State.eligibleEntry { s.latchTag tag with stations := ((s.latchTag tag).refreshed src (some m)).stations } e := by
      obtain ⟨b, k, g, p, x, ht⟩ := htells
      intro e
      rw [ht]
      rfl
    refine ⟨?_, ?_⟩
    · obtain ⟨l, b, k, hr⟩ := (s.latchTag tag).refresh_frame src (some m)
      obtain ⟨b', k', ht⟩ := ((s.latchTag tag).refresh src (some m)).retestBlocked_frame
      rw [htake, ht, hr]
    · simp only [heligible]
      rw [htake, State.book_heard (s := s.latchTag tag) hnd]
      refine List.map_congr_left fun e _ => ?_
      simp only [State.retestedSt, State.unblocks_iff]

end Sys2Proof.Machine
end

/-! # Proofs: a neighbour's status (O53) -/

section
namespace Sys2Proof.Machine

/-! ## What the status says of its sender (R23, R165, R166) -/

theorem restartedEvent_iff (old : Option CellStatusMsg) (m : CellStatusMsg) : restartedEvent old m = true ↔
    m.restarted = true ∧ ∀ b, old = some b → b.restarted = false ∨ m.restartedCount < b.restartedCount := by
  cases old <;> simp [restartedEvent]

theorem newHold_iff (old : Option CellStatusMsg) (m : CellStatusMsg) : newHold old m = true ↔
    m.intakeHold = true ∧ ∀ b, old = some b → b.intakeHold = false := by
  cases old <;> simp [newHold]

theorem returned_iff (before : Option Station) : returned before = true ↔ ∀ e, before = some e → e.presence = .gone := by
  cases before <;> simp [returned]

/-! ## A restarted upstream neighbour (R181) -/

/-- With nothing expected, a tin at the gate of an intake that opens is held. -/
theorem State.firstRead_of_empty {s : State} (hself : 2 ≤ s.self) (hserv : s.inService = true)
    (hexp : s.xfr.expected = []) : s.firstRead = s.setIntake (.hold 0 1 0 0 s.pins.sample.tag) := by
  have hahead : s.ahead 1 = none := by rw [State.ahead, State.item, hexp]; rfl
  rw [State.firstRead, if_neg (by simp [hserv, Nat.not_le.mpr (Nat.lt_of_succ_le hself)]), hahead]

theorem State.openIntake_of_clear {s : State} (h : s.pins.sample.laneHead = false) : s.openIntake = s.setIntake .opened := by
  rw [State.openIntake, h]
  rfl

theorem State.openIntake_of_empty {s : State} (hself : 2 ≤ s.self) (hserv : s.inService = true)
    (hexp : s.xfr.expected = []) (hhead : s.pins.sample.laneHead = true) :
    s.openIntake = s.setIntake (.hold 0 1 0 0 s.pins.sample.tag) := by
  rw [State.openIntake, if_pos hhead]
  exact State.firstRead_of_empty (s := s.setIntake .opened) hself hserv hexp

/-- The pointer and the list of a cell whose upstream neighbour is found restarted. -/
def State.upstreamLost (s : State) : State := { s with xfr := { s.xfr with pointer := 0, expected := [] } }

theorem State.upstreamRestarted_cutShort {s : State} (h : s.xfr.cutShort = true) :
    s.upstreamRestarted = s.upstreamLost.setIntake (.cleared .unknown) := if_pos h

theorem State.upstreamRestarted_opened {s : State} (h : s.xfr.cutShort = false) (hi : s.xfr.intake = .opened) :
    s.upstreamRestarted = s.upstreamLost := by
  unfold State.upstreamRestarted
  dsimp only
  rw [if_neg (ne_true_of_eq_false h)]
  split
  · rfl
  · next hc => cases hi.symm.trans hc
  · next hc => cases hi.symm.trans hc

theorem State.upstreamRestarted_reopens {s : State} (h : s.xfr.cutShort = false) (hi : s.xfr.intake ≠ .opened) :
    s.upstreamRestarted = s.upstreamLost.openIntake := by
  unfold State.upstreamRestarted
  dsimp only
  rw [if_neg (ne_true_of_eq_false h)]
  split
  · next hc => exact absurd hc hi
  · rfl
  · rfl

/-! ## Every record announced (R165, R166) -/

/-- A record whose repeat timer starts again. -/
def Transit.restart (r : Transit) : Transit := { r with time := 0 }

theorem State.xfr_repeatConsign (s : State) (r : Transit) : (s.repeatConsign r).xfr =
    { s.xfr with inTransit := s.xfr.inTransit.map (fun v => if v.seq == r.seq then v.restart else v) } := rfl

/-- The records announced start their timers again, and the transfer unit keeps the rest. -/
theorem State.xfr_foldl_repeatConsign (l : List Transit) (s : State) : (l.foldl State.repeatConsign s).xfr =
    { s.xfr with inTransit := s.xfr.inTransit.map (fun v => if v.seq ∈ l.map Transit.seq then v.restart else v) } := by
  induction l generalizing s with
  | nil => simp
  | cons r l ih =>
    rw [List.foldl_cons, ih, State.xfr_repeatConsign, List.map_map]
    refine congrArg (fun l => { s.xfr with inTransit := l }) (List.map_congr_left fun v _ => ?_)
    by_cases h : v.seq = r.seq <;> by_cases h' : v.seq ∈ l.map Transit.seq <;> simp_all [Transit.restart]

theorem State.xfr_consignBurst (s : State) :
    s.consignBurst.xfr = { s.xfr with inTransit := s.xfr.inTransit.map Transit.restart } := by
  rw [State.consignBurst, State.xfr_foldl_repeatConsign]
  exact congrArg (fun l => { s.xfr with inTransit := l })
    (List.map_congr_left fun v hv => if_pos (List.mem_map_of_mem hv))

/-- A repeated CONSIGN yields to no other sequence's. -/
theorem Queued.yields_consign {a : Queued} {m : ConsignMsg}
    (h : a.sending = true ∨ ∀ c, a.notice = .consign c → c.seq ≠ m.seq) : a.yields (Notice.consign m).queued = false := by
  rcases h with h | h
  · simp [Queued.yields, h]
  · have : replaces (.consign m) a.notice = false := by
      cases hn : a.notice with
      | consign c => simpa [replaces] using (h c hn).symm
      | _ => rfl
    simp [Queued.yields, Notice.queued, this]

/-- A notice placed again is in the queue where there is room for it, and the others stay, but for those it may
replace. -/
theorem Bus.mem_replaceOrAdd {b : Bus} (q : Queued) (h : b.queue.length < 16) :
    (b.replaceOrAdd q).queue.length ≤ b.queue.length + 1 ∧ q ∈ (b.replaceOrAdd q).queue ∧
      ∀ a ∈ b.queue, a.yields q = false → a ∈ (b.replaceOrAdd q).queue := by
  unfold Bus.replaceOrAdd
  split
  · next l hl =>
    obtain ⟨pre, a, post, hb, rfl, ha⟩ := replaceIn_split hl
    refine ⟨by simp [hb], by simp, fun c hc hy => ?_⟩
    rw [hb, List.mem_append, List.mem_cons] at hc
    rcases hc with hc | rfl | hc
    · simp [hc]
    · rw [ha] at hy
      cases hy
    · simp [hc]
  · rw [Bus.add_of_room _ h]
    exact ⟨(insertQueued_perm _ _).length_eq.le, mem_insertQueued.mpr (.inl rfl), fun a ha _ => mem_insertQueued.mpr (.inr ha)⟩

/-- A burst that finds room leaves in the queue the CONSIGN of each of its records, and those of other sequences. -/
theorem State.queue_foldl_repeatConsign {l : List Transit} (hnd : (l.map Transit.seq).Nodup) {s : State}
    (h : s.bus.queue.length + l.length ≤ 16) {v : Transit}
    (hv : v ∈ l ∨ (Notice.consign v.msg).queued ∈ s.bus.queue ∧ v.seq ∉ l.map Transit.seq) :
    (Notice.consign v.msg).queued ∈ (l.foldl State.repeatConsign s).bus.queue := by
  induction l generalizing s with
  | nil => exact (hv.resolve_left List.not_mem_nil).1
  | cons r l ih =>
    rw [List.map_cons, List.nodup_cons] at hnd
    obtain ⟨hr, hnd⟩ := hnd
    rw [List.length_cons] at h
    obtain ⟨hlen, hin, hstay⟩ := Bus.mem_replaceOrAdd (b := s.bus) (Notice.consign r.msg).queued (by omega)
    have hbus : (s.repeatConsign r).bus = s.bus.replaceOrAdd (Notice.consign r.msg).queued := rfl
    rw [List.foldl_cons]
    refine ih hnd (by rw [hbus]; omega) ?_
    rw [hbus]
    rcases hv with hv | ⟨hv, hseq⟩
    · rcases List.mem_cons.mp hv with rfl | hv
      · exact .inr ⟨hin, hr⟩
      · exact .inl hv
    · rw [List.map_cons, List.mem_cons, not_or] at hseq
      obtain ⟨hne, hseq⟩ := hseq
      refine .inr ⟨hstay _ hv (Queued.yields_consign (.inr fun c hc => ?_)), hseq⟩
      cases hc
      exact hne

/-! ## The records retired (R167) -/

theorem State.retire_frame (s : State) (p : Nat) :
    s.retire p = { s with xfr := { s.xfr with inTransit := (s.retire p).xfr.inTransit } } := by
  unfold State.retire
  split <;> rfl

theorem State.mem_retire (s : State) (p : Nat) (v : Transit) : v ∈ (s.retire p).xfr.inTransit ↔
    (p = 0 ∨ atOrBefore v.seq p = false) ∧ v ∈ s.xfr.inTransit := by
  unfold State.retire
  split
  · next h => simp [h]
  · next h => simp [h, and_comm]

/-! ## A restarted downstream neighbour (R182) -/

theorem State.report_foreign {s : State} {m : TinReportMsg} (h : m.tin.cell ≠ s.self) : s.report m = s.place (.tinReport m) :=
  if_neg h

/-- The report of a record that a restarted neighbour has lost. -/
def Transit.lost (self : Nat) (v : Transit) : TinReportMsg := v.tin.reportMsg self .lost (some .downstreamRestarted)

theorem State.downstreamRestarted_eq (s : State) : s.downstreamRestarted =
    { s.xfr.inTransit.foldl (fun s r => s.report (r.lost s.self)) s with
      xfr := { (s.xfr.inTransit.foldl (fun s r => s.report (r.lost s.self)) s).xfr with inTransit := [], release := 0 } } := rfl

theorem State.xfr_foldl_lost (l : List Transit) (s : State) :
    (l.foldl (fun s r => s.report (r.lost s.self)) s).xfr = s.xfr := by
  induction l generalizing s with
  | nil => rfl
  | cons r l ih =>
    obtain ⟨b, k, g, p, h⟩ := s.report_frame (r.lost s.self)
    rw [List.foldl_cons, ih, h]

/-- Records of other cells' tins are reported on the bus alone. -/
theorem State.foldl_lost_foreign {l : List Transit} {s : State} (h : ∀ v ∈ l, v.tin.id.cell ≠ s.self) :
    l.foldl (fun s r => s.report (r.lost s.self)) s = l.foldl (fun b v => b.place (.tinReport (v.lost s.self))) s := by
  induction l generalizing s with
  | nil => rfl
  | cons r l ih =>
    obtain ⟨hr, hl⟩ := List.forall_mem_cons.mp h
    have hplace : s.report (r.lost s.self) = s.place (.tinReport (r.lost s.self)) := State.report_foreign hr
    rw [List.foldl_cons, List.foldl_cons, hplace]
    exact ih (s := s.place (.tinReport (r.lost s.self))) hl

/-- What is placed on the bus depends on the bus alone. -/
theorem State.bus_foldl_place {α : Type} (f : α → Notice) (l : List α) {s t : State} (h : s.bus = t.bus) :
    (l.foldl (fun b v => b.place (f v)) s).bus = (l.foldl (fun b v => b.place (f v)) t).bus := by
  induction l generalizing s t with
  | nil => exact h
  | cons a l ih => exact ih (congrArg (fun b : Bus => b.add (f a).queued) h)

theorem State.consignBurst_of_empty {s : State} (h : s.xfr.inTransit = []) : s.consignBurst = s := by
  rw [State.consignBurst, h, List.foldl_nil]

theorem State.xfr_retire_of_empty {s : State} (h : s.xfr.inTransit = []) (p : Nat) : (s.retire p).xfr = s.xfr := by
  unfold State.retire
  split
  · rfl
  · simp only [h, List.filter_nil]
    rw [← h]

/-! ## The status heard -/

/-- Without a blocked job there is nothing to test. -/
theorem State.retestBlocked_of_none {s : State} (h : ∀ e ∈ s.book, e.st ≠ .ownBlocked) : s.retestBlocked = s := by
  have : s.blockedIds = [] := by
    rw [State.blockedIds, List.filter_eq_nil_iff.mpr (by simpa using h), List.map_nil]
  rw [s.retestBlocked_eq, this, List.foldl_nil]

theorem State.heard_frame (s : State) (n : Nat) (m : Option CellStatusMsg) :
    ∃ l b k, (s.refresh n m).retestBlocked = { s with stations := l, bus := b, book := k } := by
  obtain ⟨l, b, k, h⟩ := s.refresh_frame n m
  obtain ⟨b', k', h'⟩ := (s.refresh n m).retestBlocked_frame
  exact ⟨l, b', k', by rw [h', h]⟩

/-- Without a blocked job, a status heard places nothing and leaves each entry its state. -/
theorem State.heard_of_none {s : State} (h : ∀ e ∈ s.book, e.st ≠ .ownBlocked) (n : Nat) (m : Option CellStatusMsg) :
    ∃ l k, (s.refresh n m).retestBlocked = { s with stations := l, book := k } ∧
      k.map OrderEntry.st = s.book.map OrderEntry.st := by
  generalize hu : ({ s with stations := (s.refreshed n m).stations } : State) = u
  have hrefreshed : s.refreshed n m = u := by
    rw [← hu]
    unfold State.refreshed
    split <;> rfl
  have hbook : u.book = s.book := by rw [← hu]
  have same : u.retestBlocked = u := State.retestBlocked_of_none (by rwa [hbook])
  have restarted : (u.restartRepeats n).retestBlocked = u.restartRepeats n := by
    refine State.retestBlocked_of_none fun e he => ?_
    rw [u.restartRepeats_eq, hbook] at he
    obtain ⟨a, ha, rfl⟩ := List.mem_map.mp he
    rw [a.st_restartedFor]
    exact h a ha
  have hst : (s.book.map (OrderEntry.restartedFor n)).map OrderEntry.st = s.book.map OrderEntry.st := by
    rw [List.map_map]
    exact List.map_congr_left fun e _ => e.st_restartedFor n
  have hframe : u = { s with stations := u.stations, book := s.book } := by rw [← hu]
  have hframe' : u.restartRepeats n =
      { s with stations := u.stations, book := s.book.map (OrderEntry.restartedFor n) } := by
    rw [u.restartRepeats_eq, ← hu]
  unfold State.refresh
  dsimp only
  rw [hrefreshed]
  split
  · exact ⟨_, _, restarted.trans hframe', hst⟩
  · exact ⟨_, _, same.trans hframe, rfl⟩
  · rw [same]
    exact ⟨_, _, same.trans hframe, rfl⟩
  · rw [restarted]
    exact ⟨_, _, restarted.trans hframe', hst⟩

/-- An upstream neighbour's status leaves the transfer unit as it is unless it tells of a restart (R181). -/
theorem State.heardUpstream_xfr {s t : State} {before : Option Station} {m : CellStatusMsg} (hx : t.xfr = s.xfr)
    (hp : t.pins = s.pins) (hself : 2 ≤ t.self) (hserv : t.inService = true) :
    (restartedEvent (before.bind Station.status) m = false → (t.heardUpstream before m).xfr = s.xfr) ∧
    (restartedEvent (before.bind Station.status) m = true →
      (t.heardUpstream before m).xfr = { s.xfr with
        pointer := 0, expected := [], intake := (t.heardUpstream before m).xfr.intake } ∧
      (s.xfr.cutShort = true → (t.heardUpstream before m).xfr.intake = .cleared .unknown) ∧
      (s.xfr.cutShort = false → s.pins.sample.laneHead = false ∨ s.xfr.intake = .opened →
        (t.heardUpstream before m).xfr.intake = .opened) ∧
      (s.xfr.cutShort = false → s.pins.sample.laneHead = true → s.xfr.intake ≠ .opened →
        (t.heardUpstream before m).xfr.intake = .hold 0 1 0 0 s.pins.sample.tag)) := by
  rw [← hx, ← hp]
  refine ⟨fun h => by rw [State.heardUpstream, h]; rfl, fun h => ?_⟩
  have heard : t.heardUpstream before m = t.upstreamRestarted := by rw [State.heardUpstream, if_pos h]
  rw [heard]
  by_cases hcut : t.xfr.cutShort = true
  · rw [State.upstreamRestarted_cutShort hcut]
    exact ⟨rfl, fun _ => rfl, fun hc => absurd hcut (ne_true_of_eq_false hc), fun hc => absurd hcut (ne_true_of_eq_false hc)⟩
  · have hcut := Bool.eq_false_iff.mpr hcut
    by_cases hi : t.xfr.intake = .opened
    · rw [State.upstreamRestarted_opened hcut hi]
      exact ⟨rfl, fun hc => absurd hcut (ne_false_of_eq_true hc), fun _ _ => hi, fun _ _ hc => absurd hi hc⟩
    · rw [State.upstreamRestarted_reopens hcut hi]
      cases hhead : t.pins.sample.laneHead with
      | true =>
        rw [State.openIntake_of_empty (s := t.upstreamLost) hself hserv rfl hhead]
        exact ⟨rfl, fun hc => absurd hcut (ne_false_of_eq_true hc), fun _ hc => absurd (hc.resolve_left (by simp)) hi,
          fun _ _ _ => rfl⟩
      | false =>
        rw [State.openIntake_of_clear (s := t.upstreamLost) hhead]
        exact ⟨rfl, fun hc => absurd hcut (ne_false_of_eq_true hc), fun _ _ => rfl, fun _ hc => by cases hc⟩

/-- A restarted downstream neighbour's status empties the lane (R182), and what follows finds no record. -/
theorem State.heardDownstream_restarted {s : State} {before : Option Station} {m : CellStatusMsg}
    (h : restartedEvent (before.bind Station.status) m = true) :
    (s.heardDownstream before m).xfr = { s.xfr with inTransit := [], release := 0 } ∧
    (s.heardDownstream before m).bus = (s.xfr.inTransit.foldl (fun s r => s.report (r.lost s.self)) s).bus := by
  have hx : s.downstreamRestarted.xfr = { s.xfr with inTransit := [], release := 0 } := by
    rw [s.downstreamRestarted_eq, State.xfr_foldl_lost]
  have hempty : s.downstreamRestarted.xfr.inTransit = [] := by rw [hx]
  unfold State.heardDownstream
  dsimp only
  rw [if_pos h, State.consignBurst_of_empty hempty, ite_self, State.xfr_retire_of_empty hempty, State.retire_frame]
  exact ⟨hx, rfl⟩

/-- Another status of the downstream neighbour announces every record where it asks for it, and retires those its
pointer has passed (R165 to R167). -/
theorem State.heardDownstream_running {s : State} {before : Option Station} {m : CellStatusMsg}
    (h : restartedEvent (before.bind Station.status) m = false) : s.heardDownstream before m =
      (if returned before || newHold (before.bind Station.status) m then s.consignBurst else s).retire m.pointer := by
  unfold State.heardDownstream
  dsimp only
  rw [if_neg (ne_true_of_eq_false h)]

/-- Every record announced, and those the pointer has passed retired. -/
theorem State.retire_consignBurst (s : State) (p : Nat) :
    (s.consignBurst.retire p).book = s.book ∧
    (s.consignBurst.retire p).xfr = { s.xfr with inTransit := (s.consignBurst.retire p).xfr.inTransit } ∧
    (∀ v, v ∈ (s.consignBurst.retire p).xfr.inTransit ↔
      (p = 0 ∨ atOrBefore v.seq p = false) ∧ ∃ u ∈ s.xfr.inTransit, u.restart = v) := by
  have hx := s.xfr_consignBurst
  have hmem := s.consignBurst.mem_retire p
  refine ⟨?_, ?_, fun v => ?_⟩
  · rw [State.retire_frame]
    obtain ⟨b, x, h⟩ := s.consignBurst_frame
    rw [h]
  · rw [State.retire_frame, hx]
  · rw [hmem v, hx, List.mem_map]

/-- The downstream neighbour's status reaches the transfer unit with the bus and the lane as they were, where no job is
blocked. -/
theorem State.Hears.exec_downstream {s : State} {src : Nat} (h : s.Hears .cell src) {m : CellStatusMsg}
    (hok : statusOk src m = true) (hdown : src = s.self + 1) (hnone : ∀ e ∈ s.book, e.st ≠ .ownBlocked)
    (tag : Option TinId) : ∃ t : State, exec (.cellStatus src m tag) s = .next (t.heardDownstream (s.peer src) m) ∧
      t.bus = s.bus ∧ t.xfr = s.xfr ∧ t.self = s.self ∧ t.book.map OrderEntry.st = s.book.map OrderEntry.st := by
  obtain ⟨l, k, hframe, hst⟩ := State.heard_of_none (s := s.latchTag tag) hnone src (some m)
  have hnotup : src + 1 ≠ s.self := by omega
  have htake : (s.latchTag tag).takeStatus src m =
      ((s.latchTag tag).refresh src (some m)).retestBlocked.heardDownstream (s.peer src) m :=
    (if_neg hnotup).trans (if_pos hdown)
  refine ⟨_, (h.exec_cellStatus hok tag).trans (congrArg _ htake), ?_⟩
  rw [hframe]
  exact ⟨rfl, rfl, rfl, hst⟩

/-! ## CONSIGN_REPEAT (R165) -/

theorem State.repeatsOn_iff {s : State} :
    s.repeatsOn = true ↔ ∃ e, s.peer (s.self + 1) = some e ∧ e.presence ≠ .gone := by
  unfold State.repeatsOn State.downstream
  split
  · next e he => simp [he]
  · next he => simp [he]

theorem execConsignRepeat_placed {s : State} (hs : s.Live) {q : Nat} {r : Transit}
    (hr : s.xfr.inTransit.find? (fun r => r.seq == q) = some r) (hon : s.repeatsOn = true) :
    exec (.consignRepeat q) s = .next (s.repeatConsign r) := by
  simp only [exec]
  refine State.act_next hs ?_
  rw [hr]
  exact if_pos hon

theorem execConsignRepeat_idle {s : State} (hs : s.Live) {q : Nat}
    (h : s.xfr.inTransit.find? (fun r => r.seq == q) = none ∨ s.repeatsOn = false) : exec (.consignRepeat q) s = .next s := by
  simp only [exec]
  refine State.act_next hs ?_
  rcases h with h | h
  · rw [h]
  · rw [h]
    split <;> rfl

/-- Settles O53: the upstream neighbour, the downstream neighbour, the repeat timer. -/
theorem neighbourStatusHeard : Obligations.NeighbourStatusHeard := by
  unfold Obligations.NeighbourStatusHeard
  refine ⟨fun src m tag s old restart burst h hok hserv hold hrestart hburst => ⟨fun hup => ?_, fun hdown hnone => ?_⟩,
    fun q s hs => ⟨fun r e hr he hgone => ?_, fun hidle => ?_⟩⟩
  · have hexec := h.exec_cellStatus hok tag
    rw [← restartedEvent_iff, hold] at hrestart
    obtain ⟨l, b, k, hframe⟩ := (s.latchTag tag).heard_frame src (some m)
    have htake : (s.latchTag tag).takeStatus src m =
        ((s.latchTag tag).refresh src (some m)).retestBlocked.heardUpstream (s.peer src) m := if_pos hup
    have hsrc := (Sender.cell_allows.mp h.2.2.1).1
    obtain ⟨hsame, hlost⟩ := State.heardUpstream_xfr (s := s.latchTag tag) (before := s.peer src) (m := m)
      (t := ((s.latchTag tag).refresh src (some m)).retestBlocked) (by rw [hframe]) (by rw [hframe])
      (by rw [hframe]; show 2 ≤ s.self; omega) (by rw [hframe]; exact hserv)
    rw [← htake] at hsame hlost
    exact ⟨_, hexec, fun hr => hsame (Bool.eq_false_iff.mpr (mt hrestart.mpr hr)), fun hr => hlost (hrestart.mp hr)⟩
  · rw [← restartedEvent_iff, hold] at hrestart
    rw [← returned_iff, ← newHold_iff, hold, ← Bool.or_eq_true] at hburst
    obtain ⟨t, hexec, hbus, hx, hself, hst⟩ := h.exec_downstream hok hdown hnone tag
    refine ⟨_, hexec, fun hr => ?_, fun hr => ?_⟩
    · obtain ⟨hlane, hb⟩ := State.heardDownstream_restarted (s := t) (hrestart.mp hr)
      rw [hx] at hlane hb
      refine ⟨hlane, fun hforeign => ?_⟩
      rw [hb, State.foldl_lost_foreign (by rwa [hself]), hself]
      exact State.bus_foldl_place _ _ hbus
    · rw [State.heardDownstream_running (Bool.eq_false_iff.mpr (mt hrestart.mpr hr))]
      by_cases hb : burst
      · rw [if_pos (hburst.mp hb)]
        obtain ⟨hbk, hxr, hmem⟩ := t.retire_consignBurst m.pointer
        rw [hx] at hxr hmem
        refine ⟨by rw [hbk, hst], hxr, fun v => ?_, fun hc => absurd hb hc, fun _ hnd hroom v hv => ?_⟩
        · rw [hmem v]
          exact and_congr_right fun _ => exists_congr fun u => and_congr_right fun _ =>
            ⟨fun hu => ⟨fun _ => hu.symm, fun hc => absurd hb hc⟩, fun ⟨hu, _⟩ => (hu hb).symm⟩
        · rw [State.retire_frame]
          rw [← hx] at hnd hroom hv
          exact List.mem_map_of_mem (f := Queued.notice)
            (State.queue_foldl_repeatConsign hnd (by rwa [hbus]) (.inl hv))
      · rw [if_neg (mt hburst.mpr hb)]
        have hmem := t.mem_retire m.pointer
        have hframe := t.retire_frame m.pointer
        rw [hx] at hmem hframe
        exact ⟨by rw [hframe, hst], by rw [hframe], by simpa [hb] using hmem, fun _ => by rw [hframe, hbus],
          fun hc => absurd hc hb⟩
  · have hon : s.repeatsOn = true := State.repeatsOn_iff.mpr ⟨e, he, hgone⟩
    have hseq : r.seq = q := eq_of_beq (List.find?_some (p := fun r : Transit => r.seq == q) hr)
    subst hseq
    refine ⟨_, execConsignRepeat_placed hs hr hon, rfl, ?_, fun hwait => ?_, fun pre a post c hq ha hc hsend hpre => ?_⟩
    · simp only [State.xfr_repeatConsign, beq_iff_eq]
      rfl
    · exact Bus.replaceOrAdd_of_none fun a ha => Queued.yields_consign (hwait a ha)
    · refine Bus.replaceOrAdd_append hq (fun b hb => Queued.yields_consign (hpre b hb)) ?_
      simp [Queued.yields, Notice.queued, ha, hsend, replaces, hc, Transit.msg]
  · refine execConsignRepeat_idle hs (hidle.imp_right fun hd => ?_)
    rw [← Bool.not_eq_true, State.repeatsOn_iff]
    rintro ⟨e, he, hgone⟩
    rcases hd with hd | ⟨e', he', hgone'⟩
    · cases hd.symm.trans he
    · cases he'.symm.trans he
      exact hgone hgone'

end Sys2Proof.Machine
end

/-! # Proofs: CONSIGN (O50) -/

section
namespace Sys2Proof.Machine

/-! ## The mark of an item (R169) -/

theorem hasDuplicate_iff (l : List Nat) : hasDuplicate l = true ↔ ¬ l.Nodup := by
  induction l with
  | nil => simp [hasDuplicate]
  | cons c l ih =>
    rw [hasDuplicate, Bool.or_eq_true, ih, List.nodup_cons, List.contains_iff_mem]
    tauto

theorem sizeRow_eq_none (n : Nat) : sizeRow n = none ↔ n = 0 ∨ 5 < n := by
  unfold sizeRow
  split
  case h_6 h1 h2 h3 h4 h5 =>
    refine iff_of_true rfl ?_
    simp only [imp_false] at h1 h2 h3 h4 h5
    omega
  all_goals simp

/-- The faults of R169 that leave an announced tin UNIDENTIFIED. -/
def ConsignMsg.Unidentified (m : ConsignMsg) : Prop :=
  m.size = 0 ∨ 5 < m.size ∨ m.lid = 0 ∨ m.shake = none ∨ (m.status = .deferred ∧ m.deferral = []) ∨
    (m.status = .done ∧ m.deferral ≠ []) ∨
    ¬ (m.dosed.map DosedItem.colorant ++ m.deferral.map DeferItem.colorant).Nodup

/-- The four checks of R169 before the overload, as the model makes them. -/
theorem ConsignMsg.unidentified_iff (m : ConsignMsg) : ConsignMsg.Unidentified m ↔
    (sizeRow m.size).isNone = true ∨ (m.lid = 0 || m.shake.isNone) = true ∨
    ((m.status == .deferred && m.deferral.isEmpty) || (m.status == .done && !m.deferral.isEmpty)) = true ∨
    hasDuplicate (m.dosed.map DosedItem.colorant ++ m.deferral.map DeferItem.colorant) = true := by
  simp only [ConsignMsg.Unidentified, Option.isNone_iff_eq_none, sizeRow_eq_none, hasDuplicate_iff, Bool.or_eq_true,
    Bool.and_eq_true, decide_eq_true_eq, beq_iff_eq, Bool.not_eq_true', List.isEmpty_iff, ne_eq, or_assoc,
    List.isEmpty_eq_false_iff]

theorem consignMark_of_unidentified {m : ConsignMsg} (h : ConsignMsg.Unidentified m) :
    consignMark m = some .unidentified := by
  unfold consignMark
  rcases (ConsignMsg.unidentified_iff m).mp h with h | h | h | h <;> simp only [h, if_true, ite_self]

theorem consignMark_of_identified {m : ConsignMsg} (h : ¬ ConsignMsg.Unidentified m) :
    consignMark m = if headroomNl m.size < m.total then some .overload else none := by
  rw [ConsignMsg.unidentified_iff] at h
  simp only [not_or] at h
  obtain ⟨hsize, hlid, hstatus, hdup⟩ := h
  rw [consignMark, if_neg hsize, if_neg hlid, if_neg hstatus, if_neg hdup]

/-! ## The expected list (R168) -/

theorem mem_insertExpected {p : Nat} {e a : Expected} {l : List Expected} :
    a ∈ insertExpected p e l ↔ a ∈ l ∨ a = e := by
  induction l with
  | nil => simp [insertExpected]
  | cons b l ih =>
    unfold insertExpected
    split
    · simp only [List.mem_cons, ih, or_assoc]
    · simp only [List.mem_cons, or_comm]

/-- The list in sequence order, as seen from the pointer. -/
def InOrder (p : Nat) (l : List Expected) : Prop :=
  l.Pairwise (fun a b => stepCount p a.msg.seq ≤ stepCount p b.msg.seq)

theorem InOrder.insertExpected {p : Nat} {e : Expected} {l : List Expected} (h : InOrder p l) :
    InOrder p (insertExpected p e l) := by
  induction l with
  | nil => exact List.pairwise_singleton _ _
  | cons b l ih =>
    obtain ⟨hb, hl⟩ := List.pairwise_cons.mp h
    unfold Machine.insertExpected
    split
    · next hle =>
      refine List.pairwise_cons.mpr ⟨fun a ha => ?_, ih hl⟩
      rcases mem_insertExpected.mp ha with ha | rfl
      · exact hb a ha
      · exact hle
    · next hgt =>
      refine List.pairwise_cons.mpr ⟨fun a ha => ?_, h⟩
      rcases List.mem_cons.mp ha with rfl | ha
      · exact le_of_not_ge hgt
      · exact (le_of_not_ge hgt).trans (hb a ha)

/-- The expected list with the item of `m`'s sequence replaced by `m`. -/
def State.replacedItems (s : State) (m : ConsignMsg) : List Expected :=
  s.xfr.expected.map (fun e => if e.msg.seq = m.seq then { msg := m, mark := consignMark m } else e)

def State.withItems (s : State) (l : List Expected) : State := { s with xfr := { s.xfr with expected := l } }

/-- The item that took a sequence is the one its sequence finds. -/
theorem State.item_replaced {s : State} {m : ConsignMsg} {e : Expected} (h : s.item m.seq = some e) :
    (s.withItems (s.replacedItems m)).item m.seq = some { msg := m, mark := consignMark m } := by
  have hkey : (fun e : Expected => e.msg.seq == m.seq) ∘
      (fun e => if e.msg.seq = m.seq then { msg := m, mark := consignMark m } else e) = fun e => e.msg.seq == m.seq := by
    funext a
    by_cases ha : a.msg.seq = m.seq <;> simp [ha]
  have hseq : e.msg.seq = m.seq := eq_of_beq (List.find?_some (p := fun e : Expected => e.msg.seq == m.seq) h)
  rw [State.item, State.withItems, State.replacedItems, List.find?_map, hkey,
    show s.xfr.expected.find? (fun e => e.msg.seq == m.seq) = some e from h, Option.map_some, if_pos hseq]

theorem State.replaceItem_eq (s : State) (m : ConsignMsg) : s.replaceItem m =
    if s.xfr.cutShort then (s.withItems (s.replacedItems m)).setIntake (s.xfr.intake.remark m)
    else if s.xfr.intake.clearedSeq == some m.seq then (s.withItems (s.replacedItems m)).openIntake
    else s.withItems (s.replacedItems m) := by
  have : (fun e : Expected => if e.msg.seq == m.seq then { msg := m, mark := consignMark m } else e) =
      fun e => if e.msg.seq = m.seq then { msg := m, mark := consignMark m } else e := by
    funext e
    simp only [beq_iff_eq]
  rw [State.replaceItem, this]
  rfl

/-! ## The intake opened against a replaced item (R172) -/

theorem State.firstRead_eq {s : State} (hself : 2 ≤ s.self) (hserv : s.inService = true) : s.firstRead =
    match s.item (seqNext s.xfr.pointer) with
    | some e => if s.pins.sample.tag == some e.msg.tin then s.setIntake (clearedBy e)
      else s.setIntake (.hold 0 1 0 0 s.pins.sample.tag)
    | none => s.setIntake (.hold 0 1 0 0 s.pins.sample.tag) := by
  rw [State.firstRead, if_neg (by simp [hserv, Nat.not_le.mpr (Nat.lt_of_succ_le hself)])]
  rfl

/-- An opened intake with no tin id read at its gate holds. -/
theorem State.openIntake_of_no_tag {s : State} (hself : 2 ≤ s.self) (hserv : s.inService = true)
    (hhead : s.pins.sample.laneHead = true) (htag : s.pins.sample.tag = none) :
    s.openIntake = s.setIntake (.hold 0 1 0 0 none) := by
  rw [State.openIntake, if_pos hhead, State.firstRead_eq (s := s.setIntake .opened) hself hserv]
  split
  · rw [if_neg (by simp [htag]), show (s.setIntake .opened).pins.sample.tag = none from htag]
    rfl
  · rw [show (s.setIntake .opened).pins.sample.tag = none from htag]
    rfl

/-- An opened intake at whose gate the next item's tin stands is CLEARED against it. -/
theorem State.openIntake_of_next {s : State} (hself : 2 ≤ s.self) (hserv : s.inService = true)
    (hhead : s.pins.sample.laneHead = true) {e : Expected} (he : s.item (seqNext s.xfr.pointer) = some e)
    (htag : s.pins.sample.tag = some e.msg.tin) : s.openIntake = s.setIntake (clearedBy e) := by
  rw [State.openIntake, if_pos hhead, State.firstRead_eq (s := s.setIntake .opened) hself hserv,
    show (s.setIntake .opened).item (seqNext (s.setIntake .opened).xfr.pointer) = some e from he]
  exact if_pos (by rw [show (s.setIntake .opened).pins.sample.tag = some e.msg.tin from htag, beq_self_eq_true])

theorem Intake.remark_of_ne {i : Intake} {m : ConsignMsg} (h : i.clearedSeq ≠ some m.seq) : i.remark m = i := by
  refine if_neg fun hc => h ?_
  rw [eq_of_beq (Bool.and_eq_true_iff.mp hc).1]
  rfl

theorem Intake.remark_eq (i : Intake) (m : ConsignMsg) : i.remark m =
    if i = .cleared (.normal m.seq) ∧ consignMark m ≠ none then .cleared (.marked m.seq) else i := by
  simp only [Intake.remark, Bool.and_eq_true, beq_iff_eq, Option.isSome_iff_ne_none]

theorem clearedBy_eq (e : Expected) :
    clearedBy e = .cleared (if e.mark = none then .normal e.msg.seq else .marked e.msg.seq) := by
  unfold clearedBy
  cases e.mark <;> rfl

/-- What a held item replaced does to the intake (R168, R172, R178). -/
theorem State.intake_replaceItem {s : State} {m : ConsignMsg} {e : Expected} (hself : 2 ≤ s.self)
    (hserv : s.inService = true) (he : s.item m.seq = some e) :
    (s.xfr.cutShort = true → (s.replaceItem m).xfr.intake =
      if s.xfr.intake = .cleared (.normal m.seq) ∧ consignMark m ≠ none then .cleared (.marked m.seq) else s.xfr.intake) ∧
    (s.xfr.intake.clearedSeq ≠ some m.seq → (s.replaceItem m).xfr.intake = s.xfr.intake) ∧
    (s.xfr.intake.clearedSeq = some m.seq → s.xfr.cutShort = false →
      (s.pins.sample.laneHead = false → (s.replaceItem m).xfr.intake = .opened) ∧
      (s.pins.sample.laneHead = true → s.pins.sample.tag = none → (s.replaceItem m).xfr.intake = .hold 0 1 0 0 none) ∧
      (s.pins.sample.laneHead = true → s.pins.sample.tag = some m.tin → m.seq = seqNext s.xfr.pointer →
        (s.replaceItem m).xfr.intake = .cleared (if consignMark m = none then .normal m.seq else .marked m.seq))) := by
  have replaced := s.replaceItem_eq m
  refine ⟨fun hcut => ?_, fun hne => ?_, fun heq hcut => ?_⟩
  · rw [replaced, if_pos hcut, ← Intake.remark_eq]
    rfl
  · rw [replaced, Intake.remark_of_ne hne, if_neg (mt eq_of_beq hne)]
    split <;> rfl
  · rw [replaced, if_neg (ne_true_of_eq_false hcut), heq, beq_self_eq_true, if_pos rfl]
    refine ⟨fun hhead => ?_, fun hhead htag => ?_, fun hhead htag hseq => ?_⟩
    · rw [State.openIntake_of_clear (s := s.withItems (s.replacedItems m)) hhead]
      rfl
    · rw [State.openIntake_of_no_tag (s := s.withItems (s.replacedItems m)) hself hserv hhead htag]
      rfl
    · have hitem := State.item_replaced he
      rw [hseq] at hitem
      rw [State.openIntake_of_next (s := s.withItems (s.replacedItems m)) hself hserv hhead hitem htag, clearedBy_eq]
      rfl

/-- A read at the gate changes the intake alone. -/
theorem State.firstRead_setIntake (s : State) : ∃ i, s.firstRead = s.setIntake i := by
  unfold State.firstRead
  split
  · exact ⟨s.xfr.intake, rfl⟩
  · split
    · split <;> exact ⟨_, rfl⟩
    · exact ⟨_, rfl⟩

theorem State.openIntake_setIntake (s : State) : ∃ i, s.openIntake = s.setIntake i := by
  unfold State.openIntake
  split
  · obtain ⟨i, h⟩ := (s.setIntake .opened).firstRead_setIntake
    exact ⟨i, h⟩
  · exact ⟨_, rfl⟩

/-- A held item replaced changes the list and the intake alone. -/
theorem State.replaceItem_setIntake (s : State) (m : ConsignMsg) :
    ∃ i, s.replaceItem m = (s.withItems (s.replacedItems m)).setIntake i := by
  rw [s.replaceItem_eq m]
  split
  · exact ⟨_, rfl⟩
  · split
    · exact State.openIntake_setIntake _
    · exact ⟨s.xfr.intake, rfl⟩

/-! ## The CONSIGN taken (R14, R168) -/

/-- A CONSIGN outside the window, or of no tin, is discarded. -/
theorem State.discardsConsign_iff (s : State) (m : ConsignMsg) : s.discardsConsign m = true ↔
    m.tin.cell = 0 ∨ 12 < m.tin.cell ∨ m.tin.serial = 0 ∨ m.seq = 0 ∨ isAfter m.seq s.xfr.pointer = false ∨
      3 < stepCount s.xfr.pointer m.seq := by
  simp only [State.discardsConsign, Bool.or_eq_true, decide_eq_true_eq, beq_iff_eq, Bool.not_eq_true', or_assoc,
    Nat.lt_one_iff]

theorem State.takeConsign_discarded {s : State} {m : ConsignMsg} (h : s.discardsConsign m = true) : s.takeConsign m = s :=
  if_pos h

theorem State.takeConsign_new {s : State} {m : ConsignMsg} (h : s.discardsConsign m = false) (hi : s.item m.seq = none) :
    s.takeConsign m = s.addItem m := by
  rw [State.takeConsign, h, hi]
  rfl

theorem State.takeConsign_held {s : State} {m : ConsignMsg} {e : Expected} (h : s.discardsConsign m = false)
    (hi : s.item m.seq = some e) : s.takeConsign m = if e.msg.tin = m.tin then s else s.replaceItem m := by
  rw [State.takeConsign, h, hi]
  rfl

/-- Settles O50, by the ways `State.takeConsign` goes. -/
theorem consignTaken : Obligations.ConsignTaken := by
  unfold Obligations.ConsignTaken
  intro src m tag s bad h hup hserv hbad
  have hbad : bad ↔ ConsignMsg.Unidentified m := hbad
  have hsrc := (Sender.cell_allows.mp h.2.2.1).1
  have hself : 2 ≤ (s.latchTag tag).self := by
    show 2 ≤ s.self
    omega
  simp only [exec]
  refine ⟨fun hb => consignMark_of_unidentified (hbad.mp hb), fun hb r hr => ?_, fun hlong => ?_, fun hlen => ?_⟩
  · rw [consignMark_of_identified (mt hbad.mpr hb), headroomNl, hr]
    rfl
  · have hok : consignOk m = false := decide_eq_false (Nat.not_le.mpr hlong)
    refine State.act_next h.live ?_
    rw [hok]
    exact State.Hears.statusBad (s := s.latchTag tag) h _
  · have htake : execConsign src m tag s = .next ((s.latchTag tag).takeConsign m) := by
      refine State.act_next h.live ?_
      rw [show consignOk m = true from decide_eq_true hlen, State.Hears.hear_cell (s := s.latchTag tag) h]
      exact if_pos (Bool.and_eq_true_iff.mpr ⟨decide_eq_true hup, hserv⟩)
    have hdiscard := (s.latchTag tag).discardsConsign_iff m
    rw [htake]
    refine ⟨fun hd => ?_, fun hc1 hc12 hserial hseq hafter hwin => ?_⟩
    · rw [State.takeConsign_discarded (hdiscard.mpr (hd.imp_right fun hd => hd.imp_right fun hd => hd.imp_right .inr))]
    · have hkeep : (s.latchTag tag).discardsConsign m = false := by
        rw [← Bool.not_eq_true, hdiscard]
        rintro (hc | hc | hc | hc | hc | hc)
        · omega
        · omega
        · exact hserial hc
        · exact hseq hc
        · exact absurd hafter (ne_true_of_eq_false hc)
        · exact absurd hwin (Nat.not_le.mpr hc)
      refine ⟨fun hnew => ?_, fun e he hsame => ?_, fun e he hother => ?_⟩
      · rw [State.takeConsign_new hkeep hnew]
        exact ⟨_, rfl, rfl, fun e => mem_insertExpected, fun hord => InOrder.insertExpected hord⟩
      · rw [State.takeConsign_held hkeep he, if_pos hsame]
      · rw [State.takeConsign_held hkeep he, if_neg hother]
        obtain ⟨i, hi⟩ := (s.latchTag tag).replaceItem_setIntake m
        refine ⟨_, rfl, ?_, ?_, State.intake_replaceItem (s := s.latchTag tag) hself hserv he⟩
        · rw [hi]
          rfl
        · rw [hi]
          rfl

end Sys2Proof.Machine
end

/-! # Proofs: the checks of a frame (O12) -/

section
namespace Sys2Proof.Machine

/-! ## Bodies (R1, R16 to R19) -/

@[simp] theorem length_b1 (n : Nat) : (b1 n).length = 1 := rfl
@[simp] theorem length_b2 (n : Nat) : (b2 n).length = 2 := rfl
@[simp] theorem length_b4 (n : Nat) : (b4 n).length = 4 := rfl
@[simp] theorem length_flagField (k : Nat) (l : List Bool) : (flagField k l).length = 1 := rfl
@[simp] theorem length_orderId (i : OrderId) : (OrderId.bytes i).length = 3 := rfl
@[simp] theorem length_tinId (t : TinId) : (TinId.bytes t).length = 3 := rfl

@[simp] theorem length_optCode {α : Type} (code : α → Nat) (o : Option α) : (optCode code o).length = 1 := by
  cases o <;> rfl

theorem length_flatMap_fixed {α : Type} {f : α → List Byte} {k : Nat} (h : ∀ a, (f a).length = k) (l : List α) :
    (l.flatMap f).length = k * l.length := by
  rw [List.length_flatMap, List.map_congr_left fun a _ => h a, List.map_const', List.sum_replicate, smul_eq_mul, mul_comm]

theorem length_window (w : Window) : (Window.bytes w).length = 8 := by simp [Window.bytes]
theorem length_coverItem (c : CoverItem) : (CoverItem.bytes c).length = 3 := rfl
theorem length_changeRec (c : ChangeRec) : (ChangeRec.bytes c).length = 5 := rfl
theorem length_dosedItem (d : DosedItem) : (DosedItem.bytes d).length = 6 := rfl
theorem length_deferItem (d : DeferItem) : (DeferItem.bytes d).length = 7 := rfl

/-! ## The length check (R12) -/

/-- The byte that follows `pre`. -/
theorem byteAt_append {pre post : List Byte} {i n : Nat} (hi : pre.length = i) (hn : n < 256) :
    byteAt (pre ++ (b1 n ++ post)) i = n := by
  subst hi
  rw [byteAt, List.getD_append_right _ _ _ _ le_rfl, Nat.sub_self]
  exact Nat.mod_eq_of_lt hn

theorem length_cellStatus {m : CellStatusMsg} (h : m.windows.length = 4) :
    (CellStatusMsg.bytes m).length = 46 + 3 * m.cover.length + 5 * m.attention.length := by
  simp only [CellStatusMsg.bytes, List.length_append, length_b1, length_b2, length_flagField, length_flatMap_fixed length_window,
    length_flatMap_fixed length_coverItem, length_flatMap_fixed length_changeRec, h]

/-- The bytes of a CELL STATUS between its station and its cover count. -/
def CellStatusMsg.front (m : CellStatusMsg) : List Byte :=
  b1 (CellState.code m.state) ++
    flagField 0x10 [m.pause, m.unset, m.last, m.restarted, m.intakeHold, m.lidWait, m.chuteFull, m.dispatchFull] ++
    b1 m.restartedCount

/-- The bytes of a CELL STATUS between its cover count and its attention count. -/
def CellStatusMsg.middle (m : CellStatusMsg) : List Byte :=
  m.windows.flatMap Window.bytes ++ b2 m.pointer ++ b2 m.backlog ++ b1 m.lidWaitSize

/-- The bytes of a CELL STATUS after its attention count. -/
def CellStatusMsg.tail (m : CellStatusMsg) : List Byte :=
  flagField 0x10 [m.overwrite] ++ b1 m.rxErrors ++ b1 m.sendDrops ++ m.cover.flatMap CoverItem.bytes ++
    m.attention.flatMap ChangeRec.bytes

theorem CellStatusMsg.bytes_eq (m : CellStatusMsg) : CellStatusMsg.bytes m =
    b1 m.station ++ (CellStatusMsg.front m ++ (b1 m.cover.length ++
      (CellStatusMsg.middle m ++ (b1 m.attention.length ++ CellStatusMsg.tail m)))) := by
  simp only [CellStatusMsg.bytes, CellStatusMsg.front, CellStatusMsg.middle, CellStatusMsg.tail, List.append_assoc]

theorem CellStatusMsg.length_middle {m : CellStatusMsg} (h : m.windows.length = 4) :
    (CellStatusMsg.middle m).length = 37 := by
  simp only [CellStatusMsg.middle, List.length_append, length_b1, length_b2, length_flatMap_fixed length_window, h]

/-- A CELL STATUS carries its station and its two counts where its length is checked. -/
theorem lengthOk_cellStatus {m : CellStatusMsg} (hself : m.station < 256) (hcover : m.cover.length ≤ 16)
    (hwin : m.windows.length = 4) (hatt : m.attention.length ≤ 2) :
    lengthOk 0x10 m.station (CellStatusMsg.bytes m) = true := by
  have station : byteAt (CellStatusMsg.bytes m) 0 = m.station := by
    rw [CellStatusMsg.bytes_eq]
    exact byteAt_append (pre := []) rfl hself
  have cover : byteAt (CellStatusMsg.bytes m) 4 = m.cover.length := by
    rw [CellStatusMsg.bytes_eq, ← List.append_assoc]
    exact byteAt_append rfl (by omega)
  have attention : byteAt (CellStatusMsg.bytes m) 42 = m.attention.length := by
    rw [CellStatusMsg.bytes_eq, ← List.append_assoc, ← List.append_assoc, ← List.append_assoc]
    refine byteAt_append ?_ (by omega)
    rw [List.length_append, CellStatusMsg.length_middle hwin]
    rfl
  simp [lengthOk, station, cover, attention, length_cellStatus hwin, hcover, hatt]
  omega

theorem length_consign (m : ConsignMsg) :
    (ConsignMsg.bytes m).length = 21 + 6 * m.dosed.length + 7 * m.deferral.length := by
  simp only [ConsignMsg.bytes, List.length_append, length_b1, length_b2, length_b4, length_flagField, length_optCode,
    length_orderId, length_tinId, length_flatMap_fixed length_dosedItem, length_flatMap_fixed length_deferItem]

/-- The bytes of a CONSIGN before its two counts. -/
def ConsignMsg.head (m : ConsignMsg) : List Byte :=
  b2 m.seq ++ TinId.bytes m.tin ++ OrderId.bytes m.order ++ b2 m.base.toNat ++ b1 m.size ++ b1 m.lid ++
    optCode ShakeClass.code m.shake ++ b4 m.total ++ b1 (TinStatus.code m.status) ++ flagField 0x20 [m.raised, m.omitted]

/-- The bytes of a CONSIGN after its two counts. -/
def ConsignMsg.tail (m : ConsignMsg) : List Byte :=
  m.dosed.flatMap DosedItem.bytes ++ m.deferral.flatMap DeferItem.bytes

theorem ConsignMsg.bytes_eq (m : ConsignMsg) : ConsignMsg.bytes m =
    ConsignMsg.head m ++ (b1 m.dosed.length ++ (b1 m.deferral.length ++ ConsignMsg.tail m)) := by
  simp only [ConsignMsg.bytes, ConsignMsg.head, ConsignMsg.tail, List.append_assoc]

theorem ConsignMsg.length_head (m : ConsignMsg) : (ConsignMsg.head m).length = 19 := by
  simp only [ConsignMsg.head, List.length_append, length_b1, length_b2, length_b4, length_flagField, length_optCode,
    length_orderId, length_tinId]

/-- A CONSIGN carries its two counts where its length is checked. -/
theorem lengthOk_consign {m : ConsignMsg} (h : m.dosed.length + m.deferral.length ≤ 12) (sender : Nat) :
    lengthOk 0x20 sender (ConsignMsg.bytes m) = true := by
  have dosed : byteAt (ConsignMsg.bytes m) 19 = m.dosed.length := by
    rw [ConsignMsg.bytes_eq]
    exact byteAt_append (ConsignMsg.length_head m) (by omega)
  have deferral : byteAt (ConsignMsg.bytes m) 20 = m.deferral.length := by
    rw [ConsignMsg.bytes_eq, ← List.append_assoc]
    exact byteAt_append (by rw [List.length_append, (ConsignMsg.length_head m)]; rfl) (by omega)
  simp [lengthOk, dosed, deferral, length_consign, h]
  omega

/-- What this cell sends, as R16 to R19 limit the lists it carries. -/
structure Notice.Sendable (n : Notice) (sender : Nat) : Prop where
  status : ∀ m, n = .cellStatus m →
    m.station = sender ∧ m.cover.length ≤ 16 ∧ m.windows.length = 4 ∧ m.attention.length ≤ 2
  consign : ∀ m, n = .consign m → m.dosed.length + m.deferral.length ≤ 12

/-- The body of a notice this cell sends has the length its kind asks for. -/
theorem Notice.Sendable.lengthOk {n : Notice} {self : Nat} (h : Notice.Sendable n self) (hself : self ≤ 12) :
    lengthOk n.kind self n.body = true := by
  cases n with
  | jobStatus m => simp [Machine.lengthOk, Notice.kind, Notice.body, JobStatusMsg.bytes]
  | offer id est => rfl
  | claim id est committed => rfl
  | withdraw id => rfl
  | cellStatus m =>
    obtain ⟨rfl, hcover, hwin, hatt⟩ := h.status m rfl
    exact lengthOk_cellStatus (by omega) hcover hwin hatt
  | consign m => exact lengthOk_consign (h.consign m rfl) self
  | tinReport m => simp [Machine.lengthOk, Notice.kind, Notice.body, TinReportMsg.bytes]
  | stockReply m => simp [Machine.lengthOk, Notice.kind, Notice.body, StockReplyMsg.bytes]
  | lidLoad target size lid count => rfl

/-- A body that passes the length check of a kind this cell sends fits a frame. -/
theorem Notice.Sendable.length_le {n : Notice} {self : Nat} (h : Notice.Sendable n self) : n.body.length ≤ 240 := by
  cases n with
  | cellStatus m =>
    obtain ⟨-, hcover, hwin, hatt⟩ := h.status m rfl
    rw [Notice.body, length_cellStatus hwin]
    omega
  | consign m =>
    have := h.consign m rfl
    rw [Notice.body, length_consign]
    omega
  | _ => simp [Notice.body, JobStatusMsg.bytes, TinReportMsg.bytes, StockReplyMsg.bytes]

/-! ## The frame sent (R1) -/

/-- The frame that puts a notice of station `self` on the line. -/
def Notice.rawFrame (n : Notice) (self : Nat) : RawFrame :=
  { cls := BitVec.ofNat 2 n.cls, sender := BitVec.ofNat 5 self, kind := BitVec.ofNat 8 n.kind,
    len := BitVec.ofNat 8 n.body.length, body := n.body,
    crc := crc16 (coveredBits (BitVec.ofNat 2 n.cls) (BitVec.ofNat 5 self) (BitVec.ofNat 8 n.kind)
      (BitVec.ofNat 8 n.body.length) n.body),
    whole := true }

theorem Notice.frame_eq (n : Notice) (self : Nat) : n.frame self =
    false :: coveredBits (n.rawFrame self).cls (n.rawFrame self).sender (n.rawFrame self).kind (n.rawFrame self).len
      (n.rawFrame self).body ++ bitsOf (n.rawFrame self).crc := by
  simp only [Notice.frame, frameBits, Notice.rawFrame]

theorem Notice.kind_lt (n : Notice) : n.kind < 256 := by
  cases n <;> simp [Notice.kind]

theorem Notice.rawFrame_fields (n : Notice) {self : Nat} (h : self ≤ 12) :
    (n.rawFrame self).cls.toNat = n.cls ∧ (n.rawFrame self).sender.toNat = self ∧ (n.rawFrame self).kind.toNat = n.kind := by
  have hcls := n.cls_le
  have hkind := n.kind_lt
  simp only [Notice.rawFrame, BitVec.toNat_ofNat]
  omega

theorem Notice.rawFrame_good (n : Notice) (self : Nat) (h : n.body.length ≤ 240) :
    RawFrame.bad (n.rawFrame self) = false := by
  have hlen : n.body.length % 256 = n.body.length := Nat.mod_eq_of_lt (by omega)
  simp [RawFrame.bad, Notice.rawFrame, hlen, h]

/-- The table's row for a kind that a cell sends. -/
theorem Notice.kindRow_kind (n : Notice) : ∃ k, kindRow n.kind = some (n.cls, k) ∧ ∀ i, 1 ≤ i → i ≤ 12 → k.allows i = true := by
  cases n with
  | lidLoad target size lid count => exact ⟨.either, rfl, fun i h1 h12 => by simp [Sender.allows, h1, h12]⟩
  | _ => exact ⟨.cell, rfl, fun i h1 h12 => by simp [Sender.allows, h1, h12]⟩

theorem Notice.rawFrame_fits (n : Notice) {self other : Nat} (h1 : 1 ≤ self) (h12 : self ≤ 12) (ho : other ≠ self) :
    RawFrame.fits (n.rawFrame self) other = true := by
  obtain ⟨hcls, hsender, hkind⟩ := n.rawFrame_fields h12
  obtain ⟨k, hrow, hallow⟩ := n.kindRow_kind
  simp only [RawFrame.fits, hkind, hrow, hcls, hsender, hallow self h1 h12, beq_self_eq_true, Bool.true_and, bne_iff_ne]
  exact ho.symm

/-! ## The frame heard (R11, R12) -/

/-- A frame that fails a check of R11 or R12 is discarded, but for an ORDER of a wrong length with its id. -/
theorem RawFrame.discarded_iff (f : RawFrame) (self : Nat) : RawFrame.discarded f self = true ↔
    RawFrame.bad f = true ∨ RawFrame.fits f self = false ∨
    (lengthOk f.kind.toNat f.sender.toNat f.body = false ∧ ¬ (f.kind = 0x01 ∧ 3 ≤ f.body.length)) := by
  simp only [RawFrame.discarded, Bool.or_eq_true, Bool.not_eq_true', Bool.and_eq_true, Bool.and_eq_false_imp,
    beq_iff_eq, decide_eq_false_iff_not, not_and, or_assoc]

theorem RawFrame.fits_eq_false {f : RawFrame} {self : Nat}
    (h : kindRow f.kind.toNat = none ∨ f.sender.toNat = self ∨
      ∃ c k, kindRow f.kind.toNat = some (c, k) ∧ (f.cls.toNat ≠ c ∨ k.allows f.sender.toNat = false)) :
    RawFrame.fits f self = false := by
  unfold RawFrame.fits
  split
  · rfl
  · next c k hrow =>
    rcases h with h | h | ⟨c', k', hrow', h⟩
    · cases hrow.symm.trans h
    · simp [h]
    · cases hrow.symm.trans hrow'
      rcases h with h | h <;> simp [h]

theorem RawFrame.bad_of {f : RawFrame} (h : 240 < f.len.toNat ∨ f.whole = false ∨
    crc16 (coveredBits f.cls f.sender f.kind f.len f.body) ≠ f.crc) : RawFrame.bad f = true := by
  rcases h with h | h | h <;> simp [RawFrame.bad, h]

/-- Settles O12: the checks a frame heard can fail, and that a frame sent fails none. -/
theorem frameChecks : Obligations.FrameChecks := by
  unfold Obligations.FrameChecks
  simp only [exec]
  refine ⟨fun f s hs hl => ⟨fun hbad => ?_, fun hgood hfits hkind hlen => ?_⟩, fun n self other h1 h12 ho hst hco => ?_⟩
  · refine State.act_next hs (if_pos ?_)
    rw [hl, Bool.true_and, RawFrame.discarded_iff]
    rcases hbad with h | h | h | h | h | h | ⟨h, hor⟩
    · exact .inl (RawFrame.bad_of (.inl h))
    · exact .inl (RawFrame.bad_of (.inr (.inl h)))
    · exact .inl (RawFrame.bad_of (.inr (.inr h)))
    · exact .inr (.inl (RawFrame.fits_eq_false (.inl h)))
    · exact .inr (.inl (RawFrame.fits_eq_false (.inr (.inl h))))
    · exact .inr (.inl (RawFrame.fits_eq_false (.inr (.inr h))))
    · exact .inr (.inr ⟨h, fun ⟨hk, h3⟩ => hor.elim (fun hk' => hk' hk) (fun h3' => absurd h3 (Nat.not_le.mpr h3'))⟩)
  · refine State.act_next hs (if_neg fun h => ?_)
    rcases (RawFrame.discarded_iff f s.self).mp (Bool.and_eq_true_iff.mp h).2 with h | h | ⟨-, h⟩
    · exact absurd h (ne_true_of_eq_false hgood)
    · exact absurd hfits (ne_true_of_eq_false h)
    · exact h ⟨hkind, hlen⟩
  · have hsend : Notice.Sendable n self := ⟨hst, hco⟩
    obtain ⟨hcls, hsender, hkind⟩ := n.rawFrame_fields h12
    refine ⟨hsend.length_le, n.rawFrame self, ?_, ?_, hcls, hsender, hkind, ?_, ?_⟩
    · exact n.frame_eq self
    · rw [Notice.rawFrame]
    · rw [Notice.rawFrame]
    refine Bool.eq_false_iff.mpr fun h => ?_
    rcases (RawFrame.discarded_iff _ other).mp h with h | h | ⟨h, -⟩
    · exact absurd h (ne_true_of_eq_false (n.rawFrame_good self hsend.length_le))
    · exact absurd (n.rawFrame_fits h1 h12 ho) (ne_true_of_eq_false h)
    · rw [hkind, hsender] at h
      exact absurd (hsend.lengthOk h12) (ne_true_of_eq_false h)

end Sys2Proof.Machine
end

/-! # Proofs: the order book's judgement of an order (O23, validation and eligibility) -/

section
namespace Sys2Proof.Machine

/-! ## Validation (R53, R80) -/

/-- The checks of R53 on a readable order, in their order. -/
theorem validate_of_readable {m : OrderMsg} (h : m.lengthOk = true) : validate m =
    if m.formula.length = 0 ∨ 12 < m.formula.length then some .entryCount
    else if m.size = 0 ∨ 5 < m.size then some .size
    else if m.count = 0 ∨ 24 < m.count then some .tinCount
    else if ∃ f ∈ m.formula, f.q = 0 ∨ 200000 < f.q then some .quantity
    else if ¬ (m.formula.map FormulaItem.colorant).Nodup then some .duplicateColorant
    else if headroomTest m = false then some .headroom
    else none := by
  simp only [validate, h, Bool.not_true, Bool.false_eq_true, if_false, Bool.or_eq_true, decide_eq_true_eq,
    Option.isNone_iff_eq_none, sizeRow_eq_none, List.any_eq_true, beq_iff_eq, hasDuplicate_iff, Bool.not_eq_true']

theorem validate_length_iff (m : OrderMsg) : validate m = some .length ↔ m.lengthOk = false := by
  cases h : m.lengthOk with
  | false => simp [validate, h]
  | true =>
    rw [validate_of_readable h]
    repeat' split
    all_goals simp

/-- The headroom test on the nominal volumes (R80). -/
theorem headroomTest_iff {m : OrderMsg} {r : SizeRow} (h : sizeRow m.size = some r) : headroomTest m = false ↔
    r.headroom * 4000 < (m.formula.map (fun f => f.q * r.nominal)).sum * 5 := by
  have hnominal : nominalOf m.size = r.nominal := by rw [nominalOf, h]; rfl
  have hroom : headroomNl m.size / 1000 = r.headroom := by
    rw [headroomNl, h]
    exact Nat.mul_div_cancel _ (by decide)
  simp only [headroomTest, formulaNl, nominalNl, hnominal, hroom, decide_eq_false_iff_not, Nat.not_le]

/-! ## Eligibility (R55) -/

theorem permits_iff (ws : List Window) (base : Code16) :
    permits ws base = true ↔ ∃ lid shake, verdict ws base = .permit lid shake := by
  unfold permits
  cases verdict ws base <;> simp

theorem coversColorant_iff (l : List CoverItem) (colorant : Nat) : coversColorant l colorant = true ↔
    ∃ i ∈ l, i.colorant = colorant ∧ LevelClass.drawable i.cls = true ∧ i.usable = true := by
  simp only [coversColorant, List.any_eq_true, Bool.and_eq_true, beq_iff_eq, and_assoc]

/-- The colorants this cell holds to draw from. -/
theorem State.covers_own (s : State) (colorant : Nat) : coversColorant s.cover colorant = true ↔
    ∃ n < 16, ∃ c, s.fitted n = some c ∧ c.colorant = colorant ∧ LevelClass.drawable (s.levelClass n) = true ∧
      s.usable n = true := by
  rw [coversColorant_iff]
  constructor
  · rintro ⟨i, hi, hcol, hdraw, huse⟩
    obtain ⟨n, hn, hitem⟩ := List.mem_filterMap.mp hi
    obtain ⟨c, hc, rfl⟩ := Option.map_eq_some_iff.mp hitem
    exact ⟨n, List.mem_range.mp hn, c, hc, hcol, hdraw, huse⟩
  · rintro ⟨n, hn, c, hc, hcol, hdraw, huse⟩
    exact ⟨_, List.mem_filterMap.mpr ⟨n, List.mem_range.mpr hn, by rw [State.coverItem, hc]; rfl⟩, hcol, hdraw, huse⟩

theorem Station.presentStatus_eq_some (e : Station) (p : CellStatusMsg) :
    e.presentStatus = some p ↔ e.presence = .present ∧ e.status = some p := by
  simp [Station.presentStatus]

theorem holdsDownstream_iff (p : CellStatusMsg) (base : Code16) (colorant : Nat) : holdsDownstream p base colorant = true ↔
    (∃ lid shake, verdict p.windows base = .permit lid shake) ∧
    ∃ i ∈ p.cover, i.colorant = colorant ∧ LevelClass.drawable i.cls = true ∧ i.usable = true := by
  rw [holdsDownstream, Bool.and_eq_true, permits_iff, coversColorant_iff]

theorem State.covered_iff (s : State) (base : Code16) (colorant : Nat) : s.covered base colorant = true ↔
    coversColorant s.cover colorant = true ∨ ∃ e ∈ s.stations, s.self < e.number ∧ e.presence = .present ∧
      ∃ p, e.status = some p ∧ holdsDownstream p base colorant = true := by
  rw [State.covered, Bool.or_eq_true, List.any_eq_true]
  refine or_congr_right (exists_congr fun e => and_congr_right fun _ => ?_)
  rw [Bool.and_eq_true, decide_eq_true_eq]
  refine and_congr_right fun _ => ?_
  cases h : e.presentStatus with
  | none =>
    simp only [Bool.false_eq_true, false_iff]
    rintro ⟨hp, p, hs, -⟩
    cases h.symm.trans ((e.presentStatus_eq_some p).mpr ⟨hp, hs⟩)
  | some p =>
    obtain ⟨hp, hs⟩ := (e.presentStatus_eq_some p).mp h
    simp [hp, hs]

theorem State.passable_iff (s : State) (n : Nat) : s.passable n = true ↔ ∃ e p, s.peer n = some e ∧ e.presence = .present ∧
    e.status = some p ∧ p.state ≠ .configFault ∧ p.state ≠ .jammed := by
  unfold State.passable
  split
  · next m hm =>
    obtain ⟨e, he, hm⟩ := Option.bind_eq_some_iff.mp hm
    obtain ⟨hp, hs⟩ := (e.presentStatus_eq_some m).mp hm
    simp [he, hp, hs]
  · next hnone =>
    simp only [Bool.false_eq_true, false_iff]
    rintro ⟨e, p, he, hp, hs, -⟩
    have := (e.presentStatus_eq_some p).mpr ⟨hp, hs⟩
    simp [he, this] at hnone

theorem State.wayOpen_iff (s : State) : s.wayOpen = true ↔ ∃ l, s.lastCell = some l ∧ ∀ n < 32, s.self < n → n ≤ l →
    ∃ e p, s.peer n = some e ∧ e.presence = .present ∧ e.status = some p ∧ p.state ≠ .configFault ∧ p.state ≠ .jammed := by
  unfold State.wayOpen
  split
  · next h => simp [h]
  · next l h =>
    simp only [h, Option.some.injEq, List.all_eq_true, List.mem_range, exists_eq_left']
    refine forall_congr' fun n => forall_congr' fun _ => ?_
    rw [← State.passable_iff]
    by_cases hn : s.self < n <;> by_cases hl : n ≤ l <;> simp [hn, hl]

/-! ## The line (R23, R54) -/

/-- An entry that makes its station the end of the line. -/
theorem Station.claimsLast_iff (e : Station) :
    e.claimsLast = true ↔ e.presence ≠ .gone ∧ ∃ p, e.status = some p ∧ p.last = true := by
  unfold Station.claimsLast
  cases e.status <;> simp

theorem State.lastCell_own {s : State} (h : s.cfg.last = true) : s.lastCell = some s.self := if_pos h

theorem State.lastCell_eq {s : State} (h : s.cfg.last = false) :
    s.lastCell = ((s.stations.filter Station.claimsLast).map Station.number).min? := by
  rw [State.lastCell, h]
  rfl

theorem State.lastCell_none {s : State} (h : s.cfg.last = false) :
    s.lastCell = none ↔ ∀ e ∈ s.stations, ¬ e.claimsLast = true := by
  rw [State.lastCell_eq h, List.min?_eq_none_iff, List.map_eq_nil_iff, List.filter_eq_nil_iff]

theorem State.lastCell_some {s : State} (h : s.cfg.last = false) (l : Nat) : s.lastCell = some l ↔
    (∃ e ∈ s.stations, e.number = l ∧ e.claimsLast = true) ∧ ∀ e ∈ s.stations, e.claimsLast = true → l ≤ e.number := by
  rw [State.lastCell_eq h, List.min?_eq_some_iff]
  simp only [List.mem_map, List.mem_filter]
  refine and_congr (exists_congr fun e => ?_) ⟨fun hle e he hlast => hle _ ⟨e, ⟨he, hlast⟩, rfl⟩, fun hle b hb => ?_⟩
  · rw [and_assoc, and_comm (a := e.number = l)]
  · obtain ⟨e, ⟨he, hlast⟩, rfl⟩ := hb
    exact hle e he hlast

theorem State.answersInvalid_iff (s : State) : s.answersInvalid = true ↔ ∀ e ∈ s.stations, e.number < s.self →
    e.presence = .present → ∀ p, e.status = some p → p.state = .configFault := by
  rw [State.answersInvalid, List.all_eq_true]
  refine forall_congr' fun e => forall_congr' fun _ => ?_
  cases h : e.presentStatus with
  | none =>
    simp only [Bool.and_false, Bool.not_false, true_iff]
    intro _ hp p hs
    cases h.symm.trans ((e.presentStatus_eq_some p).mpr ⟨hp, hs⟩)
  | some p =>
    obtain ⟨hp, hs⟩ := (e.presentStatus_eq_some p).mp h
    by_cases hn : e.number < s.self <;> simp [hp, hs, hn]

end Sys2Proof.Machine
end

/-! # Proofs: ORDER (O23) -/

section
namespace Sys2Proof.Machine

/-! ## The ids in the book -/

/-- The ids of the book's entries, in its order. -/
def State.ids (s : State) : List OrderId := s.book.map OrderEntry.id

theorem State.ids_map {s : State} {f : OrderEntry → OrderEntry} (hf : ∀ e, (f e).id = e.id) :
    State.ids { s with book := s.book.map f } = s.ids := by
  rw [State.ids, List.map_map, show OrderEntry.id ∘ f = OrderEntry.id from funext hf]
  rfl

theorem State.ids_modEntry (s : State) (i : OrderId) {f : OrderEntry → OrderEntry} (hf : ∀ e, (f e).id = e.id) :
    (s.modEntry i f).ids = s.ids :=
  State.ids_map fun e => by split <;> simp [hf]

theorem State.ids_placeJobStatus (s : State) (i : OrderId) : (s.placeJobStatus i).ids = s.ids := by
  unfold State.placeJobStatus
  split
  · rfl
  · split
    · exact State.ids_modEntry _ i (f := OrderEntry.statusPlaced) fun _ => rfl
    · rfl

theorem State.ids_retestJob (s : State) (i : OrderId) : (s.retestJob i).ids = s.ids := by
  unfold State.retestJob
  split
  · rfl
  · split
    · rw [State.ids_placeJobStatus]
      exact s.ids_modEntry i (f := OrderEntry.activated) fun _ => rfl
    · rfl

theorem State.ids_retestBlocked (s : State) : s.retestBlocked.ids = s.ids := by
  rw [s.retestBlocked_eq]
  generalize s.blockedIds = l
  induction l generalizing s with
  | nil => rfl
  | cons i l ih => rw [List.foldl_cons, ih, s.ids_retestJob]

theorem State.ids_restartRepeats (s : State) (n : Nat) : (s.restartRepeats n).ids = s.ids :=
  State.ids_map (OrderEntry.keepsOrders_restartedFor n).keeps_id

theorem State.ids_refresh (s : State) (n : Nat) (m : Option CellStatusMsg) : (s.refresh n m).ids = s.ids := by
  have hrefreshed : (s.refreshed n m).ids = s.ids := by
    unfold State.refreshed
    split <;> rfl
  unfold State.refresh
  dsimp only
  split
  · rw [State.ids_restartRepeats, hrefreshed]
  · exact hrefreshed
  · rw [State.ids_retestBlocked, hrefreshed]
  · rw [State.ids_retestBlocked, State.ids_restartRepeats, hrefreshed]

theorem State.entry_eq_none {s : State} {i : OrderId} : s.entry i = none ↔ i ∉ s.ids := by
  simp only [State.entry, State.ids, List.find?_eq_none, beq_iff_eq, List.mem_map, not_exists, not_and]

theorem State.length_ids (s : State) : s.ids.length = s.book.length := List.length_map _

/-- What an ORDER finds of the book it refreshes. -/
theorem State.order_refresh (s : State) (src : Nat) (i : OrderId) :
    ((s.refresh src none).entry i = none ↔ s.entry i = none) ∧ (s.refresh src none).book.length = s.book.length ∧
    (s.refresh src none).now = s.now ∧ (s.refresh src none).self = s.self := by
  refine ⟨by rw [State.entry_eq_none, State.entry_eq_none, State.ids_refresh],
    by rw [← State.length_ids, State.ids_refresh, State.length_ids], ?_, s.self_refresh src none⟩
  obtain ⟨t, b, k, h⟩ := s.refresh_frame src none
  rw [h]

/-! ## Room in the book (R52) -/

theorem evictable_iff (st : OrderState) : OrderState.evictable st = true ↔
    st = .placedElsewhere ∨ st = .unplaced ∨ st = .invalid ∨ st = .cancelled := by
  cases st <;> simp [OrderState.evictable]

theorem evict_eq_none {l : List OrderEntry} (h : ∀ e ∈ l, OrderState.evictable e.st = false) : evict l = none := by
  induction l with
  | nil => rfl
  | cons e l ih =>
    obtain ⟨he, hl⟩ := List.forall_mem_cons.mp h
    simp [evict, he, ih hl]

theorem evict_append {e : OrderEntry} {pre post : List OrderEntry} (hpre : ∀ a ∈ pre, OrderState.evictable a.st = false)
    (he : OrderState.evictable e.st = true) : evict (pre ++ e :: post) = some (pre ++ post) := by
  induction pre with
  | nil => simp [evict, he]
  | cons a pre ih =>
    obtain ⟨ha, hpre⟩ := List.forall_mem_cons.mp hpre
    simp [evict, ha, ih hpre]

/-- An ORDER that is booked is answered where it is INVALID (R52, R54). -/
theorem State.takeOrder_booked {s : State} {m : OrderMsg} {e : OrderEntry} (h : s.entry m.id = some e) :
    s.takeOrder m = if e.st = .invalid then s.answerInvalid e else s := by
  rw [State.takeOrder, h]
  simp only [beq_iff_eq]

theorem State.takeOrder_room {s : State} {m : OrderMsg} (h : s.entry m.id = none) (hl : s.book.length < 32) :
    s.takeOrder m = s.bookNew m := by
  have hroom : makeRoom s.book = some s.book := if_pos hl
  simp only [State.takeOrder, h, hroom]

/-- A full book from which no entry may go counts the ORDER as an error. -/
theorem State.takeOrder_refused {s : State} {m : OrderMsg} (h : s.entry m.id = none) (hl : 32 ≤ s.book.length)
    (he : evict s.book = none) : s.takeOrder m = s.rxError := by
  have hroom : makeRoom s.book = none := (if_neg (Nat.not_lt.mpr hl)).trans he
  simp only [State.takeOrder, h, hroom]

/-- A full book loses an entry for the ORDER. -/
theorem State.takeOrder_evicts {s : State} {m : OrderMsg} {l : List OrderEntry} (h : s.entry m.id = none)
    (hl : 32 ≤ s.book.length) (he : evict s.book = some l) : s.takeOrder m = State.bookNew { s with book := l } m := by
  have hroom : makeRoom s.book = some l := (if_neg (Nat.not_lt.mpr hl)).trans he
  simp only [State.takeOrder, h, hroom]

/-! ## A new entry (R53, R54, R56, R57) -/

/-- The answer to an INVALID order, where this cell answers for the line. -/
theorem State.bus_answerInvalid (s : State) (e : OrderEntry) :
    s.answerInvalid e = { s with bus := (s.answerInvalid e).bus } ∧
    (s.answersInvalid = false → s.answerInvalid e = s) ∧
    (s.answersInvalid = true → s.answerInvalid e = s.place (.jobStatus (invalidMsg e))) := by
  unfold State.answerInvalid
  refine ⟨?_, fun h => if_neg (ne_true_of_eq_false h), fun h => if_pos h⟩
  split <;> rfl

/-- The entry of an order that fails its validation. -/
def invalidEntry (m : OrderMsg) (now : Nat) (r : Reason) : OrderEntry :=
  { newEntry m now with st := .invalid, reason := some r, retention := some 0 }

theorem State.bookNew_invalid {s : State} {m : OrderMsg} {r : Reason} (h : validate m = some r) :
    s.bookNew m = (s.pushEntry (invalidEntry m s.now r)).answerInvalid (invalidEntry m s.now r) := by
  rw [State.bookNew, h]
  rfl

/-- An order held INVALID stands at the end of the book, and is answered where this cell answers for the line. -/
theorem State.bookNew_invalid_fields {s : State} {m : OrderMsg} {r : Reason} (h : validate m = some r) :
    s.bookNew m = { s with book := s.book ++ [invalidEntry m s.now r], bus := (s.bookNew m).bus } ∧
    (s.answersInvalid = false → (s.bookNew m).bus = s.bus) ∧
    (s.answersInvalid = true → (s.bookNew m).bus = (s.place (.jobStatus (invalidMsg (invalidEntry m s.now r)))).bus) := by
  rw [State.bookNew_invalid h]
  obtain ⟨hframe, hsilent, hanswer⟩ := State.bus_answerInvalid (s.pushEntry (invalidEntry m s.now r)) (invalidEntry m s.now r)
  refine ⟨hframe, fun ha => ?_, fun ha => ?_⟩
  · rw [hsilent ha]
    rfl
  · rw [hanswer ha]
    rfl

theorem newEntry_of_readable {m : OrderMsg} (h : m.lengthOk = true) (now : Nat) : newEntry m now = newBooking m now 0 := by
  rw [newEntry, h]
  rfl

/-- An ORDER that could not be read leaves its id alone. -/
theorem newEntry_of_unreadable {m : OrderMsg} (h : m.lengthOk = false) (now : Nat) :
    newEntry m now = { newBooking m now 0 with order := none } := by
  rw [newEntry, h]
  rfl

/-- The per-tin figure is 40 s and the 4 s steps that the nominal volume needs (R56). -/
theorem perTinOf_eq {m : OrderMsg} {c : Nat} (h1 : c * 4000 * 1000 < formulaNl m.formula m.size + 4000 * 1000)
    (h2 : formulaNl m.formula m.size ≤ c * 4000 * 1000) : perTinOf m = 40 + c := by
  rw [perTinOf, ceilDiv, ceilDiv]
  omega

theorem State.offers_iff (s : State) (m : OrderMsg) : s.offers m = true ↔
    s.dck.cell = .run ∧ s.eligible m = true ∧ s.openJobs + s.pendingOffers < 8 := by
  rw [State.offers, Bool.and_eq_true, Bool.and_eq_true, decide_eq_true_iff, State.running, beq_iff_eq, and_assoc]
  exact Iff.rfl

/-- A valid order is offered for where R57 allows it. -/
theorem State.bookNew_valid {s : State} {m : OrderMsg} (hlen : m.lengthOk = true) (h : validate m = none) :
    (s.offers m = true → s.bookNew m = { s.place (.offer m.id (s.estimate m.count (perTinOf m))) with
      book := s.book ++ [{ newBooking m s.now (perTinOf m) with
        ownEst := some (s.estimate m.count (perTinOf m))
        offers := [{ station := s.self, est := s.estimate m.count (perTinOf m) }] }] }) ∧
    (s.offers m = false → s.bookNew m = { s with book := s.book ++ [newBooking m s.now (perTinOf m)] }) := by
  unfold State.bookNew
  rw [h]
  simp only [newEntry_of_readable hlen]
  exact ⟨fun ho => by rw [if_pos ho]; rfl, fun ho => by rw [if_neg (ne_true_of_eq_false ho)]; rfl⟩

/-- Whatever becomes of it, a new order stands at the end of the book. -/
theorem State.book_bookNew {s : State} {m : OrderMsg} (hlen : m.lengthOk = true) :
    ∃ n, (s.bookNew m).book = s.book ++ [n] ∧ n.id = m.id ∧ n.order = some m := by
  cases h : validate m with
  | some r =>
    rw [(State.bookNew_invalid_fields h).1, invalidEntry, newEntry_of_readable hlen]
    exact ⟨_, rfl, rfl, rfl⟩
  | none =>
    obtain ⟨hoffer, hsilent⟩ := State.bookNew_valid (s := s) hlen h
    cases ho : s.offers m with
    | true =>
      rw [hoffer ho]
      exact ⟨_, rfl, rfl, rfl⟩
    | false =>
      rw [hsilent ho]
      exact ⟨_, rfl, rfl, rfl⟩

/-! ## The ORDER heard -/

/-- An ORDER refreshes its terminal's entry; one of bad length is counted; the book takes it in service (log 37). -/
theorem State.Hears.exec_order {s : State} {src : Nat} (h : s.Hears .terminal src) (m : OrderMsg) :
    exec (.order src m) s = .next (State.booked (if m.lengthOk then s.refresh src none else (s.refresh src none).rxError)
      fun s => s.takeOrder m) := by
  simp only [exec]
  exact State.act_next h.live (h.hear_terminal _)

/-- An ORDER heard in service is taken by the book. -/
theorem State.Hears.exec_order_service {s : State} {src : Nat} (h : s.Hears .terminal src) (hserv : s.inService = true)
    (m : OrderMsg) : exec (.order src m) s =
      .next (State.takeOrder (if m.lengthOk then s.refresh src none else (s.refresh src none).rxError) m) := by
  rw [h.exec_order m]
  refine congrArg _ (if_pos ?_)
  split
  · rw [State.inService_refresh, hserv]
  · exact (State.inService_refresh s src none).trans hserv

/-- An ORDER of an id that is booked leaves the book as it is. -/
theorem State.takeOrder_known {s : State} {m : OrderMsg} {e : OrderEntry} (h : s.entry m.id = some e) :
    (e.st ≠ .invalid ∨ s.answersInvalid = false → s.takeOrder m = s) ∧
    (e.st = .invalid → s.answersInvalid = true → s.takeOrder m = s.place (.jobStatus (invalidMsg e))) := by
  rw [State.takeOrder_booked h]
  obtain ⟨-, hsilent, hanswer⟩ := s.bus_answerInvalid e
  refine ⟨fun hno => ?_, fun hst ha => by rw [if_pos hst, hanswer ha]⟩
  split
  · next hst => exact hsilent (hno.resolve_left (not_not.mpr hst))
  · rfl

/-! ## Validation, eligibility, the line and the backlog -/

/-- The first check of a chain decides its own reason, where no later one gives it. -/
theorem reason_iff {c : Prop} [Decidable c] {r : Reason} {o x : Option Reason} (h : o = if c then some r else x)
    (hx : x ≠ some r) : o = some r ↔ c := by
  rw [h]
  split
  · next hc => simp [hc]
  · next hc => simp [hc, hx]

theorem State.eligible_iff (s : State) (m : OrderMsg) : s.eligible m = true ↔
    (∃ lid shake, verdict s.windows m.base = .permit lid shake) ∧
    (∀ f ∈ m.formula, s.covered m.base f.colorant = true) ∧ s.wayOpen = true := by
  rw [State.eligible, Bool.and_eq_true, Bool.and_eq_true, permits_iff, List.all_eq_true, and_assoc]

theorem State.eligibleEntry_iff (s : State) (e : OrderEntry) :
    s.eligibleEntry e = true ↔ ∃ m, e.order = some m ∧ s.eligible m = true := by
  unfold State.eligibleEntry
  cases e.order <;> simp

/-- What an entry adds to the backlog is fixed by R56. -/
theorem OrderEntry.backlog_unique {w : OrderEntry → Nat} (hw : ∀ e : OrderEntry, (e.openJob = false → w e = 0) ∧
    ∀ j, e.openJob = true → e.job = some j →
      w e = e.perTin * ((e.tinCount + j.remakes - j.loaded) + (j.loaded - j.done - j.rejected - j.lost))) :
    w = OrderEntry.backlog := by
  funext e
  obtain ⟨hclosed, hopen⟩ := hw e
  obtain ⟨hclosed', hopen'⟩ := e.backlog_eq
  cases ho : e.openJob with
  | false => rw [hclosed ho, hclosed' ho]
  | true =>
    obtain ⟨j, hj⟩ := Option.ne_none_iff_exists'.mp (e.openJob_iff.mp ho).1
    rw [hopen j ho hj, hopen' j ho hj]

/-- Settles O23: the checks of an order, the judgement of the line, an ORDER heard, and one of bad length. -/
theorem ordersValidatedAndBooked : Obligations.OrdersValidatedAndBooked := by
  unfold Obligations.OrdersValidatedAndBooked
  refine ⟨fun m => ⟨validate_length_iff m, fun hlen => ?_⟩, fun s drawable toEnd hdraw hend => ?_,
    fun src m s s1 h hserv hlen hs1 => ?_, fun src m s s1 h hlen hs1 => ?_⟩
  · have hchecks := validate_of_readable hlen
    refine ⟨reason_iff hchecks (by split_ifs <;> simp), fun h1 h12 => ?_⟩
    rw [if_neg (by omega)] at hchecks
    refine ⟨reason_iff hchecks (by split_ifs <;> simp), fun hs1 hs5 => ?_⟩
    rw [if_neg (by omega)] at hchecks
    refine ⟨reason_iff hchecks (by split_ifs <;> simp), fun hc1 hc24 => ?_⟩
    rw [if_neg (by omega)] at hchecks
    refine ⟨reason_iff hchecks (by split_ifs <;> simp), fun hq => ?_⟩
    have hquantity : ¬ ∃ f ∈ m.formula, f.q = 0 ∨ 200000 < f.q := by
      rintro ⟨f, hf, hbad⟩
      have := hq f hf
      omega
    rw [if_neg hquantity] at hchecks
    refine ⟨reason_iff hchecks (by split_ifs <;> simp), fun hnd r hr => ?_⟩
    rw [if_neg (not_not.mpr hnd)] at hchecks
    have hroom := headroomTest_iff hr
    exact ⟨(reason_iff hchecks (by simp)).trans hroom,
      fun hle => hchecks.trans (if_neg (mt hroom.mp (Nat.not_lt.mpr hle)))⟩
  · have hd : ∀ c, LevelClass.drawable c = true ↔ drawable c := fun c => (LevelClass.drawable_iff c).trans (hdraw c).symm
    have he : ∀ e : Station, e.claimsLast = true ↔ toEnd e := fun e => e.claimsLast_iff.trans (hend e).symm
    refine ⟨fun m => ?_, s.eligibleEntry_iff, State.lastCell_own, fun hlast => ⟨?_, fun l => ?_⟩, s.answersInvalid_iff,
      fun opened w hopened hw => ?_, ?_⟩
    · simp only [s.eligible_iff, State.covered_iff, State.covers_own, holdsDownstream_iff, State.wayOpen_iff, hd]
    · simp only [State.lastCell_none hlast, he]
    · simp only [State.lastCell_some hlast, he]
    · obtain rfl : opened = OrderEntry.openJob :=
        funext fun e => Bool.eq_iff_iff.mpr ((hopened e).trans e.openJob_iff.symm)
      rw [OrderEntry.backlog_unique hw]
      exact ⟨rfl, rfl⟩
    · refine congrArg List.length (List.filter_congr fun e _ => Bool.eq_iff_iff.mpr ?_)
      simp [Option.isSome_iff_ne_none]
  · obtain ⟨hentry, hbook, hnow, hself⟩ := s.order_refresh src m.id
    have hexec := h.exec_order_service hserv m
    rw [hlen, if_pos rfl, ← hs1] at hexec
    rw [← hs1] at hentry hbook hnow hself
    rw [hexec, ← hnow]
    refine ⟨fun hnew hroom => ⟨fun r hr => ?_, fun hvalid c hc1 hc2 => ?_⟩, fun e he => ?_, fun hnew hfull hkeep => ?_,
      fun hnew hfull pre e post hpost hpre hev => ?_⟩
    · obtain ⟨hframe, hsilent, hanswer⟩ := State.bookNew_invalid_fields (s := s1) hr
      rw [invalidEntry, newEntry_of_readable hlen] at hframe hanswer
      rw [State.takeOrder_room (hentry.mpr hnew) (by omega)]
      exact ⟨_, rfl, hframe, hsilent, hanswer⟩
    · obtain ⟨hoffer, hsilent⟩ := State.bookNew_valid (s := s1) hlen hvalid
      rw [perTinOf_eq hc1 hc2] at hoffer hsilent
      rw [State.takeOrder_room (hentry.mpr hnew) (by omega)]
      refine ⟨_, rfl, fun hrun hel hjobs => ⟨_, rfl, ?_⟩, fun hno => hsilent (Bool.eq_false_iff.mpr fun ho => ?_)⟩
      · rw [← hself]
        exact hoffer ((s1.offers_iff m).mpr ⟨hrun, hel, hjobs⟩)
      · obtain ⟨hrun, hel, hjobs⟩ := (s1.offers_iff m).mp ho
        rcases hno with hno | hno | hno
        · exact hno hrun
        · exact absurd hel (ne_true_of_eq_false hno)
        · exact absurd hjobs (Nat.not_lt.mpr hno)
    · obtain ⟨hstay, hanswer⟩ := State.takeOrder_known he
      exact ⟨fun hno => congrArg _ (hstay hno), fun hst ha => congrArg _ (hanswer hst ha)⟩
    · refine congrArg _ (State.takeOrder_refused (hentry.mpr hnew) (by omega) (evict_eq_none fun e he => ?_))
      rw [← Bool.not_eq_true, evictable_iff]
      have := hkeep e he
      tauto
    · have hstay : ∀ a ∈ pre, OrderState.evictable a.st = false := fun a ha => by
        rw [← Bool.not_eq_true, evictable_iff]
        have := hpre a ha
        tauto
      have hevict : evict s1.book = some (pre ++ post) := hpost ▸ evict_append hstay ((evictable_iff _).mpr hev)
      rw [State.takeOrder_evicts (hentry.mpr hnew) (by omega) hevict]
      obtain ⟨n, hn⟩ := State.book_bookNew (s := { s1 with book := pre ++ post }) hlen
      exact ⟨_, n, rfl, hn⟩
  · obtain ⟨hentry, hbook, hnow, -⟩ := s.order_refresh src m.id
    have hcounted : (if m.lengthOk = true then s.refresh src none else (s.refresh src none).rxError) = s1 := by
      rw [hlen, hs1]
      rfl
    have hexec := fun hserv => h.exec_order_service hserv m
    rw [hcounted] at hexec
    have hnow1 : s1.now = s.now := by rw [hs1]; exact hnow
    refine ⟨fun hserv => ?_, fun hserv hnew hroom => ?_, fun hserv e he => ?_⟩
    · rw [h.exec_order m, hcounted, State.booked, hs1]
      exact congrArg _ (if_neg (ne_true_of_eq_false ((State.inService_refresh s src none).trans hserv)))
    · obtain ⟨hframe, hsilent, hanswer⟩ := State.bookNew_invalid_fields (s := s1) ((validate_length_iff m).mpr hlen)
      rw [hexec hserv, ← hnow1, State.takeOrder_room (by rw [hs1]; exact hentry.mpr hnew) (by rw [hs1]; exact hbook ▸ hroom)]
      rw [invalidEntry, newEntry_of_unreadable hlen] at hframe hanswer
      exact ⟨_, rfl, hframe, hsilent, hanswer⟩
    · obtain ⟨hstay, hanswer⟩ := State.takeOrder_known he
      rw [hexec hserv]
      exact ⟨fun hno => congrArg _ (hstay hno), fun hst ha => congrArg _ (hanswer hst ha)⟩

end Sys2Proof.Machine
end

/-! # Proofs: what a change of cell state changes

`State.enter` makes every block judge the new cell state (log 22). Here is, field by field, what it changes and what it
leaves; the laws of motion (O59) and the statements of the working day go through these rules. -/

section
namespace Sys2Proof.Machine

variable (s : State)

/-! ## The blocks that judge a change of cell state -/

/-- A prompt judged changes the prompt, the next serial and the panel (R150). -/
theorem State.judgePrompt_change :
    ∃ g n p, s.judgePrompt = { s with seg := { s.seg with prompt := g, serial := n }, panel := p } := by
  unfold State.judgePrompt
  split
  · split
    · unfold State.handLabel
      split <;> exact ⟨_, _, _, rfl⟩
    · exact ⟨_, _, _, rfl⟩
  all_goals exact ⟨_, _, _, rfl⟩

theorem State.promptOnState_change :
    ∃ g n p, s.promptOnState = { s with seg := { s.seg with prompt := g, serial := n }, panel := p } := by
  unfold State.promptOnState
  split
  · exact s.judgePrompt_change
  · split
    · exact ⟨.none, _, _, rfl⟩
    · exact ⟨_, _, _, rfl⟩

/-- A tin record changed at a slot changes the slots alone. -/
theorem State.modTinAt_change (n : Nat) (f : Tin → Tin) :
    ∃ l, s.modTinAt n f = { s with seg := { s.seg with slots := l } } := by
  unfold State.modTinAt
  split <;> exact ⟨_, rfl⟩

/-- An entry ended changes the shots, the slots and the canisters (R132). -/
theorem State.abortEntry_change (ch emitted : Nat) (st : PumpState) (g : Gray) :
    ∃ k l c, s.abortEntry ch emitted st g = { s with shots := k, seg := { s.seg with slots := l }, canisters := c } := by
  unfold State.abortEntry
  split
  · exact ⟨_, _, _, rfl⟩
  · next e _ =>
    split
    · exact ⟨_, _, _, rfl⟩
    · next p _ =>
      dsimp only
      obtain ⟨l, h⟩ := s.modTinAt_change 2 (fun t => t.failEntry e.index emitted (emitted * (s.pumpCfg p.canister).d))
      rw [h]
      obtain ⟨c, h'⟩ := State.holdEnd_frame _ p.canister
      exact ⟨_, l, c, h'⟩

theorem State.stopEntry_change (ch : Nat) :
    ∃ k l c, s.stopEntry ch = { s with shots := k, seg := { s.seg with slots := l }, canisters := c } := by
  unfold State.stopEntry
  split
  · exact ⟨_, _, _, rfl⟩
  · exact s.abortEntry_change ch _ _ _

theorem State.stopEntries_change :
    ∃ k l c, s.stopEntries = { s with shots := k, seg := { s.seg with slots := l }, canisters := c } := by
  obtain ⟨k, h⟩ := foldl_frame
    (fun (s : State) (k : Shots × List (Option TinRecord) × List Canister) =>
      { s with shots := k.1, seg := { s.seg with slots := k.2.1 }, canisters := k.2.2 })
    (fun s => ⟨(s.shots, s.seg.slots, s.canisters), rfl⟩) (fun _ _ _ => rfl) State.stopEntry
    (fun s ch => let ⟨k, l, c, h⟩ := s.stopEntry_change ch; ⟨(k, l, c), h⟩) (List.range 4) s
  exact ⟨k.1, k.2.1, k.2.2, h⟩

/-! ## The cap commanded (R32) -/

/-- The day clock as a cap command leaves it. -/
def DayClock.toOpen (d : DayClock) : DayClock :=
  match d.cap with
  | .opened | .opening => d
  | .closed | .stopped => { d with cap := .opening, capTime := 0 }
  | .closing => { d with kept := some .opened }

def DayClock.toClose (d : DayClock) : DayClock :=
  match d.cap with
  | .closed | .closing => d
  | .opened | .stopped => { d with cap := .closing, capTime := 0 }
  | .opening => { d with kept := some .closed }

theorem State.capOpen_eq : s.capOpen = { s with dck := s.dck.toOpen } := by
  cases h : s.dck.cap <;> simp [State.capOpen, DayClock.toOpen, h]

theorem State.capClose_eq : s.capClose = { s with dck := s.dck.toClose } := by
  cases h : s.dck.cap <;> simp [State.capClose, DayClock.toClose, h]

/-- The day clock once the cap has been judged (R33). -/
def State.judgedClock (s : State) : DayClock := if s.dck.cell = .capped ∧ (s.inside = true ∨ s.localAt2 =
    true) then s.dck.toOpen else s.dck

theorem State.judgeCap_eq : s.judgeCap = { s with dck := s.judgedClock } := by
  unfold State.judgeCap State.judgedClock
  simp only [Bool.and_eq_true, beq_iff_eq, Bool.or_eq_true]
  split
  · exact s.capOpen_eq
  · rfl

/-- The cell state named alone: what `State.enter` does before the blocks judge it. -/
def State.inCell (s : State) (c : CellState) : State := { s with dck := { s.dck with cell := c, idle := 0 } }

theorem State.nextMove_change (ch : Nat) :
    ∃ ps, s.nextMove ch = { s with shots := { s.shots with pumps := ps } } := by
  unfold State.nextMove
  split
  · split
    · exact ⟨_, rfl⟩
    · split <;> exact ⟨_, rfl⟩
  · exact ⟨_, rfl⟩

theorem State.resumeMove_change (ch : Nat) :
    ∃ ps, s.resumeMove ch = { s with shots := { s.shots with pumps := ps } } := by
  unfold State.resumeMove
  split
  · exact ⟨_, rfl⟩
  · split
    · exact s.nextMove_change ch
    · exact ⟨_, rfl⟩

theorem State.resumeMoves_change : ∃ ps, s.resumeMoves = { s with shots := { s.shots with pumps := ps } } :=
  foldl_frame (fun (s : State) ps => { s with shots := { s.shots with pumps := ps } }) (fun _ => ⟨_, rfl⟩)
    (fun _ _ _ => rfl) State.resumeMove State.resumeMove_change _ s

/-! ## No block's judgement reaches another's -/

/-- Every stirrer of the sixteen canisters changed by `g`, which is told the canister's index. -/
def State.mapStirs (s : State) (g : Nat → Stirrer → Stirrer) : State :=
  { s with canisters := s.canisters.mapIdx (fun n c => if n < 16 then { c with stir := g n c.stir } else c) }

/-- A fold over the sixteen canisters whose every step changes the stirrer of its own alone. -/
theorem State.foldl_stirs {s : State} {f : State → Nat → State} {g : Nat → Stirrer → Stirrer}
    (h : ∀ cs n, f { s with canisters := cs } n = State.modStir { s with canisters := cs } n (g n)) :
    (List.range 16).foldl f s = s.mapStirs g := by
  have upTo : ∀ k, (List.range k).foldl f s =
      { s with canisters := s.canisters.mapIdx (fun n c => if n < k then { c with stir := g n c.stir } else c) } := by
    intro k
    induction k with
    | zero =>
      have same : s.canisters.mapIdx (fun _ c => c) = s.canisters := by simp [List.mapIdx_eq_zipIdx_map]
      simp [same]
    | succ k ih =>
      rw [List.range_succ, List.foldl_append, ih, List.foldl_cons, List.foldl_nil, h]
      simp only [State.modStir, State.modCanister]
      congr 1
      apply List.ext_getElem?
      intro i
      simp only [List.getElem?_modify, List.getElem?_mapIdx]
      cases s.canisters[i]? with
      | none => rfl
      | some c =>
        rcases Nat.lt_trichotomy i k with hi | rfl | hi
        · simp [hi, Nat.lt_succ_of_lt hi, (Nat.ne_of_lt hi).symm]
        · simp
        · simp [Nat.not_lt.mpr hi.le, Nat.not_lt.mpr hi, (Nat.ne_of_lt hi)]
  exact upTo 16

theorem State.canister_mapStirs {s : State} {g : Nat → Stirrer → Stirrer} {n : Nat} (h : n < s.canisters.length) :
    (s.mapStirs g).canister n = if n < 16 then { s.canister n with stir := g n (s.canister n).stir } else s.canister n := by
  simp [State.canister, State.mapStirs, List.getD_eq_getElem?_getD, List.getElem?_eq_getElem h]

/-- A change of the stirrers changes nothing else of a canister. -/
theorem State.canister_mapStirs_cases (g : Nat → Stirrer → Stirrer) (n : Nat) :
    (s.mapStirs g).canister n = { s.canister n with stir := g n (s.canister n).stir } ∨
      (s.mapStirs g).canister n = s.canister n := by
  by_cases h : n < s.canisters.length
  · rw [State.canister_mapStirs h]
    split
    · exact .inl rfl
    · exact .inr rfl
  · exact .inr (by simp [State.canister, State.mapStirs, List.getD_eq_getElem?_getD, h])

/-- The stirrer of canister `n` after the test of R108. -/
def State.tested (s : State) (n : Nat) (r : Stirrer) : Stirrer :=
  match s.fitted n with
  | none => r
  | some cfg =>
    if r.st == .idle && r.flag then
      if s.canisterHeld n then { r with st := .waiting } else if s.working then r.run cfg else r
    else r

/-- A stirrer is changed by what `f` makes of it as it stands. -/
theorem State.modStir_congr {s : State} {n : Nat} {f g : Stirrer → Stirrer}
    (h : f (s.canister n).stir = g (s.canister n).stir) : s.modStir n f = s.modStir n g := by
  simp only [State.modStir, State.modCanister]
  congr 1
  apply List.ext_getElem?
  intro i
  rw [List.getElem?_modify, List.getElem?_modify]
  split
  · next hi =>
    subst hi
    cases hc : s.canisters[n]? with
    | none => rfl
    | some c =>
      have : s.canister n = c := by simp [State.canister, List.getD_eq_getElem?_getD, hc]
      simp [← this, h]
  · rfl

theorem State.modStir_id {s : State} {n : Nat} {f : Stirrer → Stirrer} (h : f (s.canister n).stir = (s.canister n).stir) :
    s.modStir n f = s :=
  (State.modStir_congr (g := fun r => r) h).trans
    (congrArg (fun cs => { s with canisters := cs }) (List.modify_id n s.canisters))

theorem State.stirTest_eq (n : Nat) : s.stirTest n = s.modStir n (s.tested n) := by
  unfold State.stirTest
  split
  · exact (State.modStir_id (by simp [State.tested, *])).symm
  · split
    · split
      · exact State.modStir_congr (by simp [State.tested, *])
      · split
        · exact State.modStir_congr (by simp [State.tested, *])
        · exact (State.modStir_id (by simp [State.tested, *])).symm
    · exact (State.modStir_id (by simp [State.tested, *])).symm

theorem State.stirTestAll_eq : s.stirTestAll = s.mapStirs s.tested :=
  State.foldl_stirs fun cs n => State.stirTest_eq { s with canisters := cs } n

/-- The panel with a label record handed to the printer port (R209). -/
def Panel.hand (p : Panel) (ready : Bool) (l : Label) : Panel :=
  if ready = true then { p with label := none, printed := some l } else { p with label := some l }

theorem State.handLabel_eq (l : Label) :
    s.handLabel l = { s with panel := s.panel.hand s.pins.sample.printerReady l } := by
  unfold State.handLabel Panel.hand
  split <;> rfl

/-- A REQUESTED prompt that may stand does so (R150). -/
theorem State.judgePrompt_stands {s : State} {id : OrderId} (h : s.seg.prompt = .requested id) (hm : s.mayStand = true) :
    s.judgePrompt = { s with
      seg := { s.seg with prompt := .standing id s.takeSerial 0 10, serial := serialNext s.takeSerial }
      panel := s.panel.hand s.pins.sample.printerReady (s.labelFor id s.takeSerial) } := by
  simp only [State.judgePrompt, h, hm, if_true, State.handLabel_eq]

theorem State.judgePrompt_waits {s : State} (h : s.seg.prompt.isRequested = false ∨ s.mayStand = false) :
    s.judgePrompt = s := by
  unfold State.judgePrompt
  split
  · next id hp =>
    have hm : s.mayStand = false := h.resolve_left (by simp [hp, LoadPrompt.isRequested])
    simp [hm]
  all_goals rfl

theorem LoadPrompt.isRequested_iff (p : LoadPrompt) : p.isRequested = true ↔ ∃ id, p = .requested id := by
  cases p <;> simp [LoadPrompt.isRequested]

theorem State.freshSerial_congr {s t : State} (h : ∀ n, t.serialHeld n = s.serialHeld n) (k n : Nat) :
    t.freshSerial k n = s.freshSerial k n := by
  induction k generalizing n with
  | zero => rfl
  | succ k ih => rw [State.freshSerial, State.freshSerial, h, ih]

theorem State.judgePrompt_apart (k : Shots) (cs : List Canister) :
    State.judgePrompt { s with shots := k, canisters := cs } = { s.judgePrompt with shots := k, canisters := cs } := by
  by_cases h : s.seg.prompt.isRequested = false ∨ s.mayStand = false
  · rw [State.judgePrompt_waits h, State.judgePrompt_waits (s := { s with shots := k, canisters := cs }) h]
  · simp only [not_or, Bool.not_eq_false, LoadPrompt.isRequested_iff] at h
    obtain ⟨⟨id, hp⟩, hm⟩ := h
    have hserial : State.takeSerial { s with shots := k, canisters := cs } = s.takeSerial :=
      State.freshSerial_congr (s := s) (t := { s with shots := k, canisters := cs }) (fun _ => rfl) _ _
    rw [State.judgePrompt_stands hp hm, State.judgePrompt_stands (s := { s with shots := k, canisters := cs }) hp hm,
        hserial]
    rfl

theorem State.promptOnState_apart (k : Shots) (cs : List Canister) :
    State.promptOnState { s with shots := k, canisters := cs } = { s.promptOnState with shots := k, canisters := cs } := by
  unfold State.promptOnState
  rw [State.judgePrompt_apart]
  change (if s.running = true then _ else if s.seg.prompt.isRequested = true then _ else _) = _
  split
  · rfl
  · split <;> rfl

/-- The lid unit with magazine `n` changed by `f` and its bay in `b`. -/
def Lids.press (l : Lids) (n : Nat) (f : Magazine → Magazine) (b : LidBay) : Lids :=
  { magazines := if n = 0 then l.magazines else l.magazines.modify (n - 1) f, bay := b }

theorem State.setBay_modMagazine (n : Nat) (f : Magazine → Magazine) (b : LidBay) :
    (s.modMagazine n f).setBay b = { s with lids := s.lids.press n f b } := by
  unfold State.modMagazine Lids.press
  split_ifs <;> rfl

/-- The lid unit after a press start (R188 to R190). -/
def State.pressedLids (s : State) : Lids :=
  match s.tinAt 4 with
  | none => s.lids
  | some t =>
    if t.st == .finishing then
      if topIs t.lid (s.magazine t.size).layers && !s.hatchOpen t.size then
        if s.pins.sample.lidOnHead then
          s.lids.press t.size (fun m => { layers := popLid m.layers, pulses := m.pulses + 1 }) (.pressing 0)
        else s.lids.press t.size (fun m => { layers := [], pulses := m.pulses + 1 }) (.lidWait true)
      else { s.lids with bay := s.lids.bay.wait }
    else s.lids

theorem State.pressStart_eq : s.pressStart = { s with lids := s.pressedLids } := by
  unfold State.pressStart State.pressedLids
  cases s.tinAt 4 with
  | none => rfl
  | some t =>
    simp only [State.setBay_modMagazine]
    split_ifs <;> rfl

/-- The lid unit after a change of cell state (R187, R192, R193). -/
def State.lidsOnState (s : State) : Lids :=
  if s.working && !s.seg.index.isRunning then
    match s.lids.bay with
    | .idle | .lidWait _ => s.pressedLids
    | .pressStopped => { s.lids with bay := .pressing 0 }
    | .pressing _ => s.lids
  else s.lids

theorem State.lidOnState_eq : s.lidOnState = { s with lids := s.lidsOnState } := by
  unfold State.lidOnState State.lidsOnState
  split_ifs
  · cases s.lids.bay with
    | idle => exact s.pressStart_eq
    | lidWait m => exact s.pressStart_eq
    | pressStopped => rfl
    | pressing k => rfl
  · rfl

/-- The shake unit once it has looked at its conditions (R195, R196, R197, R199). -/
def State.lookedShaker (s : State) : Shaker :=
  match s.shaker.st with
  | .empty =>
    if isLidded (s.slot 6) && !s.seg.index.busy && s.working then { s.shaker with st := .loading, halted := false } else s.shaker
  | .clamping => if s.mayShake then s.shaker.run s.shaker.mixMs else s.shaker
  | .interrupted => if s.mayShake then s.shaker.run s.shaker.resume else s.shaker
  | .unclamping =>
    if !s.pins.clamp && (s.slot 7).isNone && !s.seg.index.busy && s.working then
      { s.shaker with st := .returning, halted := false }
    else s.shaker
  | .loading | .running | .returning => s.shaker

theorem State.shakerLook_eq : s.shakerLook = { s with shaker := s.lookedShaker } := by
  unfold State.shakerLook State.lookedShaker
  cases s.shaker.st with
  | loading | running | returning => rfl
  | empty | clamping | interrupted | unclamping => dsimp only; split_ifs <;> rfl

/-- The shake unit after a change of cell state (R198). -/
def State.shakerAfter (s : State) : Shaker :=
  if ShakeState.inTransfer s.shaker.st && s.shaker.halted then
    if s.working then { s.shaker with halted := false } else s.shaker
  else s.lookedShaker

theorem State.shakerOnState_eq : s.shakerOnState = { s with shaker := s.shakerAfter } := by
  unfold State.shakerOnState State.shakerAfter
  split_ifs
  · rfl
  · rfl
  · exact s.shakerLook_eq

/-- A change of cell state (log 22): every block judges the cell state named, and none what another has done of it. -/
theorem State.enter_eq (c : CellState) : s.enter c =
    { s with
      dck := (s.inCell c).judgedClock
      shots := (s.inCell c).resumeMoves.shots
      canisters := (s.inCell c).stirTestAll.canisters
      seg := (s.inCell c).promptOnState.seg
      panel := (s.inCell c).promptOnState.panel
      lids := (s.inCell c).lidsOnState
      shaker := (s.inCell c).shakerAfter } := by
  obtain ⟨ps, hmoves⟩ := (s.inCell c).resumeMoves_change
  have hstirs : State.stirTestAll { s.inCell c with shots := { (s.inCell c).shots with pumps := ps } } =
      { s.inCell c with
        shots := { (s.inCell c).shots with pumps := ps }, canisters := (s.inCell c).stirTestAll.canisters } := by
    rw [State.stirTestAll_eq, State.stirTestAll_eq]
    rfl
  obtain ⟨g, n, p, hprompt⟩ := (s.inCell c).promptOnState_change
  change State.judgeCap (State.shakerOnState (State.lidOnState (State.promptOnState (State.stirTestAll
    (s.inCell c).resumeMoves)))) = _
  rw [hmoves, hstirs, State.promptOnState_apart, hprompt, State.lidOnState_eq, State.shakerOnState_eq, State.judgeCap_eq]
  rfl

/-! ## What a change of cell state leaves -/

section
variable (c : CellState)

@[simp] theorem State.enter_bus : (s.enter c).bus = s.bus := by rw [State.enter_eq]
@[simp] theorem State.enter_stations : (s.enter c).stations = s.stations := by rw [State.enter_eq]
@[simp] theorem State.enter_book : (s.enter c).book = s.book := by rw [State.enter_eq]
@[simp] theorem State.enter_xfr : (s.enter c).xfr = s.xfr := by rw [State.enter_eq]
@[simp] theorem State.enter_atn : (s.enter c).atn = s.atn := by rw [State.enter_eq]
@[simp] theorem State.enter_cfg : (s.enter c).cfg = s.cfg := by rw [State.enter_eq]
@[simp] theorem State.enter_pins : (s.enter c).pins = s.pins := by rw [State.enter_eq]
@[simp] theorem State.enter_pending : (s.enter c).pending = s.pending := by rw [State.enter_eq]
@[simp] theorem State.enter_dck : (s.enter c).dck = (s.inCell c).judgedClock := by rw [State.enter_eq]
@[simp] theorem State.enter_shaker : (s.enter c).shaker = (s.inCell c).shakerAfter := by rw [State.enter_eq]
@[simp] theorem State.enter_lids : (s.enter c).lids = (s.inCell c).lidsOnState := by rw [State.enter_eq]

/-- Of the segment a change of cell state reaches the prompt and the next serial. -/
theorem State.enter_seg : ∃ g n, (s.enter c).seg = { s.seg with prompt := g, serial := n } := by
  obtain ⟨g, n, p, h⟩ := (s.inCell c).promptOnState_change
  exact ⟨g, n, by rw [State.enter_eq, h]; rfl⟩

@[simp] theorem State.enter_slots : (s.enter c).seg.slots = s.seg.slots := by
  obtain ⟨g, n, h⟩ := s.enter_seg c
  rw [h]

@[simp] theorem State.enter_index : (s.enter c).seg.index = s.seg.index := by
  obtain ⟨g, n, h⟩ := s.enter_seg c
  rw [h]

/-- Of a canister a change of cell state reaches the stirrer, by the test of R108. -/
theorem State.enter_canister (n : Nat) :
    (s.enter c).canister n = { s.canister n with stir := (s.inCell c).tested n (s.canister n).stir } ∨
      (s.enter c).canister n = s.canister n := by
  have hstirs : (s.enter c).canister n = ((s.inCell c).mapStirs (s.inCell c).tested).canister n := by
    rw [State.enter_eq, State.stirTestAll_eq]
    rfl
  rw [hstirs]
  exact (s.inCell c).canister_mapStirs_cases _ n

end

/-- A cap command changes the cap, the command kept and the time of the move. -/
theorem DayClock.toOpen_change (d : DayClock) : ∃ a k m, d.toOpen = { d with cap := a, kept := k, capTime := m } := by
  unfold DayClock.toOpen
  split <;> exact ⟨_, _, _, rfl⟩

theorem DayClock.toClose_change (d : DayClock) : ∃ a k m, d.toClose = { d with cap := a, kept := k, capTime := m } := by
  unfold DayClock.toClose
  split <;> exact ⟨_, _, _, rfl⟩

theorem State.judgedClock_change : ∃ a k m, s.judgedClock = { s.dck with cap := a, kept := k, capTime := m } := by
  unfold State.judgedClock
  split
  · exact s.dck.toOpen_change
  · exact ⟨_, _, _, rfl⟩

/-- Outside CAPPED the cap is not judged (R33). -/
theorem State.judgedClock_of_ne {s : State} (h : s.dck.cell ≠ .capped) : s.judgedClock = s.dck :=
  if_neg fun hc => h hc.1

theorem State.enter_dck_of_ne {c : CellState} (h : c ≠ .capped) : (s.enter c).dck = { s.dck with cell := c, idle := 0 } :=
  (s.enter_dck c).trans (State.judgedClock_of_ne h)

end Sys2Proof.Machine
end

/-! # Proofs: what every step keeps of the motion (O59)

`State.Still s t` says that going from `s` to `t` changes nothing that the laws of motion read; most operations are so.
`State.KeepsMotion s t` says that going from `s` to `t` keeps the laws: a preorder, so that one lemma per operation that
moves the shaker, the cap, the index or the cell state is enough. -/

section
namespace Sys2Proof.Machine

/-! ## Nothing of the motion changed -/

/-- The parts of a state that the laws of motion read. -/
def State.motion (s : State) : DayClock × Bool × ShakeState × Bool × Bool :=
  ({ s.dck with moment := default, sub := 0, unset := false, kept := none, capTime := 0, idle := 0 },
    s.seg.index.isRunning, s.shaker.st, s.pins.clamp, s.pins.shakerDoor)

/-- Going from `s` to `t` changes nothing that the laws of motion read. -/
def State.Still (s t : State) : Prop := t.motion = s.motion

theorem State.Still.refl (s : State) : s.Still s := rfl

theorem State.Still.trans {s t u : State} (h : s.Still t) (h' : t.Still u) : s.Still u := Eq.trans h' h

theorem State.still_ite {s t u : State} {c : Prop} [Decidable c] (ht : c → s.Still t) (hu : ¬c → s.Still u) :
    s.Still (if c then t else u) := by
  split
  · next h => exact ht h
  · next h => exact hu h

theorem State.still_foldl {α : Type} {f : State → α → State} (h : ∀ (s : State) (a : α), s.Still (f s a)) (l : List α)
    (s : State) : s.Still (l.foldl f s) := by
  induction l generalizing s with
  | nil => exact .refl s
  | cons a l ih => exact (h s a).trans (ih _)

theorem State.Still.cell {s t : State} (h : s.Still t) : t.dck.cell = s.dck.cell :=
  congrArg (fun m => m.1.cell) h

theorem State.Still.halt {s t : State} (h : s.Still t) : t.dck.halt = s.dck.halt :=
  congrArg (fun m => m.1.halt) h

theorem State.Tells.still {s t : State} (h : s.Tells t) : s.Still t := by
  obtain ⟨b, k, g, p, x, rfl⟩ := h
  rfl

variable (s : State)

theorem State.still_latch (x : Sample) : s.Still (s.latch x) := rfl

/-! ## The order book -/

theorem State.still_placeJobStatus (id : OrderId) : s.Still (s.placeJobStatus id) := (s.tells_placeJobStatus id).still

theorem State.still_placeClaim (id : OrderId) : s.Still (s.placeClaim id) := by
  obtain ⟨b, h⟩ := s.placeClaim_frame id
  rw [h]
  rfl

theorem State.still_retestBlocked : s.Still s.retestBlocked := s.tells_retestBlocked.still

theorem State.still_tellCover (before : List CoverItem) : s.Still (s.tellCover before) :=
  State.still_ite (fun _ => .refl s) fun _ => s.still_retestBlocked

theorem State.still_withdrawPrompt (id : OrderId) : s.Still (s.withdrawPrompt id) := (s.tells_withdrawPrompt id).still

theorem State.still_report (m : TinReportMsg) : s.Still (s.report m) := (s.tells_report m).still

theorem State.still_resolveTin (tin : TinId) (f : TinFate) : s.Still (s.resolveTin tin f) := by
  unfold State.resolveTin
  split
  · exact .refl s
  · next e _ => exact (State.still_placeJobStatus (s.modEntry e.id _) e.id).trans (State.tells_settleJob _ e.id f).still

theorem State.still_refresh (n : Nat) (m : Option CellStatusMsg) : s.Still (s.refresh n m) :=
  (State.Tells.still (s.tells_refresh n m)).trans rfl

theorem State.still_hear (k : Sender) (src : Nat) (ok : Bool) {take : State → State} (h : ∀ s : State, s.Still (take s)) :
    s.Still (s.hear k src ok take) :=
  State.still_ite (fun _ => .refl s) fun _ => State.still_ite
    (fun _ => (State.still_ite (fun _ => s.still_refresh src none) fun _ => .refl s).trans (h _)) fun _ => rfl

theorem State.still_booked {f : State → State} (h : s.Still (f s)) : s.Still (s.booked f) :=
  State.still_ite (fun _ => h) fun _ => .refl s

theorem State.still_answerInvalid (e : OrderEntry) : s.Still (s.answerInvalid e) :=
  State.still_ite (fun _ => rfl) fun _ => .refl s

theorem State.still_bookNew (m : OrderMsg) : s.Still (s.bookNew m) := by
  unfold State.bookNew
  split
  · exact State.still_answerInvalid (s.pushEntry _) _
  · exact State.still_ite (fun _ => rfl) fun _ => rfl

theorem State.still_takeOrder (m : OrderMsg) : s.Still (s.takeOrder m) := by
  unfold State.takeOrder
  split
  · exact State.still_ite (fun _ => s.still_answerInvalid _) fun _ => .refl s
  · split
    · exact rfl
    · exact State.still_bookNew { s with book := _ } m

theorem State.still_takeCancel (e : OrderEntry) : s.Still (s.takeCancel e) := by
  unfold State.takeCancel
  have settled : ∀ f, s.Still (((s.modEntry e.id f).withdrawPrompt e.id).placeJobStatus e.id) := fun f =>
    (State.still_withdrawPrompt (s.modEntry e.id f) e.id).trans (State.still_placeJobStatus _ e.id)
  split
  case h_5 => dsimp only; split <;> rfl
  case h_6 | h_7 =>
    split
    · exact .refl s
    · exact State.still_ite (fun _ => settled _) fun _ => settled _
  all_goals rfl

theorem State.still_setDuplicate (id : OrderId) (j : Job) : s.Still (s.setDuplicate id j) :=
  State.still_ite (fun _ => .refl s) fun _ =>
    (State.still_placeJobStatus (s.modEntry id _) id).trans (State.still_placeClaim _ id)

theorem State.still_contest (e : OrderEntry) (j : Job) (c : Claim) : s.Still (s.contest e j c) :=
  State.still_ite (fun _ => s.still_setDuplicate e.id j) fun _ => State.still_ite
    (fun _ => State.still_withdrawPrompt (s.modEntry e.id _) e.id) fun _ => s.still_placeClaim e.id

theorem State.still_judgePrompt : s.Still s.judgePrompt := by
  obtain ⟨g, n, p, h⟩ := s.judgePrompt_change
  rw [h]
  rfl

theorem State.still_tryGates (l : List OrderEntry) : s.Still (s.tryGates l) := by
  induction l generalizing s with
  | nil => exact .refl s
  | cons e l ih =>
    exact State.still_ite (fun _ => State.still_judgePrompt { s with seg := { s.seg with prompt := .requested e.id } })
      fun _ => (State.still_placeJobStatus (s.modEntry e.id _) e.id).trans (ih _)

theorem State.still_takeLoad (id : OrderId) (serial : Nat) : s.Still (s.takeLoad id serial) := by
  unfold State.takeLoad
  dsimp only
  split
  · next m lid shake _ =>
    have counted : ∀ t : State, t.Still (t.countLoad id { cell := s.self, serial := serial }) := fun t => by
      unfold State.countLoad
      dsimp only
      split
      · rfl
      · exact State.still_ite (fun _ => State.still_placeClaim (t.modEntry id _) id) fun _ => rfl
    exact counted (s.endPrompt.setSlot 1 _)
  · have failed : ∀ t : State, t.Still (t.failLoad id) := fun t => by
      unfold State.failLoad
      split
      · exact .refl t
      · exact State.still_ite (fun _ => State.still_placeJobStatus (t.modEntry id _) id) fun _ => .refl t
    exact failed (s.endPrompt.setSlot 1 _)

/-! ## Canisters, pumps and entries -/

theorem State.still_stirTest (n : Nat) : s.Still (s.stirTest n) := by
  rw [State.stirTest_eq]
  rfl

theorem State.still_holdEnd (n : Nat) : s.Still (s.holdEnd n) := by
  obtain ⟨c, h⟩ := s.holdEnd_frame n
  rw [h]
  rfl

theorem State.still_stirDue (n : Nat) : s.Still (s.stirDue n) := by
  unfold State.stirDue
  split
  · exact .refl s
  · split
    · exact State.still_stirTest (s.modStir n _) n
    · exact .refl s
    · rfl

theorem State.still_dueTestAll : s.Still s.dueTestAll := by
  obtain ⟨c, h⟩ := s.dueTestAll_frame
  rw [h]
  rfl

theorem State.still_pullDue (n i : Nat) : s.Still (s.pullDue n i) := State.still_ite (fun _ => rfl) fun _ => .refl s

theorem State.still_settingBack : s.Still s.settingBack :=
  State.still_foldl (fun s n => by
    split
    · exact .refl s
    · exact s.still_pullDue n _) _ s

theorem State.still_windowOpened : s.Still s.windowOpened :=
  State.still_foldl (fun s n => by
    split
    · exact .refl s
    · exact s.still_pullDue n _) _ s

theorem State.still_nextMove (ch : Nat) : s.Still (s.nextMove ch) := by
  obtain ⟨k, h⟩ := s.nextMove_frame ch
  rw [h]
  rfl

theorem State.still_modTinAt (n : Nat) (f : Tin → Tin) : s.Still (s.modTinAt n f) := by
  obtain ⟨l, h⟩ := s.modTinAt_change n f
  rw [h]
  rfl

theorem State.still_abortEntry (ch emitted : Nat) (st : PumpState) (g : Gray) : s.Still (s.abortEntry ch emitted st g) := by
  obtain ⟨k, l, c, h⟩ := s.abortEntry_change ch emitted st g
  rw [h]
  rfl

theorem State.still_stopEntries : s.Still s.stopEntries := by
  obtain ⟨k, l, c, h⟩ := s.stopEntries_change
  rw [h]
  rfl

theorem State.still_afterDosing (before : List CoverItem) : s.Still (s.afterDosing before) :=
  (s.still_modTinAt 2 _).trans (State.still_tellCover _ before)

theorem State.still_freeChannel (ch n : Nat) : s.Still (s.freeChannel ch n) := State.still_holdEnd (s.setChannel ch none) n

theorem State.still_grantTo (ch i : Nat) : s.Still (s.grantTo ch i) := by
  unfold State.grantTo
  dsimp only
  split
  · exact .refl s
  · next tin _ =>
    split
    · exact .refl s
    · next e _ =>
      split
      · next p _ =>
        have acted : ∀ t : State, t.Still (t.actOnCheck ch tin e p) := fun t => by
          unfold State.actOnCheck
          split
          · exact t.still_freeChannel ch _
          · exact (t.still_modTinAt 2 _).trans (State.still_freeChannel _ ch _)
          · exact (t.still_modTinAt 2 _).trans (State.still_freeChannel _ ch _)
          · exact (t.still_modTinAt 2 _).trans (State.still_freeChannel _ ch _)
          · exact (State.still_modTinAt (t.reserve _ _) 2 _).trans (State.still_nextMove _ ch)
        exact (acted ((s.leaveWaiting i).setChannel ch (some i))).trans (State.still_afterDosing _ _)
      all_goals exact .refl s

theorem State.still_strokeComplete (ch : Nat) (e : DoseEntry) (p : Plan) : s.Still (s.strokeComplete ch e p) := by
  unfold State.strokeComplete
  dsimp only
  have counted : ∀ (t : State) (f : Tin → Tin) (n v : Nat), t.Still ((t.modTinAt 2 f).chargeStroke n v) :=
    fun t f n v => t.still_modTinAt 2 f
  split
  · exact (counted (s.modPump _ _) _ _ _).trans (State.still_nextMove _ ch)
  · exact ((counted (s.modPump _ _) _ _ _).trans (State.still_modTinAt _ 2 _)).trans (State.still_freeChannel _ ch _)

/-! ## Lids and stock -/

theorem State.still_pressStart : s.Still s.pressStart := by
  rw [State.pressStart_eq]
  rfl

theorem State.still_lidLook : s.Still s.lidLook := State.still_ite (fun _ => s.still_pressStart) fun _ => .refl s

theorem State.still_modMagazine (n : Nat) (f : Magazine → Magazine) : s.Still (s.modMagazine n f) :=
  State.still_ite (fun _ => .refl s) fun _ => rfl

theorem State.still_lidRejudge (n : Nat) : s.Still (s.lidRejudge n) := by
  unfold State.lidRejudge
  split
  · exact State.still_ite (fun _ => s.still_pressStart) fun _ => .refl s
  · exact .refl s

theorem State.still_takeLidLoad (size lid count : Nat) : s.Still (s.takeLidLoad size lid count) := by
  have loaded : s.Still (s.loadLids size lid count) := by
    unfold State.loadLids
    split
    · rfl
    · exact (s.still_modMagazine size _).trans rfl
  exact State.still_ite (fun _ => loaded.trans (State.still_lidRejudge _ size)) fun _ => loaded

theorem State.still_newBatch (n : Nat) (k : Stock) (b : Nat) : s.Still (s.newBatch n k b) :=
  State.still_ite (fun _ => .refl s) fun _ => s.still_stirDue n

theorem State.still_takeRefill (n v st b : Nat) : s.Still (s.takeRefill n v st b) := by
  unfold State.takeRefill
  split
  · rfl
  · refine State.still_ite (fun _ => rfl) fun _ => State.still_ite (fun _ => rfl) fun _ => ?_
    split
    · rfl
    · next k _ =>
      have filled : ∀ k', s.Still ((s.setStock n k').newBatch n k b) := fun k' => (s.setStock n k').still_newBatch n k b
      exact State.still_ite (fun _ => filled _) fun _ => filled _

theorem State.still_takeSetLevel (n l st b : Nat) : s.Still (s.takeSetLevel n l st b) := by
  unfold State.takeSetLevel
  split
  · rfl
  · refine State.still_ite (fun _ => rfl) fun _ => State.still_ite (fun _ => rfl) fun _ =>
      State.still_ite (fun _ => rfl) fun _ => ?_
    unfold State.setLevel
    dsimp only
    split
    · rfl
    · next k _ => exact State.still_newBatch (s.setStock n _) n k b

theorem State.still_takeLock (n : Nat) : s.Still (s.takeLock n) := by
  unfold State.takeLock
  split <;> rfl

theorem State.still_takeRelease (n : Nat) (g : Gray) : s.Still (s.takeRelease n g) := by
  unfold State.takeRelease
  split <;> rfl

theorem State.still_stock (src target : Nat) {take : State → State} (h : ∀ s : State, s.Still (take s)) :
    s.Still (s.stock src target take) :=
  s.still_hear _ _ _ fun s => State.still_ite (fun _ => (h s).trans (State.still_tellCover _ _)) fun _ => .refl s

/-! ## Consignment -/

theorem State.still_openIntake : s.Still s.openIntake := by
  obtain ⟨x, h⟩ := s.openIntake_frame
  rw [h]
  rfl

theorem State.still_firstRead : s.Still s.firstRead := by
  obtain ⟨x, h⟩ := s.firstRead_frame
  rw [h]
  rfl

theorem State.still_takeStatus (src : Nat) (m : CellStatusMsg) : s.Still (s.takeStatus src m) :=
  (s.tells_takeStatus src m).still.trans rfl

theorem State.still_takeConsign (m : ConsignMsg) : s.Still (s.takeConsign m) := by
  obtain ⟨x, d, h⟩ := s.takeConsign_frame m
  rw [h]
  rfl

theorem State.still_resolveHold (last : Option TinId) : s.Still (s.resolveHold last) := by
  have skipped : ∀ (s : State) q, s.Still (s.skipItem q) := fun s q => by
    unfold State.skipItem
    split
    · exact .refl s
    · exact State.still_report (s.dropItem q) _
  unfold State.resolveHold
  split
  · exact (State.still_foldl (fun s i => skipped s _) _ s).trans rfl
  · split
    · exact State.still_ite (fun _ => rfl) fun _ => rfl
    · rfl

theorem State.still_depart (d : Destination) : s.Still (s.depart d) := by
  unfold State.depart
  split
  · exact .refl s
  · next r _ =>
    split
    · unfold State.intoChute
      split
      · rfl
      · exact State.still_report { (s.setSlot 7 none) with seg := { (s.setSlot 7 none).seg with chute := _ } } _
    all_goals rfl

theorem State.still_afterPull : s.Still s.afterPull := by
  unfold State.afterPull
  split
  · split <;> rfl
  all_goals exact .refl s

theorem State.still_reconcilePull : s.Still s.reconcilePull := by
  unfold State.reconcilePull
  refine State.still_ite (fun _ => .refl s) fun _ => State.still_ite (fun _ => rfl) fun _ => ?_
  split
  · split
    · rfl
    · exact (State.still_report ((State.dropItem { s with xfr := { s.xfr with cutShort := false } } _).setPointer _) _).trans rfl
  all_goals rfl

theorem State.still_reconcileSlot (n : Nat) : s.Still (s.reconcileSlot n) := by
  refine State.still_ite (fun _ => State.still_ite (fun _ => rfl) fun _ => .refl s) fun _ => ?_
  split
  · exact .refl s
  · rfl
  · exact State.still_report (s.setSlot n none) _

/-! ## The laws of motion kept -/

/-- The cell state agrees with the flags and the index, and the cap is OPEN where it has to be. -/
def State.Lawful (s : State) : Prop := s.FlagsAgree ∧ s.CapOpen

/-- Going from `s` to `t` keeps the laws of motion. -/
structure State.KeepsMotion (s t : State) : Prop where
  guard : s.ShakerGuarded → t.ShakerGuarded
  lawful : s.Lawful → t.Lawful

theorem State.KeepsMotion.refl : s.KeepsMotion s := ⟨id, id⟩

theorem State.KeepsMotion.trans {s t u : State} (h : s.KeepsMotion t) (h' : t.KeepsMotion u) : s.KeepsMotion u :=
  ⟨h'.guard ∘ h.guard, h'.lawful ∘ h.lawful⟩

theorem State.Still.keeps {s t : State} (h : s.Still t) : s.KeepsMotion t := by
  simp only [State.Still, State.motion, Prod.mk.injEq, DayClock.mk.injEq] at h
  obtain ⟨⟨-, -, -, hcell, hpause, hjam, hhalt, hcap, -⟩, hindex, hshaker, hclamp, hdoor⟩ := h
  constructor
  · rw [State.ShakerGuarded, State.ShakerGuarded, hshaker, hclamp, hdoor]
    exact id
  · simp only [State.Lawful, State.FlagsAgree, State.CapOpen, State.working, hcell, hpause, hjam, hhalt, hcap, hindex]
    exact id

theorem State.motion_ite {s t u : State} {c : Prop} [Decidable c] (ht : c → s.KeepsMotion t) (hu : ¬c → s.KeepsMotion u) :
    s.KeepsMotion (if c then t else u) := by
  split
  · next h => exact ht h
  · next h => exact hu h

/-! ## The shaker (R196, R197) -/

/-- The shake unit starts a run only where the clamp is confirmed and the door is closed (R196). -/
theorem State.lookedShaker_running {s : State} (h : s.lookedShaker.st = .running) :
    s.shaker.st = .running ∨ s.pins.clamp = true ∧ s.pins.shakerDoor = false := by
  have may : s.mayShake = true → s.pins.clamp = true ∧ s.pins.shakerDoor = false := fun hm => by
    simp only [State.mayShake, Bool.and_eq_true, Bool.not_eq_true'] at hm
    exact hm.1
  unfold State.lookedShaker at h
  cases hst : s.shaker.st with
  | running => exact .inl rfl
  | clamping | interrupted =>
    simp only [hst] at h
    split at h
    · next hm => exact .inr (may hm)
    · simp [hst] at h
  | empty | unclamping =>
    simp only [hst] at h
    split at h <;> simp [hst] at h
  | loading | returning => simp [hst] at h

theorem State.shakerAfter_running {s : State} (h : s.shakerAfter.st = .running) :
    s.shaker.st = .running ∨ s.pins.clamp = true ∧ s.pins.shakerDoor = false := by
  unfold State.shakerAfter at h
  split_ifs at h
  · exact .inl h
  · exact .inl h
  · exact State.lookedShaker_running h

/-- A shake unit that runs as before, or within R196, is guarded. -/
theorem State.ShakerGuarded.of_running {s t : State} (h : s.ShakerGuarded) (hp : t.pins = s.pins)
    (ht : t.shaker.st = .running → s.shaker.st = .running ∨ s.pins.clamp = true ∧ s.pins.shakerDoor = false) :
    t.ShakerGuarded := fun hr => by
  rw [hp]
  exact (ht hr).elim h id

theorem State.motion_shakerLook : s.KeepsMotion s.shakerLook := by
  rw [State.shakerLook_eq]
  exact ⟨fun h => h.of_running rfl State.lookedShaker_running, id⟩

/-- A shake unit that is told of nothing more than a change of its own record of the run keeps the laws. -/
theorem State.motion_modShaker {f : Shaker → Shaker} (h : (f s.shaker).st ≠ .running) : s.KeepsMotion (s.modShaker f) :=
  ⟨fun _ hr => absurd hr h, id⟩

theorem State.interruptOrLook_guarded {s : State} (h : s.shaker.st ≠ .running → s.ShakerGuarded) :
    s.interruptOrLook.ShakerGuarded := by
  unfold State.interruptOrLook
  split
  · exact fun hr => absurd hr (by simp [Shaker.interrupt])
  · next hr => exact s.motion_shakerLook.guard (h (by simpa using hr))

theorem State.lawful_interruptOrLook (h : s.Lawful) : s.interruptOrLook.Lawful := by
  unfold State.interruptOrLook
  split
  · exact h
  · exact s.motion_shakerLook.lawful h

/-! ## A change of cell state (R32 to R38) -/

/-- The laws hold once the cap has been judged, which moves it in CAPPED alone. -/
theorem State.Lawful.judged {s t : State} (h : s.Lawful) (hd : t.dck = s.judgedClock) (hi : t.seg.index = s.seg.index) :
    t.Lawful := by
  obtain ⟨hflags, hcap⟩ := h
  obtain ⟨a, k, m, he⟩ := s.judgedClock_change
  constructor
  · simpa only [State.FlagsAgree, State.working, hd, he, hi] using hflags
  · by_cases hc : s.dck.cell = .capped
    · simp [State.CapOpen, hd, he, hc]
    · rw [State.CapOpen, hd, State.judgedClock_of_ne hc]
      exact hcap

theorem State.motion_judgeCap : s.KeepsMotion s.judgeCap := by
  rw [State.judgeCap_eq]
  exact ⟨id, fun h => h.judged rfl rfl⟩

/-- A change of cell state keeps the laws where they hold of the cell state named. -/
theorem State.KeepsMotion.enter {s t : State} {c : CellState} (hg : s.ShakerGuarded → t.ShakerGuarded)
    (hl : s.Lawful → (t.inCell c).Lawful) : s.KeepsMotion (t.enter c) where
  guard h := State.ShakerGuarded.of_running (s := t.inCell c) (hg h) (t.enter_pins c) fun hr =>
    State.shakerAfter_running ((congrArg Shaker.st (t.enter_shaker c)).symm.trans hr)
  lawful h := (hl h).judged (t.enter_dck c) (t.enter_index c)

/-- No flag keeps the cell from its work. -/
def DayClock.Free (d : DayClock) : Prop := d.pause = false ∧ d.jam = false ∧ d.halt = false

theorem State.Lawful.free {s : State} (h : s.Lawful) (hw : s.working = true) : s.dck.Free := by
  obtain ⟨⟨hhalt, -, hjam, -, hpause, -⟩, -⟩ := h
  refine ⟨hpause hw, Bool.eq_false_iff.mpr fun hj => ?_, Bool.eq_false_iff.mpr fun hh => ?_⟩
  · rcases hjam hj with hc | hc <;> simp [State.working, hc] at hw
  · simp [State.working, hhalt.mp hh] at hw

theorem State.lawful_work {s : State} {c : CellState} (h : s.dck.Free) (hc : c = .run ∨ c = .night ∨ c = .capped)
    (hcap : c ≠ .capped → s.dck.cap = .opened) : (s.inCell c).Lawful := by
  obtain ⟨hpause, hjam, hhalt⟩ := h
  constructor
  · rcases hc with rfl | rfl | rfl <;> simp [State.FlagsAgree, State.inCell, State.working, hpause, hjam, hhalt]
  · rcases hc with rfl | rfl | rfl <;> simp [State.CapOpen, State.inCell] <;> exact hcap (by decide)

theorem State.lawful_paused {s : State} (hp : s.dck.pause = true) (hj : s.dck.jam = false) (hh : s.dck.halt = false) :
    (s.inCell .paused).Lawful := by
  simp [State.Lawful, State.FlagsAgree, State.CapOpen, State.inCell, State.working, hp, hj, hh]

theorem State.lawful_halted {s : State} (hh : s.dck.halt = true) (hi : s.seg.index.isRunning = false) :
    (s.inCell .halted).Lawful := by
  simp [State.Lawful, State.FlagsAgree, State.CapOpen, State.inCell, State.working, hh, hi]

theorem State.lawful_jammed {s : State} (hj : s.dck.jam = true) (hh : s.dck.halt = false) (hi : s.seg.index.isRunning =
    false) :
    (s.inCell .jammed).Lawful := by
  simp [State.Lawful, State.FlagsAgree, State.CapOpen, State.inCell, State.working, hj, hh, hi]

theorem State.clockGiven_cases : s.clockGiven = .run ∨ s.clockGiven = .night := by
  unfold State.clockGiven
  split <;> simp

/-- The table of R33 brings a cell that no flag holds back to its work. -/
theorem State.KeepsMotion.enterByCap {s t : State} (hg : s.ShakerGuarded → t.ShakerGuarded) (hl : s.Lawful → t.dck.Free) :
    s.KeepsMotion t.enterByCap := by
  have capped : ∀ d : DayClock, (t.dck.Free → d.Free) → s.KeepsMotion (State.enter { t with dck := d } .capped) :=
    fun d hd => .enter hg fun h => State.lawful_work (hd (hl h)) (by simp) (by simp)
  unfold State.enterByCap
  split
  · next hc => exact .enter hg fun h => State.lawful_work (hl h) (t.clockGiven_cases.imp_right .inl) fun _ => hc
  · exact capped t.dck id
  · exact capped t.dck id
  · exact capped t.dck id
  · split
    · obtain ⟨a, k, m, he⟩ := t.dck.toOpen_change
      rw [State.capOpen_eq, he]
      exact capped _ id
    · obtain ⟨a, k, m, he⟩ := t.dck.toClose_change
      rw [State.capClose_eq, he]
      exact capped _ id

/-- A jam is taken where the drive stands and the cell is not halted (R149). -/
theorem State.KeepsMotion.jamCell {s t : State} (hg : s.ShakerGuarded → t.ShakerGuarded)
    (hl : s.Lawful → t.dck.halt = false ∧ t.seg.index.isRunning = false) : s.KeepsMotion t.jamCell :=
  .enter (t := { t with dck := { t.dck with jam := true } }) hg fun h => State.lawful_jammed rfl (hl h).1 (hl h).2

/-- The state chosen in the order of R38 agrees with the flags where no index is in progress. -/
theorem State.KeepsMotion.chooseState {s t : State} (hg : s.ShakerGuarded → t.ShakerGuarded) (hj : t.dck.jam = false)
    (hi : t.seg.index.isRunning = false) : s.KeepsMotion t.chooseState := by
  unfold State.chooseState
  refine State.motion_ite (fun hh => .enter hg fun _ => State.lawful_halted hh hi) fun hh => ?_
  rw [Bool.not_eq_true] at hh
  refine State.motion_ite (fun hp => .enter hg fun _ => State.lawful_paused hp hj hh) fun hp => ?_
  exact .enterByCap hg fun _ => ⟨Bool.not_eq_true _ ▸ hp, hj, hh⟩

/-! ## The day clock's commands -/

theorem State.Lawful.opened {s : State} (h : s.Lawful) (hc : s.dck.cell = .run ∨ s.dck.cell = .night) :
    s.dck.cap = .opened :=
  h.2 hc

theorem State.motion_judgeWindow (was : Bool) : s.KeepsMotion (s.judgeWindow was) := by
  have told : s.Still (if (!was && s.inside) = true then s.windowOpened else s) :=
    State.still_ite (fun _ => s.still_windowOpened) fun _ => .refl s
  unfold State.judgeWindow
  dsimp only
  generalize (if (!was && s.inside) = true then s.windowOpened else s) = t at told
  have entered : ∀ c, s.working = true → (c = .run ∨ c = .night) → (s.dck.cell = .run ∨ s.dck.cell = .night) →
      s.KeepsMotion (t.enter c) := fun c hw hc hs => told.keeps.trans (.enter id fun h => by
    have hst : t.dck.cell = s.dck.cell := told.cell
    exact State.lawful_work (h.free (by simpa [State.working,
        hst] using hw)) (hc.imp_right .inl) fun _ => h.opened (hst ▸ hs))
  split
  · next hc => exact State.motion_ite (fun _ => entered .night (by simp [State.working,
        hc]) (by simp) (by simp [hc])) fun _ => told.keeps
  · next hc => exact State.motion_ite (fun _ => entered .run (by simp [State.working,
        hc]) (by simp) (by simp [hc])) fun _ => told.keeps
  · exact told.keeps.trans t.motion_judgeCap
  all_goals exact told.keeps

theorem State.motion_takePause : s.KeepsMotion s.takePause := by
  have paused : s.working = true → s.KeepsMotion (State.enter { s with dck := { s.dck with pause := true } } .paused) :=
    fun hw => .enter id fun h => State.lawful_paused rfl (h.free hw).2.1 (h.free hw).2.2
  have flagged : s.working = false → s.KeepsMotion { s with dck := { s.dck with pause := true } } := fun hw =>
    ⟨id, fun ⟨⟨h1, h2, h3, h4, h5, h6⟩, hc⟩ => ⟨⟨h1, h2, h3, fun _ => rfl,
        fun ht => absurd (hw.symm.trans ht) (by decide), h6⟩, hc⟩⟩
  unfold State.takePause
  dsimp only
  split
  case h_1 hc | h_2 hc | h_3 hc => exact paused (by simp [State.working, hc])
  all_goals next hc => exact flagged (by simp [State.working, hc])

theorem State.motion_takeResume : s.KeepsMotion s.takeResume := by
  have flagged : s.dck.cell ≠ .paused → s.KeepsMotion { s with dck := { s.dck with pause := false } } := fun hc =>
    ⟨id, fun ⟨⟨h1, h2, h3, _, _, h6⟩, hcap⟩ => ⟨⟨h1, h2, h3, fun hp => absurd hp hc, fun _ => rfl, h6⟩, hcap⟩⟩
  unfold State.takeResume
  dsimp only
  split
  case h_1 hc =>
    exact .enterByCap (t := { s with dck := { s.dck with pause := false } }) id fun ⟨⟨hhalt, _, hjam, _⟩, _⟩ =>
      ⟨rfl, Bool.eq_false_iff.mpr fun hj => by simpa [hc] using hjam hj,
        Bool.eq_false_iff.mpr fun hh => by simpa [hc] using hhalt.mp hh⟩
  all_goals next hc => exact flagged (by simp [hc])

/-- In CAPPED a cap that is OPEN takes the cell to its clock-given state (R33); elsewhere the position follows. -/
theorem State.motion_capOpened (h : s.dck.cap ≠ .opened) : s.KeepsMotion s.capOpened := by
  have moved : ∀ a k m, s.KeepsMotion { s with dck := { s.dck with cap := a, kept := k, capTime := m } } := fun a k m =>
    ⟨id, fun ⟨hf, hcap⟩ => ⟨hf, fun hc => absurd (hcap hc) h⟩⟩
  have arrived : s.KeepsMotion
      (let t := { s with dck := { s.dck with cap := .opened, kept := none, capTime := 0 } }
       if s.dck.cell == .capped then t.enter t.clockGiven else t) := by
    refine State.motion_ite (fun hc => (moved .opened none 0).trans (.enter id fun hl => ?_)) fun _ => moved _ _ _
    exact State.lawful_work (hl.free (by simpa [State.working] using by simp [show s.dck.cell = .capped by simpa using hc]))
      ((State.clockGiven_cases _).imp_right .inl) fun _ => rfl
  unfold State.capOpened
  split
  · exact moved _ _ _
  · exact arrived
  · exact arrived

theorem State.motion_capClosed (h : s.dck.cap ≠ .opened) : s.KeepsMotion s.capClosed := by
  have moved : ∀ a k m, s.KeepsMotion { s with dck := { s.dck with cap := a, kept := k, capTime := m } } := fun a k m =>
    ⟨id, fun ⟨hf, hcap⟩ => ⟨hf, fun hc => absurd (hcap hc) h⟩⟩
  unfold State.capClosed
  split <;> exact moved _ _ _

theorem Shaker.estop_st (k : Shaker) : k.estop.st ≠ .running := by
  unfold Shaker.estop
  cases h : k.st <;> simp [h]

/-- The stop leaves no drive running, the index and the shaker among them (R36). -/
theorem State.stopDrives_laws {s : State} (hc : s.dck.cell = .halted) (hh : s.dck.halt = true) :
    s.stopDrives.ShakerGuarded ∧ s.stopDrives.Lawful := by
  have hindex : s.seg.index.stop.isRunning = false := by cases s.seg.index <;> rfl
  have hclock : s.dck.stopCap.cell = .halted ∧ s.dck.stopCap.halt = true := by
    unfold DayClock.stopCap
    split <;> exact ⟨hc, hh⟩
  refine ⟨fun hr => absurd hr s.shaker.estop_st, ?_⟩
  simp [State.Lawful, State.FlagsAgree, State.CapOpen, State.working, State.stopDrives, State.stopStirrers, hindex, hclock]

theorem State.motion_takeStop : s.KeepsMotion s.takeStop := by
  have halted := State.enter_dck_of_ne { s with dck := { s.dck with halt := true } } (c := .halted) (by decide)
  have stopped := ((State.enter { s with dck := { s.dck with halt := true } } .halted).still_stopEntries).trans
    (State.still_modTinAt _ 2 Tin.settleDosing)
  obtain ⟨hguard, hlawful⟩ := State.stopDrives_laws (stopped.cell.trans (by rw [halted])) (stopped.halt.trans (by rw [halted]))
  have told := State.Still.keeps (State.still_tellCover
    (State.enter { s with dck := { s.dck with halt := true } } .halted).stopEntries.settleSlot2.stopDrives s.cover)
  exact ⟨fun _ => told.guard hguard, fun _ => told.lawful hlawful⟩

theorem State.motion_leaveHalt (hc : s.dck.cell = .halted) : s.KeepsMotion s.leaveHalt := by
  have still : s.Lawful → s.seg.index.isRunning = false := fun ⟨⟨_, _, _, _, _, hi⟩, _⟩ =>
    Bool.eq_false_iff.mpr fun hr => by simpa [State.working, hc] using hi hr
  unfold State.leaveHalt
  dsimp only
  refine State.motion_ite (fun _ => .refl s) fun _ => State.motion_ite (fun hj => .enter id fun h => ?_) fun hj =>
    State.motion_ite (fun hp => .enter id fun h => ?_) fun hp => .enterByCap id fun h => ?_
  · exact State.lawful_jammed hj rfl (still h)
  · exact State.lawful_paused hp (Bool.not_eq_true _ ▸ hj) rfl
  · exact ⟨Bool.not_eq_true _ ▸ hp, Bool.not_eq_true _ ▸ hj, rfl⟩

/-! ## The segment -/

theorem State.still_rejectLidded : s.Still s.rejectLidded :=
    State.still_ite (fun _ => s.still_modTinAt 6 _) fun _ => .refl s

theorem State.still_judgeSlot7 : s.Still s.judgeSlot7 := State.still_ite (fun _ => s.still_modTinAt 7 _) fun _ => .refl s

theorem State.motion_tellBays : s.KeepsMotion s.tellBays := by
  have arrived : s.Still (State.lidLook (State.arriveSlot2 (State.formWaiting s))) :=
    State.Still.trans (t := s.formWaiting) rfl ((State.still_modTinAt _ 2 _).trans (State.still_lidLook _))
  exact ((arrived.keeps.trans (State.motion_shakerLook _)).trans (State.motion_judgeCap _)).trans
    ((State.still_judgeSlot7 _).trans (State.still_judgePrompt _)).keeps

/-- An index starts where the cell state permits one (R145, R148). -/
theorem State.motion_drive (d : Destination) (p : Bool) (hw : s.working = true) : s.KeepsMotion (s.drive d p) :=
  ⟨id, fun ⟨⟨h1, h2, h3, h4, h5, _⟩, hc⟩ => ⟨⟨h1, h2, h3, h4, h5, fun _ => .inl hw⟩, hc⟩⟩

theorem State.working_of_indexReady {s : State} (h : s.indexReady = true) : s.working = true := by
  simp only [State.indexReady, Bool.and_eq_true] at h
  tauto

theorem State.motion_startIndex (hr : s.indexReady = true) : s.KeepsMotion s.startIndex := by
  have judged := s.still_rejectLidded.trans (State.still_judgeSlot7 _)
  have hw : s.rejectLidded.judgeSlot7.working = true := by
    rw [State.working, judged.cell]
    exact State.working_of_indexReady hr
  have flagged : s.Still { s.rejectLidded.judgeSlot7 with
      seg := { s.rejectLidded.judgeSlot7.seg with pulled := s.takesPull } } := judged
  exact flagged.keeps.trans (State.motion_drive _ _ _ hw)

theorem State.Still.shift {s t : State} (h : s.Still t) (r : Option TinRecord) : s.Still (t.shift r) := h

theorem State.still_pullIn : s.Still s.pullIn :=
  (s.still_afterPull.shift (some s.pulledRecord)).trans (State.still_openIntake _)

theorem State.motion_stand (sh : Shots) :
    s.KeepsMotion { s with seg := { s.seg with index := .idle }, shots := sh } where
  guard h := h
  lawful := by
    rintro ⟨⟨h1, h2, h3, h4, h5, _⟩, hc⟩
    exact ⟨⟨h1, h2, h3, h4, h5, fun hr => absurd hr (by simp [IndexState.isRunning])⟩, hc⟩

/-- An index that completes leaves the drive standing (R146). -/
theorem State.motion_indexMoves (d : Destination) (p : Bool) : s.KeepsMotion (s.indexMoves d p) ∧
    (s.indexMoves d p).seg.index = .idle ∧ (s.indexMoves d p).dck.halt = s.dck.halt := by
  have moved : s.Still (if p then (s.depart d).pullIn else (s.depart d).shift none) :=
    State.still_ite (fun _ => (s.still_depart d).trans (State.still_pullIn _)) fun _ => (s.still_depart d).shift none
  exact ⟨moved.keeps.trans (State.motion_stand _ _), rfl, moved.halt⟩

/-- A cell with an index in progress is not halted (R36). -/
theorem State.Lawful.not_halted {s : State} (h : s.Lawful) (hi : s.seg.index.isRunning = true) : s.dck.halt = false := by
  obtain ⟨⟨hhalt, _, _, _, _, hrun⟩, _⟩ := h
  refine Bool.eq_false_iff.mpr fun hh => ?_
  rcases hrun hi with hw | hw <;> simp [State.working, hhalt.mp hh] at hw

theorem State.motion_reconcile (hc : s.dck.cell = .jammed) : s.KeepsMotion s.reconcile := by
  have settled : s.Still (State.reconcilePull ((List.range 8).foldl State.reconcileSlot s)) :=
    (State.still_foldl State.still_reconcileSlot _ s).trans (State.still_reconcilePull _)
  have halt : s.Lawful → s.dck.halt = false := fun ⟨⟨hh, _⟩, _⟩ =>
    Bool.eq_false_iff.mpr fun h => by simpa [hc] using hh.mp h
  unfold State.reconcile
  dsimp only
  generalize State.reconcilePull ((List.range 8).foldl State.reconcileSlot s) = t at settled ⊢
  refine State.KeepsMotion.trans ?_ (State.motion_tellBays _)
  have hhalt : s.Lawful → t.dck.halt = false := fun h => settled.halt.trans (halt h)
  refine State.motion_ite (fun hp => .enter settled.keeps.guard fun h => ?_) fun hp =>
    .enterByCap settled.keeps.guard fun h => ?_
  · exact State.lawful_paused hp rfl (hhalt h)
  · exact ⟨Bool.not_eq_true _ ▸ hp, rfl, hhalt h⟩

/-! ## Start-up (R38) -/

theorem State.still_buildStatus : s.Still s.buildStatus := rfl

theorem State.KeepsMotion.beginWork {s t : State} (hg : s.ShakerGuarded → t.ShakerGuarded)
    (hi : t.seg.index.isRunning = false) : s.KeepsMotion t.beginWork :=
  (State.KeepsMotion.chooseState (t := { t with dck := { t.dck with halt := t.dck.halt || t.pins.estop, jam := false, idle := 0 } })
    hg rfl hi).trans ((State.still_openIntake _).trans (State.still_buildStatus _)).keeps

theorem State.resetShaker_st : s.resetShaker.st ≠ .running := by
  unfold State.resetShaker
  split <;> simp

theorem State.rebuiltIndex_stands : s.rebuiltIndex.isRunning = false := by
  unfold State.rebuiltIndex
  split <;> rfl

theorem State.motion_powerOn (pins : Pins) : s.KeepsMotion (State.powerOn pins) where
  guard _ hr := absurd hr (by simp [State.powerOn])
  lawful _ := by
    simp [State.Lawful, State.FlagsAgree, State.CapOpen, State.working, State.powerOn, IndexState.isRunning]

theorem State.motion_strapped (pins : Pins) (straps : Straps) :
    (State.powerOn pins).KeepsMotion ((State.powerOn pins).strapped straps) := by
  unfold State.strapped
  refine State.motion_ite (fun _ => State.Still.keeps rfl) fun _ => ⟨id, fun _ => ?_⟩
  simp [State.Lawful, State.FlagsAgree, State.CapOpen, State.working, State.powerOn, IndexState.isRunning]

/-! ## Every command -/

/-- A command of the gate of RESET_L keeps what its effect keeps. -/
theorem State.act_motion {s t : State} {f : State → State} (h : s.act f = .next t) (hf : s.KeepsMotion (f s)) :
    s.KeepsMotion t := by
  simp only [State.act, Host.Outcome.next.injEq] at h
  rw [← h]
  exact State.motion_ite (fun _ => .refl s) fun _ => hf

theorem State.act_still {s t : State} {f : State → State} (h : s.act f = .next t) (hf : s.Still (f s)) : s.KeepsMotion t :=
  State.act_motion h hf.keeps

theorem State.motion_hear (k : Sender) (src : Nat) (ok : Bool) {take : State → State} (h : ∀ s : State,
    s.KeepsMotion (take s)) :
    s.KeepsMotion (s.hear k src ok take) :=
  State.motion_ite (fun _ => .refl s) fun _ => State.motion_ite
    (fun _ => (State.Still.keeps (State.still_ite (fun _ => s.still_refresh src none) fun _ => .refl s)).trans (h _))
    fun _ => State.Still.keeps rfl

variable {s} in
theorem execStartingEnd_motion {t : State} {im : ImageRead} {x : Sample} (h : execStartingEnd im x s = .next t) :
    s.KeepsMotion t := by
  refine State.act_motion h (State.motion_ite (fun hc => ?_) fun _ => .refl s)
  rw [beq_iff_eq] at hc
  split
  · refine .trans (t := { s.latch x with cfg := { s.cfg with fault := _ }, dck := { s.dck with cell := .configFault } })
      ⟨id, fun ⟨⟨hhalt, _, hjam, _, _, hrun⟩, _⟩ => ?_⟩ (State.still_buildStatus _).keeps
    have halt : s.dck.halt = false := Bool.eq_false_iff.mpr fun h => by simpa [hc] using hhalt.mp h
    have jam : s.dck.jam = false := Bool.eq_false_iff.mpr fun h => by simpa [hc] using hjam h
    have stands : s.seg.index.isRunning = false := Bool.eq_false_iff.mpr fun h => by
      simpa [State.working, hc] using hrun h
    simp [State.Lawful, State.FlagsAgree, State.CapOpen, State.working, halt, jam, stands]
  · exact .beginWork (fun _ hr => absurd hr (State.resetShaker_st _)) (State.rebuiltIndex_stands _)

theorem State.motion_restart : s.KeepsMotion s.restartCanisters.emptyQueue.clearRecords.forget.beginWork :=
  .beginWork (fun _ hr => absurd hr (State.resetShaker_st _)) (State.rebuiltIndex_stands _)

variable {s} in
theorem execIndexComplete_motion {t : State} {x : Sample} (h : execIndexComplete x s = .next t) : s.KeepsMotion t := by
  refine State.act_motion h ?_
  split
  · next d p k hi =>
    obtain ⟨moved, hindex, hhalt⟩ := (s.latch { x with offIndex := false }).motion_indexMoves d p
    have latched : s.KeepsMotion (s.latch { x with offIndex := false }) := State.Still.keeps rfl
    refine State.motion_ite (fun _ => (latched.trans moved).trans (State.motion_tellBays _)) fun _ =>
      .jamCell (latched.trans moved).guard fun hl => ⟨hhalt.trans (hl.not_halted ?_), ?_⟩
    · rw [hi]; rfl
    · rw [hindex]; rfl
  · exact .refl s
  · exact .refl s

variable {s} in
theorem execIndexTimeout_motion {t : State} (h : execIndexTimeout s = .next t) : s.KeepsMotion t := by
  refine State.act_motion h ?_
  split
  · next hi => exact .jamCell id fun hl => ⟨hl.not_halted (by rw [hi]; rfl), rfl⟩
  · exact .refl s
  · exact .refl s

variable {s} in
theorem execIndexFinish_motion {t : State} (h : execIndexFinish s = .next t) : s.KeepsMotion t := by
  refine State.act_motion h ?_
  split
  · next hi =>
    refine State.motion_ite (fun hr => s.motion_drive _ _ ?_) fun _ => .refl s
    simp only [State.finishReady, hi, Bool.and_eq_true] at hr
    exact hr.1
  · exact .refl s
  · exact .refl s

theorem State.motion_takeClock (m : Moment) : s.KeepsMotion (s.takeClock m) := by
  have moved : s.Still (s.setMoment m) := rfl
  have told : (s.setMoment m).Still (State.settingStirrers (s.setMoment m) s.dck.moment) :=
    (State.still_ite (fun _ => State.still_settingBack _) fun _ => .refl _).trans (State.still_dueTestAll _)
  exact (moved.trans told).keeps.trans (State.motion_judgeWindow _ _)

section
variable {s} {t : State}

theorem execFrameComplete_motion (h : execFrameComplete s = .next t) : s.KeepsMotion t := by
  refine State.act_still h ?_
  split
  · exact .refl s
  · next q _ =>
    obtain ⟨x, a, he⟩ := (s.setQueue (s.bus.queue.filter (fun q => !q.sending))).told_frame q
    rw [he]
    rfl

theorem execCancel_motion {src : Nat} {id : OrderId} (h : execCancel src id s = .next t) : s.KeepsMotion t :=
  State.act_still h (s.still_hear _ _ _ fun s => s.still_booked (by
    split
    · exact .refl s
    · exact State.still_ite (fun _ => s.still_takeCancel _) fun _ => .refl s))

theorem execClaim_motion {src : Nat} {id : OrderId} {est : Nat} {c : Bool} (h : execClaim src id est c s = .next t) :
    s.KeepsMotion t :=
  State.act_still h (s.still_hear _ _ _ fun s => s.still_booked (by
    split
    · exact .refl s
    · dsimp only
      split
      · rfl
      · exact State.still_ite (fun _ => .refl s) fun _ => s.still_contest _ _ _))

theorem execJobStatus_motion {src : Nat} {m : JobStatusMsg} (h : execJobStatus src m s = .next t) : s.KeepsMotion t :=
  State.act_still h (s.still_hear _ _ _ fun s => s.still_booked (State.still_ite (fun _ => .refl s) fun _ => by
    split
    · exact .refl s
    · split
      · rfl
      · exact State.still_ite (fun _ => .refl s) fun _ => s.still_placeClaim _))

theorem execIdleTimeout_motion (h : execIdleTimeout s = .next t) : s.KeepsMotion t := by
  refine State.act_motion h (State.motion_ite (fun hi => ?_) fun _ => .refl s)
  simp only [Bool.and_eq_true, beq_iff_eq] at hi
  obtain ⟨a, k, m, he⟩ := s.dck.toClose_change
  rw [State.capClose_eq, he]
  exact .enter id fun hl => State.lawful_work (s := { s with dck := { s.dck with cap := a, kept := k, capTime := m } })
    (hl.free (by simp [State.working, hi.1])) (by simp) (by simp)

theorem execCapMoveEnd_motion {x : Sample} (h : execCapMoveEnd x s = .next t) : s.KeepsMotion t := by
  refine State.act_motion h ?_
  have latched := (s.still_latch x).keeps
  split
  case h_1 hc => exact latched.trans (State.motion_capOpened _ (by simp [hc]))
  case h_2 hc => exact latched.trans (State.motion_capClosed _ (by simp [hc]))
  all_goals exact .refl s

theorem execEmergencyStop_motion {x : Sample} (h : execEmergencyStop x s = .next t) : s.KeepsMotion t := by
  refine State.act_motion h ?_
  have pressed : s.KeepsMotion { s.latch x with pins := { (s.latch x).pins with estop := true } } := State.Still.keeps rfl
  dsimp only
  split
  case h_1 | h_2 | h_3 | h_4 | h_5 => exact pressed.trans (State.motion_takeStop _)
  all_goals exact pressed

theorem execConfirm_motion {x : Sample} (h : execConfirm x s = .next t) : s.KeepsMotion t := by
  refine State.act_motion h ?_
  have latched := (s.still_latch x).keeps
  dsimp only
  split
  case h_1 hc => exact latched.trans (State.motion_leaveHalt _ hc)
  case h_2 hc => exact latched.trans (State.motion_reconcile _ hc)
  all_goals exact State.Still.keeps rfl

theorem execLoaded_motion {x : Sample} (h : execLoaded x s = .next t) : s.KeepsMotion t := by
  refine State.act_still h (State.still_ite (fun _ => ?_) fun _ => rfl)
  have stranger : s.Still (s.latch x).takeStranger := State.still_ite (fun _ => rfl) fun _ => rfl
  split
  · exact State.still_takeLoad (s.latch x) _ _
  · exact stranger
  · exact stranger

theorem execOfferWindowEnd_motion {id : OrderId} (h : execOfferWindowEnd id s = .next t) : s.KeepsMotion t := by
  refine State.act_still h ?_
  split
  · exact .refl s
  · refine State.still_ite (fun _ => State.still_ite (fun _ => State.still_placeClaim (s.modEntry id _) id) fun _ => ?_)
      fun _ => .refl s
    split <;> rfl

theorem execClaimSettleEnd_motion {id : OrderId} (h : execClaimSettleEnd id s = .next t) : s.KeepsMotion t := by
  refine State.act_still h ?_
  split
  · exact .refl s
  · exact State.still_ite (fun _ => State.still_placeJobStatus (s.modEntry id _) id) fun _ => .refl s

theorem execStirringRunEnd_motion {n : Fin 16} (h : execStirringRunEnd n s = .next t) : s.KeepsMotion t := by
  refine State.act_still h ?_
  split
  · exact .refl s
  · exact State.still_ite (fun _ => rfl) fun _ => .refl s

theorem execChannelGrant_motion (h : execChannelGrant s = .next t) : s.KeepsMotion t := by
  refine State.act_still h ?_
  split
  · exact .refl s
  · exact s.still_grantTo _ _

theorem execSwitchEnd_motion {ch : Fin 4} (h : execSwitchEnd ch s = .next t) : s.KeepsMotion t := by
  refine State.act_still h ?_
  split
  · exact .refl s
  · exact State.still_ite (fun _ => State.still_nextMove (s.modPump _ _) _) fun _ => .refl s

theorem execStrokeEnd_motion {ch : Fin 4} {g : Gray} (h : execStrokeEnd ch g s = .next t) : s.KeepsMotion t := by
  refine State.act_still h ?_
  split
  · exact .refl s
  · next e _ =>
    split
    case h_1 p _ =>
      refine State.still_ite (fun _ => ?_) fun _ => .refl s
      exact (State.still_ite (fun _ => State.still_strokeComplete (s.latchGray p.canister g) ch e p)
        fun _ => State.still_abortEntry (s.latchGray p.canister g) ch _ _ g).trans (State.still_afterDosing _ _)
    all_goals exact .refl s

theorem execRefillEnd_motion {ch : Fin 4} {g : Gray} (h : execRefillEnd ch g s = .next t) : s.KeepsMotion t := by
  refine State.act_still h ?_
  split
  · exact .refl s
  · next n _ =>
    refine State.still_ite (fun _ => State.still_ite (fun _ => State.still_nextMove ((s.latchGray n g).modPump n _) ch)
      fun _ => ?_) fun _ => .refl s
    exact (State.still_abortEntry (s.latchGray n g) ch 0 _ g).trans (State.still_afterDosing _ _)

theorem execDriveFault_motion {ch : Fin 4} {g : Gray} (h : execDriveFault ch g s = .next t) : s.KeepsMotion t := by
  refine State.act_still h ?_
  dsimp only
  split
  · rfl
  · next n _ =>
    exact (State.still_abortEntry ((s.setFault ch true).latchGray n g) ch _ _ g).trans (State.still_afterDosing _ _)

theorem execLoadWaitDisplay_motion (h : execLoadWaitDisplay s = .next t) : s.KeepsMotion t := by
  refine State.act_still h ?_
  split <;> rfl

theorem execConsignRepeat_motion {q : Nat} (h : execConsignRepeat q s = .next t) : s.KeepsMotion t := by
  refine State.act_still h ?_
  split
  · exact .refl s
  · exact State.still_ite (fun _ => rfl) fun _ => .refl s

theorem execTinArrival_motion {g : Option TinId} (h : execTinArrival g s = .next t) : s.KeepsMotion t := by
  refine State.act_still h ?_
  dsimp only
  split
  · exact State.still_firstRead ((s.latchTag g).setLaneHead true)
  all_goals rfl

theorem execHoldRead_motion {g : Option TinId} (h : execHoldRead g s = .next t) : s.KeepsMotion t := by
  refine State.act_still h ?_
  split
  · unfold State.judgeRead
    split
    · exact State.still_ite (fun _ => rfl) fun _ => rfl
    · rfl
  all_goals exact .refl s

theorem execHoldPeriodEnd_motion (h : execHoldPeriodEnd s = .next t) : s.KeepsMotion t := by
  refine State.act_still h ?_
  split
  · exact State.still_ite (fun _ => rfl) fun _ => s.still_resolveHold _
  all_goals exact .refl s

theorem execPressComplete_motion (h : execPressComplete s = .next t) : s.KeepsMotion t := by
  refine State.act_still h ?_
  split
  · exact s.still_modTinAt 4 _
  all_goals exact .refl s

theorem execPressTimeout_motion (h : execPressTimeout s = .next t) : s.KeepsMotion t := by
  refine State.act_still h ?_
  split
  · exact s.still_modTinAt 4 _
  all_goals exact .refl s

/-- A shake unit put in a state in which it does not run keeps the laws. -/
theorem State.motion_shaker (u : State) {k : Shaker} (hk : k.st ≠ .running) : u.KeepsMotion { u with shaker := k } :=
  ⟨fun _ hr => absurd hr hk, id⟩

theorem execTransferInComplete_motion (h : execTransferInComplete s = .next t) : s.KeepsMotion t := by
  refine State.act_motion h ?_
  have moved : s.Still ((s.setShakerTin true).setSlot 6 none) := rfl
  dsimp only
  split
  case h_1 =>
    refine moved.keeps.trans ((State.motion_shaker _ ?_).trans (State.motion_shakerLook _))
    simp
  all_goals exact State.Still.keeps rfl

theorem execReturnComplete_motion (h : execReturnComplete s = .next t) : s.KeepsMotion t := by
  refine State.act_motion h ?_
  dsimp only
  have reported : ∀ (u : State) r, u.Still (u.reportDone r) := fun u r => by
    unfold State.reportDone
    split
    · exact .refl u
    · exact State.still_ite (fun _ => u.still_report _) fun _ => .refl u
  have moved : ∀ r, s.Still ((s.setSensed 7).setSlot 7 r) := fun _ => rfl
  split
  case h_1 =>
    refine (moved _).keeps.trans (((State.motion_shaker _ ?_).trans (reported _ _).keeps).trans (State.motion_shakerLook _))
    simp
  all_goals exact State.Still.keeps rfl

theorem execPrinterReady_motion (h : execPrinterReady s = .next t) : s.KeepsMotion t := by
  refine State.act_still h ?_
  dsimp only
  split <;> rfl

theorem execAttentionChange_motion {i : Fin 7} {b : Bool} (h : execAttentionChange i b s = .next t) : s.KeepsMotion t := by
  refine State.act_still h ?_
  have set : s.Still (s.setAtn i b) := State.still_ite (fun _ => rfl) fun _ => State.still_ite (fun _ => rfl) fun _ => .refl s
  exact set.trans (State.still_ite (fun _ => .refl _) fun _ => rfl)

end

/-- Every command keeps the laws of motion. -/
theorem exec_motion {c : Instr} {s t : State} (h : exec c s = .next t) : s.KeepsMotion t := by
  unfold exec at h
  cases c with
  | resetAsserted => cases h; exact (s.motion_powerOn s.pins).trans (State.Still.keeps rfl)
  | powerOn straps pins =>
    cases h
    exact ((s.motion_powerOn pins).trans (State.motion_strapped pins straps)).trans (State.Still.keeps rfl)
  | startingEnd im x => exact execStartingEnd_motion h
  | quietGap => exact State.act_still h (State.still_ite (fun _ => .refl s) fun _ => rfl)
  | arbitrationLost => exact State.act_still h rfl
  | frameAbandoned => exact State.act_still h rfl
  | frameComplete => exact execFrameComplete_motion h
  | frameDiscarded f => exact State.act_still h (State.still_ite (fun _ => rfl) fun _ => .refl s)
  | statusPeriod => exact State.act_still h (State.still_ite (fun _ => s.still_buildStatus) fun _ => .refl s)
  | order src m =>
    have counted : ∀ u : State, u.Still (if m.lengthOk then u else u.rxError) := fun u =>
      State.still_ite (fun _ => .refl u) fun _ => rfl
    exact State.act_still h (s.still_hear _ _ _ fun u => (counted u).trans (State.still_booked _ (State.still_takeOrder _ m)))
  | cancel src id => exact execCancel_motion h
  | offer src id est => exact State.act_still h (s.still_hear _ _ _ fun s => s.still_booked rfl)
  | claim src id est committed => exact execClaim_motion h
  | withdraw src id => exact State.act_still h (s.still_hear _ _ _ fun s => s.still_booked rfl)
  | jobStatus src m => exact execJobStatus_motion h
  | cellStatus src m tag =>
    exact State.act_still h (State.still_hear (s.latchTag tag) _ _ _ fun s => s.still_takeStatus src m)
  | consign src m tag =>
    exact State.act_still h (State.still_hear (s.latchTag tag) _ _ _ fun s =>
      State.still_ite (fun _ => s.still_takeConsign m) fun _ => .refl s)
  | tinReport src m =>
    exact State.act_still h (s.still_hear _ _ _ fun s => s.still_booked
      (State.still_ite (fun _ => s.still_resolveTin _ _) fun _ => .refl s))
  | stockRefill src target n v st b => exact State.act_still h (s.still_stock _ _ fun s => s.still_takeRefill n v st b)
  | stockSetLevel src target n l st b => exact State.act_still h (s.still_stock _ _ fun s => s.still_takeSetLevel n l st b)
  | stockLock src target n => exact State.act_still h (s.still_stock _ _ fun s => s.still_takeLock n)
  | stockRelease src target n g =>
    exact State.act_still h (s.still_stock _ _ fun s => State.still_takeRelease (s.latchGray n g) n g)
  | stockReply src m => exact State.act_still h (s.still_hear _ _ _ fun s => .refl s)
  | lidLoad src target size lid count b =>
    exact State.act_still h (State.still_hear (s.latchLid b) _ _ _ fun s =>
      State.still_ite (fun _ => s.still_takeLidLoad size lid count) fun _ => .refl s)
  | clock src time day x =>
    exact State.act_motion h ((s.still_latch x).keeps.trans (State.motion_hear _ _ _ _ fun s =>
      State.motion_ite (fun _ => s.motion_takeClock _) fun _ => State.Still.keeps rfl))
  | pause src => exact State.act_motion h (s.motion_hear _ _ _ State.motion_takePause)
  | resume src x =>
    exact State.act_motion h ((s.still_latch x).keeps.trans (State.motion_hear _ _ _ _ State.motion_takeResume))
  | restart src target x =>
    exact State.act_motion h ((s.still_latch x).keeps.trans (State.motion_hear _ _ _ _ fun s =>
      State.motion_ite (fun _ => s.motion_restart) fun _ => .refl s))
  | entryStale n =>
    exact State.act_still h (State.still_ite (fun _ => State.still_retestBlocked (s.modPeer n _)) fun _ => .refl s)
  | entryGone n =>
    exact State.act_still h (State.still_ite (fun _ => State.still_retestBlocked (s.modPeer n _)) fun _ => .refl s)
  | entryFreed n =>
    have freed : s.Still (State.retestBlocked { s with stations := s.stations.filter (fun e => e.number != n) }) :=
      State.still_retestBlocked { s with stations := s.stations.filter (fun e => e.number != n) }
    exact State.act_still h (State.still_ite (fun _ => State.still_ite (fun _ => freed.trans rfl) fun _ => freed) fun _ => .refl s)
  | clockAdvance x =>
    have advanced : s.Still { s.latch x with dck := { s.dck with moment := s.dck.moment.add 1, sub := 0 } } := rfl
    exact State.act_motion h ((advanced.trans (State.still_dueTestAll _)).keeps.trans (State.motion_judgeWindow _ _))
  | idleTimeout => exact execIdleTimeout_motion h
  | capMoveEnd x => exact execCapMoveEnd_motion h
  | emergencyStop x => exact execEmergencyStop_motion h
  | estopReleased => exact State.act_still h rfl
  | loaded x => exact execLoaded_motion h
  | skip => exact State.act_still h (State.still_ite (fun _ => rfl) fun _ => .refl s)
  | confirm x => exact execConfirm_motion h
  | offerWindowEnd id => exact execOfferWindowEnd_motion h
  | claimSettleEnd id => exact execClaimSettleEnd_motion h
  | claimWaitEnd id => exact State.act_still h rfl
  | loadGate x =>
    exact State.act_still h (State.still_ite (fun _ => State.still_tryGates (s.latch x) _) fun _ => rfl)
  | tinOverdue tin => exact State.act_still h (s.still_resolveTin tin _)
  | jobStatusRepeat id => exact State.act_still h (State.still_ite (fun _ => s.still_placeJobStatus id) fun _ => .refl s)
  | retentionEnd id => exact State.act_still h rfl
  | stirringRunEnd n => exact execStirringRunEnd_motion h
  | channelGrant => exact execChannelGrant_motion h
  | switchEnd ch => exact execSwitchEnd_motion h
  | strokeEnd ch g => exact execStrokeEnd_motion h
  | refillEnd ch g => exact execRefillEnd_motion h
  | driveFault ch g => exact execDriveFault_motion h
  | channelFaultCleared ch => exact State.act_still h rfl
  | spillAsserted => exact State.act_still h rfl
  | spillReleased => exact State.act_still h rfl
  | indexCommand => exact State.act_motion h (State.motion_ite (fun hr => s.motion_startIndex hr) fun _ => .refl s)
  | indexComplete x => exact execIndexComplete_motion h
  | indexTimeout => exact execIndexTimeout_motion h
  | indexFinish => exact execIndexFinish_motion h
  | loadWaitEnd => exact State.act_still h (State.still_ite (fun _ => rfl) fun _ => .refl s)
  | loadWaitDisplay => exact execLoadWaitDisplay_motion h
  | chuteDoorOpened => exact State.act_still h rfl
  | chuteDoorClosed => exact State.act_still h rfl
  | dispatchFullChange full => exact State.act_still h rfl
  | consignRepeat q => exact execConsignRepeat_motion h
  | tinArrival tag => exact execTinArrival_motion h
  | tinLiftedOff => exact State.act_still h (State.still_ite (fun _ => rfl) fun _ => rfl)
  | holdRead tag => exact execHoldRead_motion h
  | holdPeriodEnd => exact execHoldPeriodEnd_motion h
  | pressComplete => exact execPressComplete_motion h
  | pressTimeout => exact execPressTimeout_motion h
  | hatchOpened m => exact State.act_still h (State.still_modMagazine (s.setHatch m true) _ _)
  | hatchClosed m b => exact State.act_still h (State.still_lidRejudge ((s.latchLid b).setHatch m false) _)
  | transferInComplete => exact execTransferInComplete_motion h
  | clampConfirmed =>
    have clamped : s.KeepsMotion (s.setClamp true) := ⟨fun h hr => ⟨rfl, (h hr).2⟩, id⟩
    exact State.act_motion h (clamped.trans (State.motion_shakerLook _))
  | clampConfirmationLost =>
    exact State.act_motion h ⟨fun _ => State.interruptOrLook_guarded fun hn hr => absurd hr hn,
      fun hl => State.lawful_interruptOrLook (s.setClamp false) hl⟩
  | doorOpened =>
    exact State.act_motion h ⟨fun _ => State.interruptOrLook_guarded fun hn hr => absurd hr hn,
      fun hl => State.lawful_interruptOrLook (s.setDoor true) hl⟩
  | doorClosed =>
    have closed : s.KeepsMotion (s.setDoor false) := ⟨fun h hr => ⟨(h hr).1, rfl⟩, id⟩
    exact State.act_motion h (closed.trans (State.motion_shakerLook _))
  | shakeRunEnd =>
    exact State.act_motion h (State.motion_ite (fun _ => (s.motion_modShaker (by simp)).trans (State.motion_shakerLook _))
      fun _ => .refl s)
  | returnComplete => exact execReturnComplete_motion h
  | lidLoadEntry size lid count b =>
    exact State.act_still h (State.still_ite (fun _ => (State.still_takeLidLoad (s.latchLid b) size lid count).trans rfl) fun _ => rfl)
  | magazineView m => exact State.act_still h (State.still_ite (fun _ => rfl) fun _ => .refl s)
  | printerReady => exact execPrinterReady_motion h
  | attentionChange i b => exact execAttentionChange_motion h

/-! ## One millisecond -/

theorem State.still_pass : s.Still s.pass := by
  have bus : s.Still (State.tickBus { s with now := s.now + 1 }) :=
    State.still_ite (fun _ => rfl) fun _ => rfl
  have segment : ∀ t : State, t.Still t.tickSegment := fun t => by
    have : t.seg.index.tick.isRunning = t.seg.index.isRunning := by cases t.seg.index <;> rfl
    simp [State.Still, State.motion, State.tickSegment, this]
  have bays : ∀ t : State, t.Still t.tickBays := fun t => by
    simp only [State.Still, State.motion, State.tickBays]
    split <;> rfl
  have clock : ∀ t : State, t.Still (State.tickPumps (State.tickStirrers (State.tickBook (State.tickClock (State.tickStations t))))) :=
    fun _ => rfl
  have transfer : ∀ t : State, t.Still t.tickTransfer := fun _ => rfl
  exact (((bus.trans (clock _)).trans (segment _)).trans (transfer _)).trans (bays _)

theorem State.motion_idleStep : s.KeepsMotion s.idleStep := by
  refine State.motion_ite (fun _ => .refl s) fun _ => ?_
  split
  · exact State.Still.keeps rfl
  · exact s.still_pass.keeps.trans (State.Still.keeps rfl)

/-- Every step keeps the laws of motion. -/
theorem step_motion {t : State} (h : step s = .next t) : s.KeepsMotion t := by
  unfold step at h
  split at h
  · cases h
    exact s.motion_idleStep
  · next i rest _ => exact .trans (t := { s with pending := rest }) (State.Still.keeps rfl) (exec_motion h)

/-- Settles O59: the laws of motion are an invariant of every step, since a drive is started, and a cell state entered,
only where they allow it, and every other operation leaves what they read as it is. -/
theorem motionLawsKept : Obligations.MotionLawsKept := by
  unfold Obligations.MotionLawsKept
  exact ⟨fun s t h => (step_motion s h).guard, fun s t h hf hc => (step_motion s h).lawful ⟨hf, hc⟩⟩

end Sys2Proof.Machine
end

/-! # Proofs: moments and the working window (O17) -/

section
namespace Sys2Proof.Machine

/-! ## Days (R26, R27) -/

/-- The days from `b` to `a`, read modulo 65,536 (R27). -/
theorem dayDiff_eq {a b k : Nat} (hb : b < 65536) (ha : a = (b + k) % 65536) (hk : k < 65536) : dayDiff a b = k := by
  unfold dayDiff
  omega

theorem dayDiff_rev {a b k : Nat} (hb : b < 65536) (ha : a = (b + k) % 65536) (h1 : 1 ≤ k) (hk : k < 65536) :
    dayDiff b a = 65536 - k := by
  unfold dayDiff
  omega

theorem dayDiff_self (a : Nat) : dayDiff a a = 0 := by simp [dayDiff]

theorem dayDiff_eq_zero {a b : Nat} (ha : a < 65536) (hb : b < 65536) : dayDiff a b = 0 ↔ a = b := by
  unfold dayDiff
  omega

/-! ## The later of two moments (R27) -/

theorem Moment.later_same_day {a b : Moment} (h : a.day = b.day) : Moment.later a b = true ↔ b.sec < a.sec := by
  simp [Moment.later, h, dayDiff_self]

theorem Moment.later_of_days {a b : Moment} (h : dayDiff a.day b.day ≠ 0) :
    Moment.later a b = true ↔ dayDiff a.day b.day ≤ 32767 := by
  simp [Moment.later, h]

theorem Moment.eq_iff (a b : Moment) : a = b ↔ a.day = b.day ∧ a.sec = b.sec := by
  cases a
  cases b
  exact Moment.mk.injEq .. ▸ Iff.rfl

theorem Moment.reached_iff {a b : Moment} (ha : a.day < 65536) (hb : b.day < 65536) :
    Moment.reached a b = true ↔ Moment.later a b = true ∨ a = b := by
  simp only [Moment.reached, Bool.or_eq_true, Bool.and_eq_true, beq_iff_eq, dayDiff_eq_zero ha hb, Moment.eq_iff]

/-! ## A duration added (R26) -/

theorem Moment.add_days (m : Moment) (d : Nat) :
    m.sec + d = (m.sec + d) / 86400 * 86400 + (m.add d).sec ∧
      (m.add d).day = (m.day + (m.sec + d) / 86400) % 65536 :=
  ⟨(Nat.div_add_mod' _ _).symm, rfl⟩

theorem Moment.add_sec_lt (m : Moment) (d : Nat) : (m.add d).sec < 86400 := Nat.mod_lt _ (by decide)

theorem Moment.add_day_lt (m : Moment) (d : Nat) : (m.add d).day < 65536 := Nat.mod_lt _ (by decide)

/-- A sum of up to 32,767 days is never earlier than the moment it was made from. -/
theorem Moment.add_not_earlier {m : Moment} {d : Nat} (hday : m.day < 65536) (hsec : m.sec < 86400) (hd : d ≤ 32767 * 86400) :
    Moment.later m (m.add d) = false ∧ Moment.reached (m.add d) m = true := by
  obtain ⟨hsum, hcarry⟩ := m.add_days d
  have hk : (m.sec + d) / 86400 ≤ 32767 := by omega
  generalize (m.sec + d) / 86400 = k at hsum hcarry hk
  rw [Moment.reached_iff (m.add_day_lt d) hday, ← Bool.not_eq_true]
  by_cases h0 : k = 0
  · have hsame : m.day = (m.add d).day := by rw [hcarry]; omega
    rw [Moment.later_same_day hsame, Moment.later_same_day hsame.symm, Moment.eq_iff]
    omega
  · have hahead := dayDiff_eq hday hcarry (by omega)
    have hback := dayDiff_rev hday hcarry (by omega) (by omega)
    rw [Moment.later_of_days (by omega), Moment.later_of_days (by omega)]
    omega

/-! ## The working window (R28) -/

theorem State.inside_of_unset {s : State} (h : s.dck.unset = true) : s.inside = true := by simp [State.inside, h]

theorem State.inside_of_image {s : State} {im : Image} (hi : s.cfg.image = some im) (hu : s.dck.unset = false) :
    s.inside = insideTimes (secsOf im.openTime) (secsOf im.closeTime) s.dck.moment.sec := by
  simp [State.inside, hi, hu]

theorem insideTimes_iff (o c t : Nat) :
    (o < c → (insideTimes o c t = true ↔ o ≤ t ∧ t < c)) ∧ (c < o → (insideTimes o c t = true ↔ o ≤ t ∨ t < c)) ∧
      (o = c → insideTimes o c t = true) := by
  refine ⟨fun h => ?_, fun h => ?_, fun h => ?_⟩
  · simp [insideTimes, h]
  · simp [insideTimes, h, Nat.not_lt.mpr h.le]
  · simp [insideTimes, h]

/-- Settles O17: R26 and R27 by arithmetic on days modulo 65,536, R28 by the order of the window's times. -/
theorem momentsAndWindow : Obligations.MomentsAndWindow := by
  unfold Obligations.MomentsAndWindow
  refine ⟨fun m d hday hsec => ⟨m.add_sec_lt d, m.add_day_lt d, ⟨_, m.add_days d⟩, Moment.add_not_earlier hday hsec⟩,
    fun a b ha hb => ⟨Moment.later_same_day, fun k hk h1 h2 => ?_, fun k hk h1 h2 => ?_, Moment.reached_iff ha hb⟩,
    fun s => ⟨State.inside_of_unset, fun im hi hu => ?_, ?_, ?_⟩⟩
  · have hahead := dayDiff_eq hb hk (by omega)
    have hback := dayDiff_rev hb hk h1 (by omega)
    rw [← Bool.not_eq_true, Moment.later_of_days (by omega), Moment.later_of_days (by omega)]
    omega
  · have hahead := dayDiff_eq hb hk (by omega)
    rw [← Bool.not_eq_true, Moment.later_of_days (by omega)]
    omega
  · rw [State.inside_of_image hi hu]
    exact insideTimes_iff _ _ _
  · exact fun h => by simp [State.clockGiven, h]
  · exact fun h => by simp [State.clockGiven, h]

end Sys2Proof.Machine
end

/-! # Proofs: CLOCK and CLOCK_ADVANCE (O18) -/

section
namespace Sys2Proof.Machine

variable (s : State)

/-! ## The stirrers told of the clock (R107, R112, R113) -/

/-- A stirrer whose due moment lies further ahead than `interval` has it pulled back (R112, R113). -/
def Stirrer.pulled (r : Stirrer) (now : Moment) (interval : Nat) : Stirrer :=
  if r.st = .idle ∧ r.flag = false ∧ Moment.later r.due now = true ∧ interval < Moment.ahead r.due now then
    { r with due := now.add interval }
  else r

/-- A stirrer whose due moment is tested (R107). -/
def State.dueTested (s : State) (n : Nat) (r : Stirrer) : Stirrer :=
  if (s.fitted n).isSome ∧ r.st = .idle ∧ r.flag = false ∧ Moment.reached s.dck.moment r.due = true then
    s.tested n { r with flag := true }
  else r

/-- A stirrer of a fitted canister pulled back to the interval `f` gives it. -/
def State.pulledAt (s : State) (f : CanisterCfg → Nat) (n : Nat) (r : Stirrer) : Stirrer :=
  match s.fitted n with
  | none => r
  | some cfg => r.pulled s.dck.moment (f cfg)

theorem State.pullDue_eq (n i : Nat) : s.pullDue n i = s.modStir n (fun r => r.pulled s.dck.moment i) := by
  unfold State.pullDue
  simp only [Bool.and_eq_true, beq_iff_eq, Bool.not_eq_true', decide_eq_true_eq]
  split
  · next h => exact State.modStir_congr (by simp [Stirrer.pulled, h])
  · next h => exact (State.modStir_id (f := fun r => r.pulled s.dck.moment i) (if_neg (by tauto))).symm

theorem State.modStir_modStir (n : Nat) (f g : Stirrer → Stirrer) :
    (s.modStir n f).modStir n g = s.modStir n (fun r => g (f r)) := by
  simp only [State.modStir, State.modCanister, List.modify_modify_eq]
  rfl

theorem State.dueTest_eq (n : Nat) : s.dueTest n = s.modStir n (s.dueTested n) := by
  unfold State.dueTest
  simp only [Bool.and_eq_true, beq_iff_eq, Bool.not_eq_true']
  split
  · next h =>
    rw [State.stirTest_eq, State.modStir_modStir]
    exact State.modStir_congr (by rw [State.dueTested, if_pos (by tauto)]; rfl)
  · next h => exact (State.modStir_id (f := s.dueTested n) (if_neg (by tauto))).symm

theorem State.dueTestAll_eq : s.dueTestAll = s.mapStirs s.dueTested :=
  State.foldl_stirs fun cs n => State.dueTest_eq { s with canisters := cs } n

/-- A fold that pulls the due moment of every fitted canister back to the interval `f` gives it. -/
theorem State.foldl_pullDue {f : State → CanisterCfg → Nat} (hf : ∀ cs cfg, f { s with canisters := cs } cfg = f s cfg) :
    (List.range 16).foldl (fun s n => match s.fitted n with
      | none => s
      | some cfg => s.pullDue n (f s cfg)) s = s.mapStirs (s.pulledAt (f s)) := by
  refine State.foldl_stirs fun cs n => ?_
  change (match s.fitted n with | none => _ | some cfg => _) = _
  cases h : s.fitted n with
  | none => exact (State.modStir_id (by simp [State.pulledAt, h])).symm
  | some cfg =>
    dsimp only
    rw [State.pullDue_eq, hf]
    exact State.modStir_congr (by simp only [State.pulledAt, h])

theorem State.settingBack_eq : s.settingBack = s.mapStirs (s.pulledAt s.effInterval) :=
  s.foldl_pullDue (f := State.effInterval) fun _ _ => rfl

theorem State.windowOpened_eq : s.windowOpened = s.mapStirs (s.pulledAt (fun cfg => cfg.interval * 60)) :=
  s.foldl_pullDue (f := fun _ cfg => cfg.interval * 60) fun _ _ => rfl

/-- The test of R108 leaves the due moment, and a stirrer that is not both IDLE and flagged. -/
theorem State.tested_due (n : Nat) (r : Stirrer) : (s.tested n r).due = r.due := by
  unfold State.tested
  split
  · rfl
  · split_ifs <;> rfl

theorem State.tested_of_busy {r : Stirrer} (h : r.st ≠ .idle) (n : Nat) : s.tested n r = r := by
  unfold State.tested
  split
  · rfl
  · rw [if_neg]
    simp [h]

theorem State.dueTested_due (n : Nat) (r : Stirrer) : (s.dueTested n r).due = r.due := by
  unfold State.dueTested
  split
  · exact State.tested_due s n _
  · rfl

/-- A setting reaches the due moments (R112), and then they are tested (R107). -/
theorem State.settingStirrers_eq (old : Moment) : ∃ u : State, u.dueTestAll = s.settingStirrers old ∧
    u = if Moment.later old s.dck.moment = true then s.mapStirs (s.pulledAt s.effInterval) else s :=
  ⟨_, rfl, by rw [State.settingBack_eq]⟩

/-- The later of two moments is not the earlier (R27). -/
theorem Moment.not_reached_of_later {now due : Moment} (hn : now.day < 65536) (hd : due.day < 65536)
    (h : Moment.later due now = true) : Moment.reached now due = false := by
  rw [← Bool.not_eq_true, Moment.reached_iff hn hd, Moment.eq_iff]
  by_cases hday : due.day = now.day
  · rw [Moment.later_same_day hday] at h
    rw [Moment.later_same_day hday.symm]
    omega
  · have h1 := mt (dayDiff_eq_zero hd hn).mp hday
    have h2 := mt (dayDiff_eq_zero hn hd).mp (Ne.symm hday)
    rw [Moment.later_of_days h1] at h
    rw [Moment.later_of_days h2]
    unfold dayDiff at *
    omega

theorem Moment.ahead_add_le (m : Moment) (d : Nat) : Moment.ahead (m.add d) m ≤ d := by
  obtain ⟨hsum, hday⟩ := m.add_days d
  have hdiff : dayDiff (m.add d).day m.day ≤ (m.sec + d) / 86400 := by
    rw [hday, dayDiff]
    omega
  unfold Moment.ahead daySecs
  omega

/-- An idle stirrer pulled back by a backward setting, tested, and pulled back by an opening of the window, has its due
moment pulled back once. -/
theorem Stirrer.due_pulled_twice {r : Stirrer} {now : Moment} {i j : Nat} {back opening : Prop} [Decidable back]
    [Decidable opening] {f : Stirrer → Stirrer} (hst : r.st = .idle) (hflag : r.flag = false) (hn : now.day < 65536)
    (hd : r.due.day < 65536) (hdue : ∀ r, (f r).due = r.due) (hf : Moment.reached now r.due = false → f r = r)
    (hij : opening → j = i) :
    (if opening then (f (if back then r.pulled now i else r)).pulled now j else f (if back then r.pulled now i else r)).due =
      if (back ∨ opening) ∧ Moment.later r.due now = true ∧ i < Moment.ahead r.due now then now.add i else r.due := by
  have kept : ∀ r' : Stirrer, ¬ (Moment.later r'.due now = true ∧ j < Moment.ahead r'.due now) →
      (r'.pulled now j).due = r'.due :=
    fun r' h => by rw [Stirrer.pulled, if_neg (by tauto)]
  by_cases hp : Moment.later r.due now = true ∧ i < Moment.ahead r.due now
  · have hpull : r.pulled now i = { r with due := now.add i } := if_pos ⟨hst, hflag, hp⟩
    by_cases hb : back
    · simp only [hb, if_true, hpull, true_or, hp, and_self]
      split
      · next ho =>
        rw [kept, hdue]
        rw [hdue, hij ho]
        exact fun h => absurd h.2 (Nat.not_lt.mpr (Moment.ahead_add_le _ _))
      · exact hdue _
    · simp only [hb, if_false, false_or, hp, and_true, hf (Moment.not_reached_of_later hn hd hp.1)]
      split
      · next ho => rw [hij ho, hpull]
      · rfl
  · have hkeep : r.pulled now i = r := if_neg (by tauto)
    simp only [hkeep, ite_self]
    rw [if_neg (c := (back ∨ opening) ∧ _) fun h => hp h.2]
    split
    · next ho =>
      rw [kept, hdue]
      rwa [hdue, hij ho]
    · exact hdue r

/-- What the test of R108 makes of an idle stirrer that is due (R107, R108). -/
theorem State.tested_flagged {s : State} {n : Nat} {c : CanisterCfg} (hc : s.fitted n =
    some c) {r : Stirrer} (hst : r.st = .idle)
    (hflag : r.flag = true) :
    (s.canisterHeld n = true → s.tested n r = { r with st := .waiting }) ∧
    (s.canisterHeld n = false → s.working = true → s.tested n r = r.run c) ∧
    (s.canisterHeld n = false → s.working = false → s.tested n r = r) := by
  unfold State.tested
  simp only [hc, hst, hflag, beq_self_eq_true, Bool.and_self, if_true]
  exact ⟨fun h => by simp [h], fun h hw => by simp [h, hw], fun h hw => by simp [h, hw]⟩

/-! ## The window judged (R28, R30, R113) -/

/-- The stirrers as an opening of the window leaves them (R113). -/
def State.windowed (s : State) (was : Bool) : State :=
  if was = false ∧ s.inside = true then s.mapStirs (s.pulledAt (fun cfg => cfg.interval * 60)) else s

/-- The day clock once the window has been judged. -/
def State.windowClock (s : State) (was : Bool) : DayClock :=
  match s.dck.cell with
  | .run => if was = true ∧ s.inside = false then { s.dck with cell := .night, idle := 0 } else s.dck
  | .night => if was = false ∧ s.inside = true then { s.dck with cell := .run, idle := 0 } else s.dck
  | .capped => s.judgedClock
  | .starting | .configFault | .paused | .halted | .jammed => s.dck

/-- A window judged changes the day clock, and enters a state where RUN closes or NIGHT opens. -/
theorem State.judgeWindow_cases (was : Bool) : (s.judgeWindow was).dck = s.windowClock was ∧
    (s.judgeWindow was = { s.windowed was with dck := s.windowClock was } ∨
      (s.dck.cell = .run ∨ s.dck.cell = .night) ∧ ∃ c, s.judgeWindow was = (s.windowed was).enter c) := by
  have hw : (if (!was && s.inside) = true then s.windowOpened else s) = s.windowed was := by
    rw [State.windowOpened_eq, State.windowed]
    simp only [Bool.and_eq_true, Bool.not_eq_true']
  have hdck : (s.windowed was).dck = s.dck := by unfold State.windowed; split <;> rfl
  have hclock : (s.windowed was).judgedClock = s.judgedClock := by unfold State.windowed; split <;> rfl
  have stays : s.windowed was = { s.windowed was with dck := s.dck } := by rw [← hdck]
  have entered : ∀ c, c ≠ .capped → ((s.windowed was).enter c).dck = { s.dck with cell := c, idle := 0 } := fun c hc => by
    rw [State.enter_dck_of_ne _ hc, hdck]
  unfold State.judgeWindow State.windowClock
  dsimp only
  rw [hw]
  simp only [Bool.and_eq_true, Bool.not_eq_true']
  cases hc : s.dck.cell with
  | run =>
    dsimp only
    split
    · exact ⟨entered .night (by decide), .inr ⟨.inl rfl, _, rfl⟩⟩
    · exact ⟨hdck, .inl stays⟩
  | night =>
    dsimp only
    split
    · exact ⟨entered .run (by decide), .inr ⟨.inr rfl, _, rfl⟩⟩
    · exact ⟨hdck, .inl stays⟩
  | capped =>
    dsimp only
    rw [State.judgeCap_eq, hclock]
    exact ⟨rfl, .inl rfl⟩
  | starting | configFault | paused | halted | jammed => exact ⟨hdck, .inl stays⟩

/-- What the window's judgement leaves. -/
theorem State.judgeWindow_leaves (was : Bool) : (s.judgeWindow was).bus = s.bus ∧ (s.judgeWindow was).stations =
    s.stations ∧
    (s.judgeWindow was).book = s.book ∧ (s.judgeWindow was).xfr = s.xfr ∧ (s.judgeWindow was).atn = s.atn ∧
    (s.judgeWindow was).cfg = s.cfg ∧ (s.judgeWindow was).seg.slots = s.seg.slots := by
  have windowed : (s.windowed was).bus = s.bus ∧ (s.windowed was).stations = s.stations ∧ (s.windowed was).book = s.book ∧
      (s.windowed was).xfr = s.xfr ∧ (s.windowed was).atn = s.atn ∧ (s.windowed was).cfg = s.cfg ∧
      (s.windowed was).seg.slots = s.seg.slots := by
    unfold State.windowed
    split <;> exact ⟨rfl, rfl, rfl, rfl, rfl, rfl, rfl⟩
  rcases (s.judgeWindow_cases was).2 with h | ⟨-, c, h⟩
  · rw [h]
    exact windowed
  · simpa [h] using windowed

/-- Of a canister the window's judgement reaches the stirrer, whose due moment an opening alone changes (R113). -/
theorem State.judgeWindow_canister (was : Bool) (n : Nat) : ∃ r, (s.judgeWindow was).canister n =
    { (s.windowed was).canister n with stir := r } ∧ r.due = ((s.windowed was).canister n).stir.due ∧
    (s.dck.cell ≠ .run → s.dck.cell ≠ .night → r = ((s.windowed was).canister n).stir) ∧
    (((s.windowed was).canister n).stir.st ≠ .idle → r = ((s.windowed was).canister n).stir) := by
  rcases (s.judgeWindow_cases was).2 with h | ⟨hc, c, h⟩
  · rw [h]
    exact ⟨_, rfl, rfl, fun _ _ => rfl, fun _ => rfl⟩
  · rw [h]
    rcases (s.windowed was).enter_canister c n with hr | hr
    · exact ⟨_, hr, State.tested_due _ _ _, fun h1 h2 => absurd hc (by simp [h1, h2]),
          fun hb => State.tested_of_busy _ hb n⟩
    · exact ⟨_, hr, rfl, fun _ _ => rfl, fun _ => rfl⟩

/-! ## CLOCK -/

theorem timeOk_iff (t : HMS) : timeOk t = true ↔ t.h ≤ 23 ∧ t.m ≤ 59 ∧ t.s ≤ 59 := by
  simp [timeOk, and_assoc]

theorem State.inside_congr {s t : State} (hu : t.dck.unset = s.dck.unset) (hm : t.dck.moment = s.dck.moment)
    (hc : t.cfg = s.cfg) : t.inside = s.inside := by
  simp only [State.inside, hu, hm, hc]

theorem State.windowClock_change (was : Bool) : ∃ c i a k m,
    s.windowClock was = { s.dck with cell := c, idle := i, cap := a, kept := k, capTime := m } := by
  unfold State.windowClock
  split
  · split <;> exact ⟨_, _, _, _, _, rfl⟩
  · split <;> exact ⟨_, _, _, _, _, rfl⟩
  · obtain ⟨a, k, m, h⟩ := s.judgedClock_change
    exact ⟨_, _, a, k, m, h⟩
  all_goals exact ⟨_, _, _, _, _, rfl⟩

/-- The cell state and the cap once the window has been judged (R28, R30, R33). -/
theorem State.windowClock_cases (was : Bool) :
    (s.dck.cell = .run → (s.windowClock was).cell = if was = true ∧ s.inside = false then .night else .run) ∧
    (s.dck.cell = .night → (s.windowClock was).cell = if was = false ∧ s.inside = true then .run else .night) ∧
    (s.dck.cell ≠ .run → s.dck.cell ≠ .night → (s.windowClock was).cell = s.dck.cell) ∧
    (s.dck.cell = .capped → s.inside = true → s.dck.cap = .closed → (s.windowClock was).cap = .opening) ∧
    (s.dck.cell ≠ .capped → (s.windowClock was).cap = s.dck.cap) := by
  unfold State.windowClock
  cases hc : s.dck.cell with
  | run =>
    dsimp only
    split <;> simp [hc]
  | night =>
    dsimp only
    split <;> simp [hc]
  | capped =>
    obtain ⟨a, k, m, h⟩ := s.judgedClock_change
    refine ⟨by simp, by simp, fun _ _ => by simp [h, hc], fun _ hi hcap => ?_, by simp⟩
    simp [State.judgedClock, hc, hi, DayClock.toOpen, hcap]
  | starting | configFault | paused | halted | jammed => simp [hc]

/-- Of a canister a change of every stirrer reaches the stirrer. -/
theorem State.canister_mapStirs_keeps (g : Nat → Stirrer → Stirrer) (n : Nat) :
    ∃ r, (s.mapStirs g).canister n = { s.canister n with stir := r } := by
  rcases s.canister_mapStirs_cases g n with h | h
  · exact ⟨_, h⟩
  · exact ⟨_, h⟩

theorem State.length_mapStirs (g : Nat → Stirrer → Stirrer) : (s.mapStirs g).canisters.length = s.canisters.length := by
  simp [State.mapStirs]

/-- The stirrers as a setting of the clock leaves them before the window is judged. -/
theorem State.settingStirrers_change (old : Moment) : ∃ cs, s.settingStirrers old = { s with canisters := cs } ∧
    cs.length = s.canisters.length := by
  obtain ⟨u, hu, hset⟩ := s.settingStirrers_eq old
  rw [← hu, State.dueTestAll_eq, hset]
  split
  · exact ⟨_, rfl, (State.length_mapStirs _ _).trans (State.length_mapStirs _ _)⟩
  · exact ⟨_, rfl, State.length_mapStirs _ _⟩

theorem State.settingStirrers_canister (old : Moment) (n : Nat) :
    ∃ r, (s.settingStirrers old).canister n = { s.canister n with stir := r } := by
  obtain ⟨u, hu, hset⟩ := s.settingStirrers_eq old
  obtain ⟨r, hr⟩ := u.canister_mapStirs_keeps u.dueTested n
  have hpull : ∃ r, u.canister n = { s.canister n with stir := r } := by
    rw [hset]
    split
    · exact s.canister_mapStirs_keeps _ n
    · exact ⟨_, rfl⟩
  obtain ⟨r', hr'⟩ := hpull
  rw [← hu, State.dueTestAll_eq, hr, hr']
  exact ⟨r, rfl⟩

theorem State.windowed_canister (was : Bool) (n : Nat) :
    ∃ r, (s.windowed was).canister n = { s.canister n with stir := r } := by
  unfold State.windowed
  split
  · exact s.canister_mapStirs_keeps _ n
  · exact ⟨_, rfl⟩

/-- Of a canister a setting of the clock reaches the stirrer. -/
theorem State.takeClock_canister (m : Moment) (n : Nat) :
    ∃ r, (s.takeClock m).canister n = { s.canister n with stir := r } := by
  obtain ⟨r1, h1⟩ := (s.setMoment m).settingStirrers_canister s.dck.moment n
  obtain ⟨r2, h2⟩ := ((s.setMoment m).settingStirrers s.dck.moment).windowed_canister s.inside n
  obtain ⟨r3, h3, -⟩ := ((s.setMoment m).settingStirrers s.dck.moment).judgeWindow_canister s.inside n
  rw [State.takeClock, h3, h2, h1]
  exact ⟨r3, rfl⟩

/-- A setting of the clock changes the day clock as the window's judgement gives it, and leaves the blocks it does not
name. -/
theorem State.takeClock_leaves (m : Moment) : (s.takeClock m).dck = (s.setMoment m).windowClock s.inside ∧
    (s.takeClock m).inside = (s.setMoment m).inside ∧ (s.takeClock m).xfr = s.xfr ∧ (s.takeClock m).atn = s.atn ∧
    (s.takeClock m).cfg = s.cfg ∧ (s.takeClock m).seg.slots = s.seg.slots := by
  obtain ⟨cs, hv, -⟩ := (s.setMoment m).settingStirrers_change s.dck.moment
  obtain ⟨-, -, -, hxfr, hatn, hcfg, hslots⟩ :=
    ((s.setMoment m).settingStirrers s.dck.moment).judgeWindow_leaves s.inside
  have hdck := (((s.setMoment m).settingStirrers s.dck.moment).judgeWindow_cases s.inside).1
  have hclock : (s.takeClock m).dck = (s.setMoment m).windowClock s.inside := by
    rw [State.takeClock, hdck, hv]
    rfl
  obtain ⟨c, i, a, k, mt, hc⟩ := (s.setMoment m).windowClock_change s.inside
  have hcfg' : (s.takeClock m).cfg = s.cfg := by rw [State.takeClock, hcfg, hv]; rfl
  refine ⟨hclock, State.inside_congr (by rw [hclock, hc]) (by rw [hclock, hc]) hcfg', ?_, ?_, hcfg', ?_⟩
  · rw [State.takeClock, hxfr, hv]; rfl
  · rw [State.takeClock, hatn, hv]; rfl
  · rw [State.takeClock, hslots, hv]; rfl

section
variable {s} {n : Nat} {c : CanisterCfg} (hn : n < 16) (hlen : s.canisters.length = 16) (hc : s.fitted n = some c)
include hn hlen hc

omit hc in
theorem State.stir_mapStirs (g : Nat → Stirrer → Stirrer) : ((s.mapStirs g).canister n).stir = g n (s.canister n).stir := by
  rw [State.canister_mapStirs (hlen ▸ hn), if_pos hn]

theorem State.stir_settingStirrers (old : Moment) : ∃ f : Stirrer → Stirrer, (∀ r, (f r).due = r.due) ∧
    (∀ r, Moment.reached s.dck.moment r.due = false → f r = r) ∧ ((s.settingStirrers old).canister n).stir =
      f (if Moment.later old s.dck.moment = true then (s.canister n).stir.pulled s.dck.moment (s.effInterval c)
         else (s.canister n).stir) := by
  obtain ⟨u, hu, hset⟩ := s.settingStirrers_eq old
  have hlenu : u.canisters.length = 16 := by
    rw [hset]
    split
    · simpa [State.mapStirs] using hlen
    · exact hlen
  have hmoment : u.dck.moment = s.dck.moment := by rw [hset]; split <;> rfl
  refine ⟨u.dueTested n, u.dueTested_due n, fun r hr => if_neg fun h => ?_, ?_⟩
  · rw [hmoment, hr] at h
    exact Bool.false_ne_true h.2.2.2
  · rw [← hu, State.dueTestAll_eq, State.stir_mapStirs hn hlenu, hset]
    congr 1
    split
    · rw [State.stir_mapStirs hn hlen]
      simp [State.pulledAt, hc]
    · rfl

theorem State.stir_windowed (was : Bool) : ((s.windowed was).canister n).stir =
    if was = false ∧ s.inside = true then (s.canister n).stir.pulled s.dck.moment (c.interval * 60) else (s.canister n).stir := by
  unfold State.windowed
  split
  · rw [State.stir_mapStirs hn hlen]
    simp [State.pulledAt, hc]
  · rfl

/-- The due moment of an idle stirrer after a setting of the clock (R112, R113). -/
theorem State.due_takeClock {m : Moment} (hm : m.day < 65536) (hst : (s.canister n).stir.st = .idle)
    (hflag : (s.canister n).stir.flag = false) (hd : (s.canister n).stir.due.day < 65536) :
    ((s.takeClock m).canister n).stir.due =
      if (Moment.later s.dck.moment m = true ∨ s.inside = false ∧ (s.setMoment m).inside = true) ∧
          Moment.later (s.canister n).stir.due m = true ∧
              (s.setMoment m).effInterval c < Moment.ahead (s.canister n).stir.due m
      then m.add ((s.setMoment m).effInterval c) else (s.canister n).stir.due := by
  obtain ⟨f, hdue, hf, hset⟩ := State.stir_settingStirrers (s := s.setMoment m) hn hlen hc s.dck.moment
  obtain ⟨cs, hv, hcs⟩ := (s.setMoment m).settingStirrers_change s.dck.moment
  have hlenv : ((s.setMoment m).settingStirrers s.dck.moment).canisters.length = 16 := by
    rw [hv]
    exact hcs.trans hlen
  obtain ⟨r, hr, hrdue, -⟩ := ((s.setMoment m).settingStirrers s.dck.moment).judgeWindow_canister s.inside n
  have hwindow := State.stir_windowed hn hlenv (c := c) (by rw [hv]; exact hc) s.inside
  have hinside : ((s.setMoment m).settingStirrers s.dck.moment).inside = (s.setMoment m).inside := by rw [hv]; rfl
  have hmoment : ((s.setMoment m).settingStirrers s.dck.moment).dck.moment = m := by rw [hv]; rfl
  unfold State.takeClock
  rw [hr, hrdue, hwindow, hset, hinside, hmoment]
  refine Stirrer.due_pulled_twice hst hflag hm hd hdue (hf _) fun ho => ?_
  simp [State.effInterval, ho.2]

end

/-- A CLOCK heard: its terminal's entry is refreshed, and it sets the clock or is counted (R12, R21, R25). -/
theorem exec_clock {src : Nat} {s : State} (h : s.Hears .terminal src) (time : HMS) (day : Nat) (x : Sample) :
    exec (.clock src time day x) s = .next (if timeOk time = true then
      ((s.latch x).refresh src none).takeClock { day := day, sec := secsOf time } else ((s.latch x).refresh src none).rxError) := by
  simp only [exec, execClock]
  exact State.act_next h.live (State.Hears.hear_terminal (s := s.latch x) h _)

/-- The cell state once the window has been judged on a state of the same cell state (R28, R30). -/
theorem State.cell_of_windowClock {s v t : State} (hclock : t.dck = v.windowClock s.inside) (hin : t.inside = v.inside)
    (hcell : v.dck.cell = s.dck.cell) :
    (s.dck.cell = .run → t.dck.cell = if s.inside = true ∧ t.inside = false then .night else .run) ∧
    (s.dck.cell = .night → t.dck.cell = if s.inside = false ∧ t.inside = true then .run else .night) ∧
    (s.dck.cell ≠ .run → s.dck.cell ≠ .night → t.dck.cell = s.dck.cell) := by
  obtain ⟨hrun, hnight, hother, -⟩ := v.windowClock_cases s.inside
  rw [hclock, hin, ← hcell]
  exact ⟨hrun, hnight, hother⟩

/-- A setting of the clock within its ranges, on a state with the day clock, the canisters and the configuration of `s`
(R25, R28, R30, R33, R112, R113). -/
theorem clockSet {s u : State} {day sec : Nat} (hdck : u.dck = s.dck) (hcfg : u.cfg = s.cfg)
    (hcan : u.canisters = s.canisters) (hday : day < 65536) {t : State} (ht : t = u.takeClock ⟨day, sec⟩) :
    t.dck.moment = ⟨day, sec⟩ ∧ t.dck.sub = 0 ∧ t.dck.unset = false ∧
    t.dck.pause = s.dck.pause ∧ t.dck.jam = s.dck.jam ∧ t.dck.halt = s.dck.halt ∧
    (s.dck.cell = .run → t.dck.cell = if s.inside = true ∧ t.inside = false then .night else .run) ∧
    (s.dck.cell = .night → t.dck.cell = if s.inside = false ∧ t.inside = true then .run else .night) ∧
    (s.dck.cell ≠ .run → s.dck.cell ≠ .night → t.dck.cell = s.dck.cell) ∧
    (s.dck.cell = .capped → t.inside = true → s.dck.cap = .closed → t.dck.cap = .opening) ∧
    (s.dck.cell ≠ .capped → t.dck.cap = s.dck.cap) ∧
    (∀ n, (t.canister n).stock = (s.canister n).stock ∧ (t.canister n).reserved = (s.canister n).reserved) ∧
    ∀ n < 16, ∀ c, s.fitted n = some c → s.canisters.length = 16 → (s.canister n).stir.st = .idle →
      (s.canister n).stir.flag = false → (s.canister n).stir.due.day < 65536 →
      (t.canister n).stir.due =
        if (Moment.later s.dck.moment t.dck.moment = true ∨ s.inside = false ∧ t.inside = true) ∧
            Moment.later (s.canister n).stir.due t.dck.moment = true ∧
            c.interval * 60 * (if t.inside then 1 else 4) < Moment.ahead (s.canister n).stir.due t.dck.moment
        then t.dck.moment.add (c.interval * 60 * (if t.inside then 1 else 4)) else (s.canister n).stir.due := by
  obtain ⟨hclock, hin, -⟩ := u.takeClock_leaves ⟨day, sec⟩
  have hwas : u.inside = s.inside := State.inside_congr (by rw [hdck]) (by rw [hdck]) hcfg
  have hcell : (u.setMoment ⟨day, sec⟩).dck.cell = s.dck.cell := by rw [← hdck]; rfl
  have hcanister : ∀ n, u.canister n = s.canister n := fun n => by rw [State.canister, State.canister, hcan]
  rw [hwas] at hclock
  rw [← ht] at hclock hin
  obtain ⟨hrun, hnight, hother⟩ := State.cell_of_windowClock hclock hin hcell
  obtain ⟨-, -, -, hopen, hcap⟩ := (u.setMoment ⟨day, sec⟩).windowClock_cases s.inside
  obtain ⟨c, i, a, k, mt, hc⟩ := (u.setMoment ⟨day, sec⟩).windowClock_change s.inside
  have hmoment : t.dck.moment = ⟨day, sec⟩ := by rw [hclock, hc]; rfl
  refine ⟨hmoment, by rw [hclock, hc]; rfl, by rw [hclock, hc]; rfl, ?_, ?_, ?_, hrun, hnight, hother, ?_, ?_, ?_, ?_⟩
  · rw [hclock, hc, ← hdck]; rfl
  · rw [hclock, hc, ← hdck]; rfl
  · rw [hclock, hc, ← hdck]; rfl
  · rw [hclock, hin, ← hcell, ← hdck]
    exact hopen
  · rw [hclock, ← hcell, ← hdck]
    exact hcap
  · intro n
    obtain ⟨r, hr⟩ := u.takeClock_canister ⟨day, sec⟩ n
    rw [ht, hr, hcanister]
    exact ⟨rfl, rfl⟩
  · intro n hn c hfit hlen hst hflag hd
    rw [← hcanister] at hst hflag hd ⊢
    rw [hmoment, hin, ht, State.due_takeClock hn (by rw [hcan, hlen]) (c := c) (by rw [State.fitted, hcfg]; exact hfit)
      hday hst hflag hd, hwas, hdck]
    rfl

/-! ## CLOCK_ADVANCE -/

/-- The state a second later (R24). -/
def State.secondOn (s : State) : State := { s with dck := { s.dck with moment := s.dck.moment.add 1, sub := 0 } }

/-- A pull reaches only an idle stirrer without its flag. -/
theorem Stirrer.pulled_of_busy {r : Stirrer} (h : r.st ≠ .idle ∨ r.flag = true) (now : Moment) (i : Nat) :
    r.pulled now i = r := by
  refine if_neg fun hp => ?_
  rcases h with h | h
  · exact h hp.1
  · exact Bool.false_ne_true (hp.2.1.symm.trans h)

theorem exec_clockAdvance {s : State} (h : s.Live) (x : Sample) :
    exec (.clockAdvance x) s = .next (((s.latch x).secondOn.mapStirs (s.latch x).secondOn.dueTested).judgeWindow s.inside) := by
  simp only [exec, execClockAdvance]
  refine State.act_next h ?_
  rw [← State.dueTestAll_eq]
  rfl

/-- What an idle stirrer whose due moment is reached makes of the second (R107, R108). -/
theorem State.stir_dueTested {s u : State} {n : Nat} {c : CanisterCfg} (hfit : s.fitted n = some c) (hcfg : u.cfg = s.cfg)
    (hheld : u.canisterHeld n = s.canisterHeld n) (hwork : u.working = s.working) {r : Stirrer} (hst : r.st = .idle)
    (hflag : r.flag = false) (hdue : Moment.reached u.dck.moment r.due = true) :
    (u.dueTested n r).due = r.due ∧
    (s.canisterHeld n = true → (u.dueTested n r).st = .waiting ∧ (u.dueTested n r).flag = true) ∧
    (s.canisterHeld n = false → s.working = true → (u.dueTested n r).st = .running ∧ (u.dueTested n r).flag = false ∧
      (u.dueTested n r).left = c.duration * 1000) ∧
    (s.canisterHeld n = false → s.working = false → (u.dueTested n r).st = .idle ∧ (u.dueTested n r).flag = true) := by
  have hufit : u.fitted n = some c := by rw [State.fitted, hcfg]; exact hfit
  have htest : u.dueTested n r = u.tested n { r with flag := true } := if_pos ⟨by simp [hufit], hst, hflag, hdue⟩
  obtain ⟨hwait, hrun, hkeep⟩ := State.tested_flagged hufit (r := { r with flag := true }) hst rfl
  rw [hheld] at hwait hrun hkeep
  rw [hwork] at hrun hkeep
  refine ⟨u.dueTested_due n r, fun h => ?_, fun h hw => ?_, fun h hw => ?_⟩ <;> rw [htest]
  · rw [hwait h]
    exact ⟨rfl, rfl⟩
  · rw [hrun h hw]
    exact ⟨rfl, rfl, rfl⟩
  · rw [hkeep h hw]
    exact ⟨hst, rfl⟩

/-- A stirrer that is not both idle and without its flag is left by the window's judgement, save that a flagged one is
tested where the cell runs. -/
theorem State.judgeWindow_stir {v : State} {n : Nat} {c : CanisterCfg} (hn : n < 16) (hlen : v.canisters.length = 16)
    (hc : v.fitted n = some c) (was : Bool)
    (h : (v.canister n).stir.st ≠ .idle ∨ (v.canister n).stir.flag = true ∧ v.working = false) :
    ((v.judgeWindow was).canister n).stir = (v.canister n).stir := by
  have hwin : ((v.windowed was).canister n).stir = (v.canister n).stir := by
    rw [State.stir_windowed hn hlen hc, Stirrer.pulled_of_busy (h.imp_right And.left), ite_self]
  obtain ⟨r, hr, -, hcell, hbusy⟩ := v.judgeWindow_canister was n
  rw [hr, ← hwin]
  rcases h with h | ⟨-, hw⟩
  · exact hbusy (by rwa [hwin])
  · refine hcell (fun he => ?_) fun he => ?_ <;> simp [State.working, he] at hw

/-- Settles O18: a setting of the clock reaches the due moments and then the window is judged; an advance tests the
moments that are due and judges the window. -/
theorem clockMoves : Obligations.ClockMoves := by
  unfold Obligations.ClockMoves
  refine ⟨fun src time day x s h => ⟨fun hout => ?_, fun hh hm hs hday => ?_⟩, fun x s h hsec => ?_⟩
  · rw [exec_clock h, if_neg]
    rw [timeOk_iff]
    omega
  · obtain ⟨st, b, k, hr⟩ := (s.latch x).refresh_frame src none
    have htime : timeOk time = true := (timeOk_iff time).mpr ⟨hh, hm, hs⟩
    obtain ⟨-, -, hxfr, hatn, hcfg, hslots⟩ := ((s.latch x).refresh src none).takeClock_leaves ⟨day, secsOf time⟩
    obtain ⟨h1, h2, h3, h4, h5, h6, h7, h8, h9, h10, h11, h12, h13⟩ :=
      clockSet (s := s) (u := (s.latch x).refresh src none) (sec :=
          secsOf time) (by rw [hr]; rfl) (by rw [hr]; rfl) (by rw [hr]; rfl) hday rfl
    refine ⟨_, by rw [exec_clock h, if_pos htime], h1, h2, h3, h4, h5, h6, h7, h8, h9, h10, h11, h12, h13, ?_, ?_, ?_, ?_⟩
    · rw [hxfr, hr]; rfl
    · rw [hatn, hr]; rfl
    · rw [hcfg, hr]; rfl
    · rw [hslots, hr]; rfl
  · refine ⟨_, exec_clockAdvance h x, ?_⟩
    generalize hu : (s.latch x).secondOn = u
    obtain ⟨hbus, hstations, hbook, hxfr, hatn, hcfg, -⟩ := (u.mapStirs u.dueTested).judgeWindow_leaves s.inside
    have hclock := ((u.mapStirs u.dueTested).judgeWindow_cases s.inside).1
    obtain ⟨c, i, a, k, mt, hc⟩ := (u.mapStirs u.dueTested).windowClock_change s.inside
    have hdck := hclock.trans hc
    have hin := State.inside_congr (t := (u.mapStirs u.dueTested).judgeWindow s.inside) (by rw [hdck]) (by rw [hdck]) hcfg
    have hmoment : ((u.mapStirs u.dueTested).judgeWindow s.inside).dck.moment = s.dck.moment.add 1 := by
      rw [hdck, ← hu]; rfl
    obtain ⟨hrun, hnight, hother⟩ := State.cell_of_windowClock hclock hin (by rw [← hu]; rfl)
    refine ⟨by rw [hdck, ← hu]; rfl, by rw [hdck, ← hu]; rfl, ?_, ?_, hrun, hnight, hother, ?_, by rw [hbook, ← hu]; rfl,
      by rw [hbus, ← hu]; rfl, by rw [hstations, ← hu]; rfl, by rw [hxfr, ← hu]; rfl, by rw [hatn, ← hu]; rfl,
      by rw [hcfg, ← hu]; rfl⟩
    · intro hlt
      rw [hmoment]
      simp only [Moment.add, daySecs, Moment.mk.injEq]
      omega
    · intro heq
      rw [hmoment]
      simp only [Moment.add, daySecs, Moment.mk.injEq]
      omega
    · intro n hn c hfit hlen hst hflag hdue
      have hulen : u.canisters.length = 16 := by rw [← hu]; exact hlen
      have hvlen : (u.mapStirs u.dueTested).canisters.length = 16 := (u.length_mapStirs _).trans hulen
      have hvfit : (u.mapStirs u.dueTested).fitted n = some c := by rw [← hu]; exact hfit
      have hvwork : (u.mapStirs u.dueTested).working = s.working := by rw [← hu]; rfl
      have hvstir : ((u.mapStirs u.dueTested).canister n).stir = u.dueTested n (s.canister n).stir := by
        rw [State.stir_mapStirs hn hulen, ← hu]
        rfl
      obtain ⟨hkept, hwait, hstart, hidle⟩ := State.stir_dueTested (u := u) hfit (by rw [← hu]; rfl) (by rw [← hu]; rfl)
        (by rw [← hu]; rfl) hst hflag (by rw [hmoment] at hdue; rw [← hu]; exact hdue)
      rw [State.judgeWindow_stir hn hvlen hvfit, hvstir]
      · exact ⟨hkept, hwait, hstart, hidle⟩
      · rw [hvstir, hvwork]
        cases hheld : s.canisterHeld n
        · cases hw : s.working
          · exact .inr ⟨(hidle hheld hw).2, rfl⟩
          · exact .inl (by simp [(hstart hheld hw).1])
        · exact .inl (by simp [(hwait hheld).1])

end Sys2Proof.Machine
end

/-! # Proofs: PAUSE, RESUME and the nozzle cap (O19, O20) -/

section
namespace Sys2Proof.Machine

variable (s : State)

/-! ## A change to a cell state that permits no motion -/

theorem State.dosingState_of_not_working {s : State} (h : s.working = false) : s.dosingState = false := by
  unfold State.working at h
  unfold State.dosingState
  split at h
  · cases h
  · cases h
  · cases h
  all_goals simp_all

theorem State.running_of_not_working {s : State} (h : s.working = false) : s.running = false := by
  unfold State.working at h
  unfold State.running
  cases hc : s.dck.cell <;> simp [hc] at h ⊢

theorem State.resumeMoves_of_not_dosing {s : State} (h : s.dosingState = false) : s.resumeMoves = s := by
  refine List.foldl_fixed' (fun ch => ?_) _
  unfold State.resumeMove
  simp [h]
  split <;> rfl

theorem State.lidsOnState_of_not_working {s : State} (h : s.working = false) : s.lidsOnState = s.lids := by
  simp [State.lidsOnState, h]

theorem State.lookedShaker_of_not_working {s : State} (h : s.working = false) : s.lookedShaker = s.shaker := by
  have hmay : s.mayShake = false := by simp [State.mayShake, h]
  unfold State.lookedShaker
  split <;> simp [h, hmay]

theorem State.shakerAfter_of_not_working {s : State} (h : s.working = false) : s.shakerAfter = s.shaker := by
  unfold State.shakerAfter
  rw [State.lookedShaker_of_not_working h]
  simp [h]

/-- A stirrer tested where no run is permitted waits or is left (R108). -/
theorem State.tested_of_not_working {s : State} (h : s.working = false) (n : Nat) (r : Stirrer) :
    s.tested n r = { r with st := .waiting } ∧ r.st = .idle ∨ s.tested n r = r := by
  unfold State.tested
  split
  · exact .inr rfl
  · split_ifs with h1 h2 <;> simp_all

/-- A change to a cell state that permits no motion starts and stops no drive (R29, R36, R149). -/
theorem State.enter_not_working {c : CellState} (h : (s.inCell c).working = false) :
    (s.enter c).shots = s.shots ∧ (s.enter c).lids = s.lids ∧ (s.enter c).shaker = s.shaker := by
  refine ⟨?_, (s.enter_lids c).trans (State.lidsOnState_of_not_working h),
      (s.enter_shaker c).trans (State.shakerAfter_of_not_working h)⟩
  have hmoves := State.resumeMoves_of_not_dosing (State.dosingState_of_not_working h)
  rw [State.enter_eq, hmoves]
  rfl

/-- Outside RUN a prompt that does not stand is withdrawn (R150). -/
theorem State.enter_prompt {c : CellState} (h : (s.inCell c).working = false) :
    (s.enter c).seg = { s.seg with prompt := (s.enter c).seg.prompt } ∧
    (s.seg.prompt.isRequested = true → (s.enter c).seg.prompt = .none) ∧
    (s.seg.prompt.isRequested = false → (s.enter c).seg = s.seg ∧ (s.enter c).panel = s.panel) := by
  have hprompt : (s.inCell c).promptOnState = if s.seg.prompt.isRequested =
      true then (s.inCell c).endPrompt else s.inCell c := by
    rw [State.promptOnState, State.running_of_not_working h]
    rfl
  have hseg : (s.enter c).seg = (s.inCell c).promptOnState.seg ∧ (s.enter c).panel = (s.inCell c).promptOnState.panel := by
    rw [State.enter_eq]
    exact ⟨rfl, rfl⟩
  rw [hseg.1, hseg.2, hprompt]
  cases s.seg.prompt.isRequested with
  | true => exact ⟨rfl, fun _ => rfl, fun hn => absurd hn (by decide)⟩
  | false => exact ⟨rfl, fun hn => absurd hn (by decide), fun _ => ⟨rfl, rfl⟩⟩

/-- A change to a cell state that permits no motion leaves the stock, and starts and stops no stirrer. -/
theorem State.enter_stir_not_working {c : CellState} (h : (s.inCell c).working = false) (n : Nat) :
    ((s.enter c).canister n).stock = (s.canister n).stock ∧
      (((s.enter c).canister n).stir.st = .running ↔ (s.canister n).stir.st = .running) := by
  rcases s.enter_canister c n with hc | hc
  · rw [hc]
    refine ⟨rfl, ?_⟩
    dsimp only
    rcases State.tested_of_not_working h n (s.canister n).stir with ⟨ht, hst⟩ | ht
    · simp [ht, hst]
    · rw [ht]
  · rw [hc]
    exact ⟨rfl, Iff.rfl⟩

/-- The flags stand at a change of cell state. -/
theorem State.enter_flags (c : CellState) : (s.enter c).dck.pause = s.dck.pause ∧ (s.enter c).dck.halt = s.dck.halt ∧
    (s.enter c).dck.jam = s.dck.jam := by
  obtain ⟨a, k, m, h⟩ := (s.inCell c).judgedClock_change
  rw [State.enter_dck, h]
  exact ⟨rfl, rfl, rfl⟩

/-! ## PAUSE -/

theorem State.takePause_of_working {s : State} (h : s.dck.cell = .run ∨ s.dck.cell = .night ∨ s.dck.cell = .capped) :
    s.takePause = State.enter { s with dck := { s.dck with pause := true } } .paused := by
  rcases h with h | h | h <;> simp only [State.takePause, h]

theorem State.takePause_of_not_working {s : State} (h1 : s.dck.cell ≠ .run) (h2 : s.dck.cell ≠ .night) (h3 : s.dck.cell ≠ .capped) :
    s.takePause = { s with dck := { s.dck with pause := true } } := by
  cases hc : s.dck.cell with
  | run => exact absurd hc h1
  | night => exact absurd hc h2
  | capped => exact absurd hc h3
  | starting | configFault | paused | halted | jammed => simp only [State.takePause, hc]

theorem State.takePause_flag : s.takePause.dck.pause = true := by
  by_cases h : s.dck.cell = .run ∨ s.dck.cell = .night ∨ s.dck.cell = .capped
  · rw [State.takePause_of_working h]
    exact (State.enter_flags _ _).1
  · simp only [not_or] at h
    rw [State.takePause_of_not_working h.1 h.2.1 h.2.2]

/-- A PAUSE taken where the cell works enters PAUSED, and starts and stops no drive (R34). -/
theorem State.takePause_spec {u : State} (h : u.dck.cell = .run ∨ u.dck.cell = .night ∨ u.dck.cell = .capped) :
    u.takePause.dck = { u.dck with pause := true, cell := .paused, idle := 0 } ∧ u.takePause.shots = u.shots ∧
    u.takePause.lids = u.lids ∧ u.takePause.shaker = u.shaker ∧
    u.takePause.seg = { u.seg with prompt := u.takePause.seg.prompt } ∧ u.takePause.xfr = u.xfr ∧
    (u.seg.prompt.isRequested = false → u.takePause.seg = u.seg ∧ u.takePause.panel = u.panel) ∧
    ∀ n, (u.takePause.canister n).stock = (u.canister n).stock ∧
      ((u.takePause.canister n).stir.st = .running ↔ (u.canister n).stir.st = .running) := by
  rw [State.takePause_of_working h]
  generalize hv : ({ u with dck := { u.dck with pause := true } } : State) = v
  obtain ⟨hshots, hlids, hshaker⟩ := v.enter_not_working (c := .paused) rfl
  obtain ⟨hseg, -, hkeep⟩ := v.enter_prompt (c := .paused) rfl
  have hdck := v.enter_dck_of_ne (c := .paused) (by decide)
  have hstir := v.enter_stir_not_working (c := .paused) rfl
  subst hv
  exact ⟨hdck, hshots, hlids, hshaker, hseg, State.enter_xfr _ _, hkeep, hstir⟩

theorem exec_pause {src : Nat} {s : State} (h : s.Hears .terminal src) :
    exec (.pause src) s = .next (s.refresh src none).takePause := by
  simp only [exec, execPause]
  exact State.act_next h.live (h.hear_terminal _)

/-! ## The state the cap gives (R33) -/

/-- The clock-given state is RUN or NIGHT (R28). -/
theorem State.clockGiven_ne : s.clockGiven ≠ .capped := by
  unfold State.clockGiven
  split <;> decide

/-- A cell that enters CAPPED has its cap judged (R33). -/
theorem State.enter_capped_dck : (s.enter .capped).dck =
    if s.inside = true ∨ s.localAt2 = true then DayClock.toOpen { s.dck with cell := .capped, idle := 0 }
    else { s.dck with cell := .capped, idle := 0 } := by
  rw [State.enter_dck, State.judgedClock]
  simp only [show (s.inCell .capped).dck.cell = .capped from rfl, true_and]
  rfl

theorem State.enter_capped_cell : (s.enter .capped).dck.cell = .capped := by
  rw [State.enter_capped_dck]
  split
  · obtain ⟨a, k, m, h⟩ := DayClock.toOpen_change { s.dck with cell := .capped, idle := 0 }
    rw [h]
  · rfl

/-- The cell state and the cap once the cell has entered the state the cap gives it. -/
theorem State.enterByCap_dck :
    (s.dck.cap = .opened → s.enterByCap.dck = { s.dck with cell := s.clockGiven, idle := 0 }) ∧
    (s.dck.cap ≠ .opened → s.enterByCap.dck.cell = .capped) ∧
    (s.dck.cap = .closed → s.inside = true → s.enterByCap.dck.cap = .opening) ∧
    (s.dck.cap = .closed → s.inside = false → s.localAt2 = false → s.enterByCap.dck.cap = .closed) ∧
    (s.dck.cap = .closing → s.inside = true → s.enterByCap.dck.cap = .closing ∧ s.enterByCap.dck.kept = some .opened) ∧
    (s.dck.cap = .opening → s.enterByCap.dck.cap = .opening) ∧
    (s.dck.cap = .stopped → s.inside = true → s.enterByCap.dck.cap = .opening ∧ s.enterByCap.dck.capTime = 0) ∧
    (s.dck.cap = .stopped → s.inside = false → s.enterByCap.dck.cap = .closing ∧ s.enterByCap.dck.capTime = 0) := by
  have hcell : s.dck.cap ≠ .opened → s.enterByCap.dck.cell = .capped := by
    intro h
    unfold State.enterByCap
    split
    · contradiction
    · exact s.enter_capped_cell
    · exact s.enter_capped_cell
    · exact s.enter_capped_cell
    · split
      · exact s.capOpen.enter_capped_cell
      · exact s.capClose.enter_capped_cell
  refine ⟨fun h => ?_, hcell, fun h hi => ?_, fun h hi hl => ?_, fun h hi => ?_, fun h => ?_, fun h hi => ?_,
      fun h hi => ?_⟩
  · simp only [State.enterByCap, h, State.enter_dck_of_ne s s.clockGiven_ne]
  · simp [-State.enter_dck, State.enterByCap, h, State.enter_capped_dck, hi, DayClock.toOpen]
  · simp [-State.enter_dck, State.enterByCap, h, State.enter_capped_dck, hi, hl]
  · simp [-State.enter_dck, State.enterByCap, h, State.enter_capped_dck, hi, DayClock.toOpen]
  · simp only [State.enterByCap, h, State.enter_capped_dck, DayClock.toOpen]
    split <;> simp
  · simp only [State.enterByCap, h, hi, if_true, State.capOpen]
    rw [State.enter_capped_dck]
    split <;> simp [DayClock.toOpen]
  · simp only [State.enterByCap, h, hi, Bool.false_eq_true, if_false, State.capClose]
    rw [State.enter_capped_dck]
    split <;> simp [DayClock.toOpen]

/-! ## RESUME -/

theorem exec_resume {src : Nat} {s : State} (h : s.Hears .terminal src) (x : Sample) :
    exec (.resume src x) s = .next ((s.latch x).refresh src none).takeResume := by
  simp only [exec, execResume]
  exact State.act_next h.live (State.Hears.hear_terminal (s := s.latch x) h _)

theorem State.takeResume_of_paused {s : State} (h : s.dck.cell = .paused) :
    s.takeResume = State.enterByCap { s with dck := { s.dck with pause := false } } := by
  simp only [State.takeResume, h]

theorem State.takeResume_of_not_paused {s : State} (h : s.dck.cell ≠ .paused) :
    s.takeResume = { s with dck := { s.dck with pause := false } } := by
  cases hc : s.dck.cell with
  | paused => exact absurd hc h
  | starting | configFault | run | night | capped | halted | jammed => simp only [State.takeResume, hc]

/-- The cell that enters the state its cap gives may command its cap first. -/
theorem State.enterByCap_enters : ∃ a k m c, s.enterByCap =
    State.enter { s with dck := { s.dck with cap := a, kept := k, capTime := m } } c := by
  unfold State.enterByCap
  split
  · exact ⟨_, _, _, _, rfl⟩
  · exact ⟨_, _, _, _, rfl⟩
  · exact ⟨_, _, _, _, rfl⟩
  · exact ⟨_, _, _, _, rfl⟩
  · obtain ⟨a, k, m, ho⟩ := s.dck.toOpen_change
    obtain ⟨a', k', m', hc⟩ := s.dck.toClose_change
    rw [State.capOpen_eq, State.capClose_eq, ho, hc]
    split
    · exact ⟨_, _, _, _, rfl⟩
    · exact ⟨_, _, _, _, rfl⟩

theorem State.enterByCap_flags : s.enterByCap.dck.pause = s.dck.pause ∧ s.enterByCap.dck.halt = s.dck.halt ∧
    s.enterByCap.dck.jam = s.dck.jam := by
  obtain ⟨a, k, m, c, h⟩ := s.enterByCap_enters
  rw [h]
  exact State.enter_flags _ c

theorem State.takeResume_flags : s.takeResume.dck.pause = false ∧ s.takeResume.dck.halt = s.dck.halt ∧
    s.takeResume.dck.jam = s.dck.jam := by
  by_cases h : s.dck.cell = .paused
  · rw [State.takeResume_of_paused h]
    exact State.enterByCap_flags _
  · rw [State.takeResume_of_not_paused h]
    exact ⟨rfl, rfl, rfl⟩

/-- A RESUME in PAUSED takes the cell where its cap allows (R35, R33). -/
theorem State.takeResume_dck {s u : State} (hdck : u.dck = s.dck) (hcfg : u.cfg = s.cfg) (hslots : u.seg.slots =
    s.seg.slots)
    (hp : s.dck.cell = .paused) :
    (s.dck.cap = .opened → u.takeResume.dck.cell = s.clockGiven ∧ u.takeResume.dck.cap = .opened) ∧
    (s.dck.cap ≠ .opened → u.takeResume.dck.cell = .capped) ∧
    (s.dck.cap = .closed → s.inside = true → u.takeResume.dck.cap = .opening) ∧
    (s.dck.cap = .closed → s.inside = false → s.localAt2 = false → u.takeResume.dck.cap = .closed) ∧
    (s.dck.cap = .closing → s.inside = true → u.takeResume.dck.cap = .closing ∧ u.takeResume.dck.kept = some .opened) ∧
    (s.dck.cap = .opening → u.takeResume.dck.cap = .opening) ∧
    (s.dck.cap = .stopped → s.inside = true → u.takeResume.dck.cap = .opening ∧ u.takeResume.dck.capTime = 0) ∧
    (s.dck.cap = .stopped → s.inside = false → u.takeResume.dck.cap = .closing ∧ u.takeResume.dck.capTime = 0) := by
  rw [State.takeResume_of_paused (by rw [hdck, hp])]
  generalize hv : ({ u with dck := { u.dck with pause := false } } : State) = v
  have hcap : v.dck.cap = s.dck.cap := by rw [← hv, ← hdck]
  have hin : v.inside = s.inside := State.inside_congr (by rw [← hv, ← hdck]) (by rw [← hv, ← hdck]) (by rw [← hv, ← hcfg])
  have hlocal : v.localAt2 = s.localAt2 := by simp only [State.localAt2, State.tinAt, State.slot, ← hv, hslots]
  have hgiven : v.clockGiven = s.clockGiven := by simp only [State.clockGiven, hin]
  rw [← hcap, ← hin, ← hlocal, ← hgiven]
  obtain ⟨hopen, hrest⟩ := v.enterByCap_dck
  exact ⟨fun h => by rw [hopen h]; exact ⟨rfl, h⟩, hrest⟩

/-- Settles O19: a PAUSE enters PAUSED, where no drive starts or stops; a RESUME enters the state the cap gives. -/
theorem pauseAndResume : Obligations.PauseAndResume := by
  unfold Obligations.PauseAndResume
  intro src x s h
  obtain ⟨st, b, k, hr⟩ := s.refresh_frame src none
  obtain ⟨st', b', k', hr'⟩ := (s.latch x).refresh_frame src none
  have hflags := ((s.latch x).refresh src none).takeResume_flags
  have hcells := State.takeResume_dck (s := s) (u := (s.latch x).refresh src none) (by rw [hr']; rfl) (by rw [hr']; rfl)
    (by rw [hr']; rfl)
  refine ⟨⟨_, exec_pause h, ?_, fun hc => ?_, fun h1 h2 h3 => ?_⟩, ⟨_, exec_resume h x, hflags.1, ?_, ?_, fun hp => ?_,
      hcells⟩⟩
  · exact State.takePause_flag _
  · have hpause := State.takePause_spec (u := s.refresh src none) (by rw [hr]; exact hc)
    rw [hr] at hpause ⊢
    exact hpause
  · rw [State.takePause_of_not_working (by rw [hr]; exact h1) (by rw [hr]; exact h2) (by rw [hr]; exact h3), hr]
  · rw [hflags.2.1, hr']; rfl
  · rw [hflags.2.2, hr']; rfl
  · rw [State.takeResume_of_not_paused (by rw [hr']; exact hp), hr']
    rfl

/-! ## IDLE_TIMEOUT and CAP_MOVE_END -/

/-- The idle test of R31, as far as a change of cell state asks for it. -/
theorem State.idleTest_facts {s : State} (h : s.idleTest = true) :
    (∀ n, s.slot n = none) ∧ s.shaker.st = .empty ∧ s.seg.prompt.isSet = false ∧ s.lids.bay.inPress = false := by
  simp only [State.idleTest, Bool.and_eq_true, beq_iff_eq, Bool.not_eq_true'] at h
  obtain ⟨⟨⟨⟨⟨⟨hslots, hshaker⟩, -⟩, hprompt⟩, -⟩, -⟩, hbay⟩ := h
  refine ⟨fun n => ?_, hshaker, hprompt, hbay⟩
  rw [State.slot, List.getD_eq_getElem?_getD]
  cases hn : s.seg.slots[n]? with
  | none => rfl
  | some r => simpa using List.all_eq_true.mp hslots r (List.mem_of_getElem? hn)

/-- An idle cell that enters CAPPED moves nothing but its cap (R31). -/
theorem State.enter_capped_of_idle {s : State} (h : s.idleTest = true) (hin : s.inside = false) :
    s.enter .capped =
      { s with dck := { s.dck with cell := .capped, idle := 0 }, canisters := (s.enter .capped).canisters } := by
  obtain ⟨hslots, hshaker, hprompt, hbay⟩ := State.idleTest_facts h
  have htin : ∀ n, (s.inCell .capped).tinAt n = none := fun n => by
    change knownTin (s.slot n) = none
    rw [hslots]
    rfl
  have hmoves : (s.inCell .capped).resumeMoves = s.inCell .capped := State.resumeMoves_of_not_dosing rfl
  have hseg : (s.inCell .capped).promptOnState = s.inCell .capped := by
    change (if s.seg.prompt.isRequested = true then _ else _) = _
    cases hp : s.seg.prompt <;> simp [hp, LoadPrompt.isSet] at hprompt
    rfl
  have hpressed : (s.inCell .capped).pressedLids = s.lids := by
    rw [State.pressedLids, htin]
    rfl
  have hlids : (s.inCell .capped).lidsOnState = s.lids := by
    rw [State.lidsOnState, hpressed]
    change (if _ then (match s.lids.bay with | .idle | .lidWait _ => s.lids | .pressStopped => _ | .pressing _ => s.lids) else s.lids) = s.lids
    cases hb : s.lids.bay <;> simp [hb, LidBay.inPress] at hbay ⊢
  have hshake : (s.inCell .capped).shakerAfter = s.shaker := by
    have hst : (s.inCell .capped).shaker.st = .empty := hshaker
    have hslot : (s.inCell .capped).slot 6 = none := hslots 6
    rw [State.shakerAfter, State.lookedShaker, hst, hslot]
    rfl
  have hclock : (s.inCell .capped).judgedClock = { s.dck with cell := .capped, idle := 0 } := by
    refine if_neg fun hj => ?_
    rcases hj.2 with hi | hl
    · exact Bool.false_ne_true (hin.symm.trans hi)
    · simp [State.localAt2, htin] at hl
  rw [State.enter_eq, hmoves, hseg, hlids, hshake, hclock]
  rfl

theorem exec_capMoveEnd {s : State} (h : s.Live) (x : Sample) : exec (.capMoveEnd x) s = .next
    (match s.dck.cap with
    | .opening => (s.latch x).capOpened
    | .closing => (s.latch x).capClosed
    | .opened | .closed | .stopped => s) := by
  simp only [exec, execCapMoveEnd]
  exact State.act_live _ h

/-- Settles O20: an idle cell moves nothing but its cap, and the end of a move leaves CAPPED once the cap is OPEN. -/
theorem capMoves : Obligations.CapMoves := by
  unfold Obligations.CapMoves
  intro x s h
  refine ⟨fun hcell hidle hcap hin => ?_, fun hno => ?_, fun hcap hk => ?_, fun hcap hk => ?_, fun hcap hk => ?_,
    fun hcap hk => ?_, fun hcap => ?_⟩
  · have hexec : exec .idleTimeout s = .next (s.capClose.enter .capped) := by
      simp only [exec, execIdleTimeout]
      exact State.act_next h (if_pos (by simp [hcell, hidle]))
    have hclose : s.capClose = { s with dck := { s.dck with cap := .closing, capTime := 0 } } :=
        by simp only [State.capClose, hcap]
    have henter := State.enter_capped_of_idle (s := s.capClose) (by rw [hclose]; exact hidle) (by rw [hclose]; exact hin)
    have hdck := congrArg (fun t : State => t.dck) henter
    refine ⟨_, hexec, ?_, ?_⟩
    · rw [hclose] at henter hdck ⊢
      rw [henter]
    · rw [hclose] at henter hdck ⊢
      exact hdck
  · simp only [exec, execIdleTimeout]
    refine State.act_next h (if_neg ?_)
    rcases hno with hno | hno <;> simp [hno]
  · simp only [exec_capMoveEnd h, hcap, State.capClosed, State.latch, hk]
  · simp only [exec_capMoveEnd h, hcap, State.capClosed, State.latch, hk]
  · simp only [exec_capMoveEnd h, hcap, State.capOpened, State.latch, hk]
  · refine ⟨(s.latch x).capOpened, by simp only [exec_capMoveEnd h, hcap], ?_⟩
    unfold State.capOpened
    simp only [State.latch, hk, beq_iff_eq]
    split
    · next hc =>
      rw [State.enter_dck_of_ne _ (State.clockGiven_ne _)]
      exact ⟨rfl, rfl, fun _ => ⟨rfl, rfl⟩, fun hn => absurd hc hn⟩
    · next hc => exact ⟨rfl, rfl, fun he => absurd he hc, fun _ => rfl⟩
  · rcases hcap with hcap | hcap | hcap <;> simp only [exec_capMoveEnd h, hcap]

end Sys2Proof.Machine
end

/-! # Proofs: ESTOP_RELEASED and CONFIRM outside JAMMED (O22) -/

section
namespace Sys2Proof.Machine

variable (s : State)

/-- The message slot stands at a change of cell state (R205). -/
theorem State.enter_message (c : CellState) : (s.enter c).panel.message = s.panel.message := by
  have judged : (s.inCell c).judgePrompt.panel.message = s.panel.message := by
    unfold State.judgePrompt
    split
    · rw [State.handLabel_eq, Panel.hand]
      split_ifs <;> rfl
    all_goals rfl
  have hpanel : (s.enter c).panel = (s.inCell c).promptOnState.panel := by rw [State.enter_eq]
  rw [hpanel, State.promptOnState]
  split_ifs
  · exact judged
  · rfl
  · rfl

/-- What a cell keeps that chooses its state again: all but the cell state, the cap, and what the blocks judge anew. -/
structure State.Chosen (s t : State) : Prop where
  flags : t.dck.pause = s.dck.pause ∧ t.dck.halt = s.dck.halt ∧ t.dck.jam = s.dck.jam
  message : t.panel.message = s.panel.message
  slots : t.seg.slots = s.seg.slots
  pending : t.pending = s.pending
  blocks : t.book = s.book ∧ t.bus = s.bus ∧ t.stations = s.stations ∧ t.xfr = s.xfr ∧ t.atn = s.atn ∧ t.cfg = s.cfg

theorem State.chosen_enter (c : CellState) : s.Chosen (s.enter c) :=
  ⟨s.enter_flags c, s.enter_message c, s.enter_slots c, s.enter_pending c,
    s.enter_book c, s.enter_bus c, s.enter_stations c, s.enter_xfr c, s.enter_atn c, s.enter_cfg c⟩

theorem State.chosen_enterByCap : s.Chosen s.enterByCap := by
  obtain ⟨a, k, m, c, h⟩ := s.enterByCap_enters
  obtain ⟨hflags, hmessage, hslots, hpending, hblocks⟩ :=
    State.chosen_enter { s with dck := { s.dck with cap := a, kept := k, capTime := m } } c
  rw [h]
  exact ⟨hflags, hmessage, hslots, hpending, hblocks⟩

/-- The halt left: the cell state is chosen by the flags, and without one by the cap (R37, R33). -/
theorem State.leaveHalt_eq {s : State} (h : s.pins.estop = false) : s.leaveHalt =
    if s.dck.jam = true then State.enter { s with dck := { s.dck with halt := false } } .jammed
    else if s.dck.pause = true then State.enter { s with dck := { s.dck with halt := false } } .paused
    else State.enterByCap { s with dck := { s.dck with halt := false } } := by
  simp only [State.leaveHalt, h, Bool.false_eq_true, if_false]

theorem State.chosen_leaveHalt {s : State} (h : s.pins.estop = false) :
    State.Chosen { s with dck := { s.dck with halt := false } } s.leaveHalt := by
  rw [State.leaveHalt_eq h]
  split
  · exact State.chosen_enter _ _
  · split
    · exact State.chosen_enter _ _
    · exact State.chosen_enterByCap _

theorem exec_confirm {s : State} (h : s.Live) (x : Sample) : exec (.confirm x) s = .next
    (match s.dck.cell with
    | .halted => (s.latch x).leaveHalt
    | .jammed => (s.latch x).reconcile
    | .run | .night | .capped | .paused => { s.latch x with panel := { s.panel with message := none } }
    | .starting | .configFault => s.latch x) := by
  simp only [exec, execConfirm]
  exact State.act_live _ h

/-- Settles O22: a CONFIRM in HALTED chooses the cell state by the flags, and by the cap where none is set. -/
theorem confirmLeavesHalted : Obligations.ConfirmLeavesHalted := by
  unfold Obligations.ConfirmLeavesHalted
  intro x s h
  refine ⟨⟨_, ?_, rfl, fun hc => ?_⟩, fun hc hstop => ?_, fun hc hstop => ?_, fun hc => ?_, fun hc => ?_⟩
  · simp only [exec, execEstopReleased]
    exact State.act_live _ h
  · have hheld : s.cfg.held = false := h
    simp [State.shown, State.prompt, hheld, hc]
  · simp only [exec_confirm h, hc, State.leaveHalt, State.latch, hstop, if_true]
  · have hleft := State.leaveHalt_eq (s := s.latch x) hstop
    obtain ⟨⟨hpause, hhalt, hjam⟩, hmessage, -, -, hblocks⟩ := State.chosen_leaveHalt (s := s.latch x) hstop
    refine ⟨_, by simp only [exec_confirm h, hc], hhalt, hjam, hpause, hmessage, fun hj => ?_, fun hj hp => ?_,
      fun hj hp => ?_, hblocks⟩
    · rw [hleft, if_pos (show (s.latch x).dck.jam = true from hj), State.enter_dck_of_ne _ (by decide)]
    · rw [hleft, if_neg (show ¬ (s.latch x).dck.jam = true by simp [State.latch, hj]),
        if_pos (show (s.latch x).dck.pause = true from hp), State.enter_dck_of_ne _ (by decide)]
    · rw [hleft, if_neg (show ¬ (s.latch x).dck.jam = true by simp [State.latch, hj]),
        if_neg (show ¬ (s.latch x).dck.pause = true by simp [State.latch, hp])]
      obtain ⟨hopen, hother, -, -, -, -, hin, hout⟩ :=
        State.enterByCap_dck { s.latch x with dck := { (s.latch x).dck with halt := false } }
      refine ⟨fun hcap => by rw [hopen hcap]; rfl, hother, fun hcap => ?_⟩
      cases hi : s.inside
      · exact (hout hcap hi).1
      · exact (hin hcap hi).1
  · rcases hc with hc | hc | hc | hc <;> simp only [exec_confirm h, hc]
  · rcases hc with hc | hc <;> simp only [exec_confirm h, hc]

end Sys2Proof.Machine
end

/-! # Proofs: the index (O44, O45) -/

section
namespace Sys2Proof.Machine

variable (s : State)

/-! ## INDEX_FINISH and INDEX_TIMEOUT -/

theorem State.working_iff : s.working = true ↔ s.dck.cell = .run ∨ s.dck.cell = .night ∨ s.dck.cell = .capped := by
  unfold State.working
  cases s.dck.cell <;> simp

theorem State.chuteReady_iff : s.chuteReady = true ↔ s.seg.chute < 6 ∧ s.pins.chuteDoor = false := by
  simp only [State.chuteReady, Bool.and_eq_true, decide_eq_true_eq, Bool.not_eq_true']
  rfl

/-- A stopped index may be finished where the state permits one and its tin can leave (R148). -/
theorem State.finishReady_iff {s : State} {d : Destination} {p : Bool} (h : s.seg.index = .stopped d p) :
    s.finishReady = true ↔ s.working = true ∧
      (s.slot 7 = none ∨ d ≠ .chute ∨ (s.seg.chute < 6 ∧ s.pins.chuteDoor = false)) := by
  simp [State.finishReady, h, State.chuteReady_iff, or_assoc]

theorem exec_indexFinish {s : State} (h : s.Live) : exec .indexFinish s = .next
    (match s.seg.index with
    | .stopped d pull => if s.finishReady then s.drive d pull else s
    | .idle => s
    | .running _ _ _ => s) := by
  simp only [exec, execIndexFinish]
  exact State.act_live _ h

/-- An index that fails: its drive stops, and a pull is cut short where the intake stands CLEARED (R149, R178). -/
def State.failIndex (s : State) (pull : Bool) : State :=
  { s with seg := { s.seg with index := .idle }, xfr := { s.xfr with cutShort := pull && s.xfr.intake.isCleared } }

theorem exec_indexTimeout {s : State} (h : s.Live) : exec .indexTimeout s = .next
    (match s.seg.index with
    | .running _ pull _ => (s.failIndex pull).jamCell
    | .idle => s
    | .stopped _ _ => s) := by
  simp only [exec, execIndexTimeout]
  exact State.act_live _ h

/-- A cell that enters a state permitting no motion changes its day clock, its prompt and its stirrers alone. -/
theorem State.enter_not_working_frame {c : CellState} (h : (s.inCell c).working = false) : s.enter c =
    { s with dck := (s.enter c).dck, seg := (s.enter c).seg, canisters := (s.enter c).canisters, panel := (s.enter c).panel } := by
  obtain ⟨hshots, hlids, hshaker⟩ := s.enter_not_working h
  rw [State.enter_eq] at hshots hlids hshaker ⊢
  dsimp only at hshots hlids hshaker
  rw [hshots, hlids, hshaker]

theorem State.enter_canister_keeps (c : CellState) (n : Nat) : ((s.enter c).canister n).stock = (s.canister n).stock ∧
    ((s.enter c).canister n).reserved = (s.canister n).reserved := by
  rcases s.enter_canister c n with h | h <;> rw [h] <;> exact ⟨rfl, rfl⟩

theorem Intake.isCleared_iff (i : Intake) : i.isCleared = true ↔ ∃ c, i = .cleared c := by
  cases i <;> simp [Intake.isCleared]

/-- Settles O45: a stopped index is driven again under its two conditions; one whose timer runs out jams the cell. -/
theorem indexFinishedOrFailed : Obligations.IndexFinishedOrFailed := by
  unfold Obligations.IndexFinishedOrFailed
  intro s h
  refine ⟨fun d p hi => ⟨fun hw hleave => ?_, fun hno => ?_, ?_⟩, fun hi => ⟨?_, ?_⟩, fun d p k hi => ⟨?_, ?_⟩⟩
  · simp only [exec_indexFinish h, hi, (State.finishReady_iff hi).mpr ⟨s.working_iff.mpr hw, hleave⟩, if_true]
    rfl
  · have hnot : ¬ s.finishReady = true := by
      rw [State.finishReady_iff hi]
      rintro ⟨hw, hleave⟩
      rcases hno with hno | ⟨h7, hd, hc⟩
      · exact Bool.false_ne_true (hno.symm.trans hw)
      · rcases hleave with hl | hl | ⟨hl1, hl2⟩
        · exact h7 hl
        · exact hl hd
        · rcases hc with hc | hc
          · omega
          · exact Bool.false_ne_true (hl2.symm.trans hc)
    simp only [exec_indexFinish h, hi, if_neg hnot]
  · simp only [exec_indexTimeout h, hi]
  · simp only [exec_indexFinish h, hi]
  · simp only [exec_indexTimeout h, hi]
  · simp only [exec_indexFinish h, hi]
  · refine ⟨(s.failIndex p).jamCell, by simp only [exec_indexTimeout h, hi], ?_⟩
    rw [State.jamCell]
    generalize hu : ({ s.failIndex p with dck := { (s.failIndex p).dck with jam := true } } : State) = u
    have hframe := u.enter_not_working_frame (c := .jammed) rfl
    have hdck := u.enter_dck_of_ne (c := .jammed) (by decide)
    obtain ⟨hseg, hreq, hkeep⟩ := u.enter_prompt (c := .jammed) rfl
    have hcut : u.xfr.cutShort = true ↔ p = true ∧ ∃ c, s.xfr.intake = .cleared c := by
      rw [← Intake.isCleared_iff, ← Bool.and_eq_true, ← hu]
      rfl
    have hcan := u.enter_canister_keeps .jammed
    generalize u.enter .jammed = t at hframe hdck hseg hreq hkeep hcan ⊢
    subst hu
    have hidle : t.seg.index = .idle := by rw [hseg]; rfl
    refine ⟨by rw [hframe]; rfl, hdck, by rw [State.convOut, hidle]; exact Bool.and_false _, hseg, hreq, fun hr => ?_,
      by rw [hframe]; rfl, by rw [hframe]; exact hcut, hcan⟩
    rw [(hkeep hr).1, (hkeep hr).2]
    exact ⟨rfl, rfl⟩

end Sys2Proof.Machine
end

/-! # Proofs: the index command (O44) -/

section
namespace Sys2Proof.Machine

variable (s : State)

/-! ## The identified tin at a slot -/

theorem State.tinAt_eq_some {s : State} {n : Nat} {a : Tin} : s.tinAt n = some a ↔ s.slot n = some (.known a) := by
  unfold State.tinAt knownTin
  cases s.slot n with
  | none => simp
  | some r => cases r <;> simp

theorem State.slot_setSlot {s : State} {n : Nat} (h : n < s.seg.slots.length) (r : Option TinRecord) :
    (s.setSlot n r).slot n = r := by
  simp [State.slot, State.setSlot, List.getD_eq_getElem?_getD, h]

theorem State.lt_of_slot {s : State} {n : Nat} {r : TinRecord} (h : s.slot n = some r) : n < s.seg.slots.length := by
  by_contra hn
  simp [State.slot, List.getD_eq_getElem?_getD, List.getElem?_eq_none (Nat.not_lt.mp hn)] at h

theorem State.slot_modTinAt_self {s : State} {n : Nat} {a : Tin} (h : s.tinAt n = some a) (f : Tin → Tin) :
    (s.modTinAt n f).slot n = some (.known (f a)) := by
  unfold State.modTinAt
  rw [h]
  exact State.slot_setSlot (State.lt_of_slot (State.tinAt_eq_some.mp h)) _

/-- A change that leaves the tin it finds leaves the register. -/
theorem State.modTinAt_id {s : State} {n : Nat} {f : Tin → Tin} (h : ∀ a, s.tinAt n = some a → f a = a) :
    s.modTinAt n f = s := by
  unfold State.modTinAt
  cases ht : s.tinAt n with
  | none => rfl
  | some a =>
    have hslot := State.tinAt_eq_some.mp ht
    have hlt := State.lt_of_slot hslot
    have hset : s.seg.slots.set n (some (.known a)) = s.seg.slots := by
      rw [State.slot, List.getD_eq_getElem?_getD, List.getElem?_eq_getElem hlt] at hslot
      rw [← show s.seg.slots[n] = some (.known a) from hslot, List.set_getElem_self]
    simp only [h a ht, State.setSlot, hset]

/-! ## The eight conditions (R145) and the pull decision (R147) -/

theorem isLidded_tinAt (n : Nat) : isLidded (s.slot n) = true ↔ ∃ a, s.tinAt n = some a ∧ a.st = .lidded := by
  simp only [State.tinAt_eq_some]
  rcases s.slot n with - | - | a <;> simp [isLidded]

theorem isFinishing_tinAt (n : Nat) : isFinishing (s.slot n) = true ↔ ∃ a, s.tinAt n = some a ∧ a.st = .finishing := by
  simp only [State.tinAt_eq_some]
  rcases s.slot n with - | - | a <;> simp [isFinishing]

theorem State.slot2Free_iff : s.slot2Free = true ↔ ∀ a, s.tinAt 2 = some a → a.st ≠ .loaded ∧ a.st ≠ .dosing := by
  unfold State.slot2Free
  cases s.tinAt 2 <;> simp

theorem State.slot6Free_iff : s.slot6Free = true ↔ s.shaker.st ≠ .loading ∧ s.shaker.st ≠ .returning ∧
    (s.shaker.st = .empty → ∀ a, s.tinAt 6 = some a → a.st ≠ .lidded) ∧
    (s.shaker.st ≠ .empty → s.slot 6 = none ∨ s.slot 7 ≠ none) := by
  have hlid : isLidded (s.slot 6) = false ↔ ∀ a, s.tinAt 6 = some a → a.st ≠ .lidded := by
    rw [← Bool.not_eq_true, isLidded_tinAt]
    simp
  rw [← hlid]
  unfold State.slot6Free
  cases s.shaker.st <;> simp [ShakeState.inTransfer, Option.isSome_iff_ne_none]

theorem State.slot7Free_iff : s.slot7Free = true ↔ ∀ r, s.slot 7 = some r → s.canLeave (s.destination r) = true := by
  unfold State.slot7Free
  cases s.slot 7 <;> simp

theorem LoadPrompt.isStanding_eq_false (p : LoadPrompt) : p.isStanding = false ↔ ∀ id n k d, p ≠ .standing id n k d := by
  cases p <;> simp [LoadPrompt.isStanding]

theorem LidBay.inPress_eq_false (b : LidBay) : b.inPress = false ↔ (∀ k, b ≠ .pressing k) ∧ b ≠ .pressStopped := by
  cases b <;> simp [LidBay.inPress]

theorem IndexState.busy_eq_false (i : IndexState) : i.busy = false ↔ i = .idle := by
  cases i <;> simp [IndexState.busy]

/-- The register holds a tin. -/
theorem State.anyTin_iff {s : State} (h : s.seg.slots.length = 8) :
    s.seg.slots.any Option.isSome = true ↔ ∃ n < 8, s.slot n ≠ none := by
  rw [List.any_eq_true]
  constructor
  · rintro ⟨r, hr, hs⟩
    obtain ⟨n, hn, rfl⟩ := List.mem_iff_getElem.mp hr
    refine ⟨n, h ▸ hn, ?_⟩
    rw [State.slot, List.getD_eq_getElem?_getD, List.getElem?_eq_getElem hn]
    exact Option.isSome_iff_ne_none.mp hs
  · rintro ⟨n, hn, hs⟩
    refine ⟨_, List.getElem_mem (h ▸ hn : n < s.seg.slots.length), Option.isSome_iff_ne_none.mpr ?_⟩
    rwa [State.slot, List.getD_eq_getElem?_getD, List.getElem?_eq_getElem (h ▸ hn)] at hs

theorem State.indexReady_iff {s : State} (h : s.seg.slots.length = 8) : s.indexReady = true ↔
    (s.dck.cell = .run ∨ s.dck.cell = .night ∨ s.dck.cell = .capped) ∧ s.seg.index = .idle ∧
    (∀ id n k d, s.seg.prompt ≠ .standing id n k d) ∧ (∀ a, s.tinAt 2 = some a → a.st ≠ .loaded ∧ a.st ≠ .dosing) ∧
    (∀ k, s.lids.bay ≠ .pressing k) ∧ s.lids.bay ≠ .pressStopped ∧ (∀ a, s.tinAt 4 = some a → a.st ≠ .finishing) ∧
    s.shaker.st ≠ .loading ∧ s.shaker.st ≠ .returning ∧
    (s.shaker.st = .empty → ∀ a, s.tinAt 6 = some a → a.st ≠ .lidded) ∧
    (s.shaker.st ≠ .empty → s.slot 6 = none ∨ s.slot 7 ≠ none) ∧
    (∀ r, s.slot 7 = some r → s.canLeave (s.destination r) = true) ∧
    ((∃ n < 8, s.slot n ≠ none) ∨ s.takesPull = true) := by
  have hfin : isFinishing (s.slot 4) = false ↔ ∀ a, s.tinAt 4 = some a → a.st ≠ .finishing := by
    rw [← Bool.not_eq_true, isFinishing_tinAt]
    simp
  unfold State.indexReady
  simp only [Bool.and_eq_true, Bool.not_eq_true', Bool.or_eq_true, State.working_iff, IndexState.busy_eq_false,
    LoadPrompt.isStanding_eq_false, State.slot2Free_iff, LidBay.inPress_eq_false, hfin, State.slot6Free_iff,
        State.slot7Free_iff,
    State.anyTin_iff h, and_assoc]

theorem State.offersPull_iff : s.offersPull = true ↔
    ∃ d, s.xfr.intake = .cleared d ∧ ((∃ q, d = .normal q) ∨ s.seg.chute < 6) := by
  unfold State.offersPull
  cases s.xfr.intake with
  | cleared d =>
    cases d with
    | normal q => simp
    | marked q | presumed q | unknown =>
      simp
      rfl
  | opened | hold => simp

theorem State.takesPull_iff : s.takesPull = true ↔ (∃ d, s.xfr.intake = .cleared d ∧ ((∃ q,
    d = .normal q) ∨ s.seg.chute < 6)) ∧
    ¬ ((∃ id, s.seg.prompt = .requested id) ∧ s.seg.pulled = true) := by
  rw [State.takesPull, Bool.and_eq_true, State.offersPull_iff, ← LoadPrompt.isRequested_iff, Bool.not_eq_true',
    ← Bool.not_eq_true, Bool.and_eq_true]

/-! ## The command taken -/

/-- What the index command makes of a LIDDED tin at slot 6 (R145). -/
def Tin.unlidded (t : Tin) : Tin := if t.st == .lidded then t.rejected .unfinished else t

/-- What the last cell makes of an undosed tin at slot 7 (R155). -/
def Tin.undosed (t : Tin) : Tin := if t.st == .deferred || t.st == .pass then t.rejected .unfinished else t

/-- Where the conditions hold, a LIDDED tin at slot 6 cannot wait for the shaker. -/
theorem State.rejectLidded_eq {s : State} (h : s.slot6Free = true) : s.rejectLidded = s.modTinAt 6 Tin.unlidded := by
  obtain ⟨-, -, hempty, hbusy⟩ := s.slot6Free_iff.mp h
  unfold State.rejectLidded
  split
  · rfl
  · next hno =>
    refine (State.modTinAt_id fun a ha => if_neg ?_).symm
    rw [beq_iff_eq]
    intro hlid
    by_cases he : s.shaker.st = .empty
    · exact hempty he a ha hlid
    · rcases hbusy he with h6 | h7
      · rw [State.tinAt_eq_some, h6] at ha
        cases ha
      · exact hno (by simp [he, Option.isSome_iff_ne_none, h7])

theorem State.judgeSlot7_eq : s.judgeSlot7 = if s.cfg.last = true then s.modTinAt 7 Tin.undosed else s := rfl

/-- The register as the index command leaves it: the two tins judged, and no other. -/
theorem State.judged_slots {s : State} (h : s.slot6Free = true) :
    ∃ l, s.rejectLidded.judgeSlot7 = { s with seg := { s.seg with slots := l } } := by
  rw [State.rejectLidded_eq h]
  obtain ⟨l, hl⟩ := s.modTinAt_change 6 Tin.unlidded
  rw [hl, State.judgeSlot7_eq]
  obtain ⟨l', hl'⟩ := State.modTinAt_change { s with seg := { s.seg with slots := l } } 7 Tin.undosed
  rw [hl']
  split
  · exact ⟨l', rfl⟩
  · exact ⟨l, rfl⟩

theorem State.slot_judged {s : State} (h : s.slot6Free = true) {n : Nat} (h6 : n ≠ 6) (h7 : n ≠ 7) :
    s.rejectLidded.judgeSlot7.slot n = s.slot n := by
  rw [State.rejectLidded_eq h, State.judgeSlot7_eq]
  split
  · rw [State.slot_modTinAt_ne _ _ (Ne.symm h7), State.slot_modTinAt_ne _ _ (Ne.symm h6)]
  · rw [State.slot_modTinAt_ne _ _ (Ne.symm h6)]

theorem State.slot6_judged {s : State} (h : s.slot6Free = true) :
    s.rejectLidded.judgeSlot7.slot 6 = (s.modTinAt 6 Tin.unlidded).slot 6 := by
  rw [State.rejectLidded_eq h, State.judgeSlot7_eq]
  split
  · rw [State.slot_modTinAt_ne _ _ (by decide)]
  · rfl

/-- Only the last cell judges the tin at slot 7. -/
theorem State.slot7_judged {s : State} (h : s.slot6Free = true) :
    (∀ a, s.tinAt 7 = some a → s.cfg.last = true → s.rejectLidded.judgeSlot7.slot 7 = some (.known a.undosed)) ∧
    ((∀ a, s.tinAt 7 = some a → s.cfg.last = true → a.undosed = a) → s.rejectLidded.judgeSlot7.slot 7 = s.slot 7) := by
  have hslot : (s.modTinAt 6 Tin.unlidded).slot 7 = s.slot 7 := State.slot_modTinAt_ne _ _ (by decide)
  have htin : (s.modTinAt 6 Tin.unlidded).tinAt 7 = s.tinAt 7 := congrArg knownTin hslot
  have hlast : (s.modTinAt 6 Tin.unlidded).cfg.last = s.cfg.last := by
    obtain ⟨l, hl⟩ := s.modTinAt_change 6 Tin.unlidded
    rw [hl]
  rw [State.rejectLidded_eq h, State.judgeSlot7_eq, hlast]
  refine ⟨fun a ha hl => ?_, fun hno => ?_⟩
  · rw [if_pos hl]
    exact State.slot_modTinAt_self (htin.trans ha) _
  · rw [← hslot]
    split
    · next hl =>
      rw [State.modTinAt_id fun a ha => hno a (htin.symm.trans ha) hl]
    · rfl

/-- The tin at slot 7 goes where it would have gone before it was judged (R155). -/
theorem State.fixedDestination_judged {s : State} (h : s.slot6Free = true) {r : TinRecord} (hr : s.slot 7 = some r) :
    s.rejectLidded.judgeSlot7.fixedDestination = s.destination r := by
  obtain ⟨hjudged, hkept⟩ := State.slot7_judged h
  obtain ⟨l, hl⟩ := State.judged_slots h
  have hdest := State.destination_congr (s := s) (s' := s.rejectLidded.judgeSlot7) (by rw [hl])
  unfold State.fixedDestination
  by_cases hno : ∀ a, s.tinAt 7 = some a → s.cfg.last = true → a.undosed = a
  · rw [hkept hno, hr]
    exact hdest r
  · push Not at hno
    obtain ⟨a, ha, hlast, -⟩ := hno
    rw [hjudged a ha hlast]
    rw [State.tinAt_eq_some.mp ha, Option.some.injEq] at hr
    rw [← hr]
    refine (hdest _).trans ?_
    unfold Tin.undosed
    split
    · next hst =>
      simp only [Bool.or_eq_true, beq_iff_eq] at hst
      rcases hst with hst | hst <;> simp [State.destination, Tin.rejected, hst, hlast]
    · rfl

/-- Settles O44: the eight conditions read off, and the register as the command leaves it, slot by slot. -/
theorem indexCommanded : Obligations.IndexCommanded := by
  unfold Obligations.IndexCommanded
  intro s h hlen
  refine ⟨State.indexReady_iff hlen, s.takesPull_iff, rfl, fun a => ⟨fun ha => ?_, fun ha => ?_, fun ha => ?_⟩,
    s.chuteReady_iff, by simp [State.canLeave], decide_eq_true_iff, fun hno => ?_, fun hyes => ?_⟩
  · simp [State.destination, ha]
  · simp [State.destination, ha]
  · rcases ha with ha | ha <;> simp [State.destination, ha]
  · simp only [exec, execIndexCommand]
    exact State.act_next h (if_neg (by simp [hno]))
  · have hfree := hyes
    simp only [State.indexReady, Bool.and_eq_true] at hfree
    obtain ⟨⟨⟨-, h6⟩, -⟩, -⟩ := hfree
    obtain ⟨l, hl⟩ := State.judged_slots h6
    obtain ⟨hjudged, hkept⟩ := State.slot7_judged h6
    have hslots : ∀ n, s.startIndex.slot n = s.rejectLidded.judgeSlot7.slot n := fun _ => rfl
    have hstart : s.startIndex = { s with
        seg := { s.seg with
          slots := l, index := .running s.rejectLidded.judgeSlot7.fixedDestination s.takesPull 0, pulled := s.takesPull }
        dck := { s.dck with idle := 0 } } := by
      simp only [State.startIndex, hl]
      rfl
    refine ⟨s.startIndex, s.rejectLidded.judgeSlot7.fixedDestination, ?_, ?_, ?_, ?_,
        fun r hr => State.fixedDestination_judged h6 hr,
      fun n hn6 hn7 => (hslots n).trans (State.slot_judged h6 hn6 hn7), fun a ha hlid => ?_, fun hno => ?_,
      fun a ha hlast hst => ?_, fun hno => ?_⟩
    · simp only [exec, execIndexCommand]
      exact State.act_next h (if_pos hyes)
    · rw [hstart]
    · rw [hstart]
    · have hrunning : s.startIndex.convOut = !s.cfg.held := by rw [hstart]; exact Bool.and_true _
      rw [hrunning, show s.cfg.held = false from h]
      rfl
    · rw [hslots, State.slot6_judged h6, State.slot_modTinAt_self ha, Tin.unlidded, if_pos (by simp [hlid])]
      rfl
    · rw [hslots, State.slot6_judged h6, State.modTinAt_id fun a ha => ?_]
      exact if_neg (by simp [hno a ha])
    · rw [hslots, hjudged a ha hlast, Tin.undosed, if_pos (by simpa using hst)]
      rfl
    · refine (hslots 7).trans (hkept fun a ha hlast => if_neg ?_)
      rcases hno a ha with hl | hst
      · exact absurd (hlast.symm.trans hl) (by decide)
      · simpa using hst

end Sys2Proof.Machine
end

/-! # Proofs: CONFIRM in JAMMED (O48) -/

section
namespace Sys2Proof.Machine

variable (s : State)

/-! ## One slot of the reconcile (R158) -/

/-- A report changes the send queue, the book, the load prompt and the panel alone. -/
theorem State.report_change (m : TinReportMsg) : ∃ b k g p,
    s.report m = { s with bus := b, book := k, seg := { s.seg with prompt := g }, panel := p } := by
  obtain ⟨b, k, g, p, x, h⟩ := s.tells_report m
  obtain ⟨b', k', g', p', h'⟩ := s.report_frame m
  have hx : x = s.xfr := (congrArg (fun t : State => t.xfr) (h.symm.trans h') : _)
  exact ⟨b, k, g, p, h.trans (by rw [hx])⟩

/-- What the sensor makes of slot `n`. -/
def State.settledAt (s : State) (n : Nat) : Option TinRecord :=
  if s.sensed n = true then some ((s.slot n).getD .unknown) else none

/-- The report of the tin whose record the sensor of slot `n` takes away. -/
def State.lostAt (s : State) (n : Nat) : Option TinReportMsg :=
  if s.sensed n = true then none else (s.tinAt n).map (fun t => t.reportMsg s.self .lost (some .jamReconcile))

/-- A report placed, if there is one. -/
def State.reportAny (s : State) (m : Option TinReportMsg) : State :=
  match m with
  | none => s
  | some m => s.report m

theorem State.setSlot_slot (n : Nat) : s.setSlot n (s.slot n) = s := by
  have hset : s.seg.slots.set n (s.slot n) = s.seg.slots := by
    rw [State.slot, List.getD_eq_getElem?_getD]
    by_cases hn : n < s.seg.slots.length
    · rw [List.getElem?_eq_getElem hn, Option.getD_some, List.set_getElem_self]
    · exact List.set_eq_of_length_le (Nat.not_lt.mp hn)
  rw [State.setSlot, hset]

theorem State.reconcileSlot_eq (n : Nat) : s.reconcileSlot n = (s.setSlot n (s.settledAt n)).reportAny (s.lostAt n) := by
  have hself := s.setSlot_slot n
  unfold State.reconcileSlot State.settledAt State.lostAt
  split
  · cases hr : s.slot n with
    | none => rfl
    | some r =>
      rw [hr] at hself
      exact hself.symm
  · rw [State.tinAt]
    rcases hr : s.slot n with - | - | t
    · rw [hr] at hself
      exact hself.symm
    · rfl
    · rfl

theorem State.reportAny_change (m : Option TinReportMsg) : ∃ b k g p,
    s.reportAny m = { s with bus := b, book := k, seg := { s.seg with prompt := g }, panel := p } := by
  cases m with
  | none => exact ⟨_, _, _, _, rfl⟩
  | some m => exact s.report_change m

/-! ## The slots settled -/

/-- The register settled up to slot `k`: what changes, and what each slot holds. -/
theorem State.reconciled_to {s : State} {k : Nat} (hk : k ≤ s.seg.slots.length) :
    ∃ b o g p l, (List.range k).foldl State.reconcileSlot s =
      { s with bus := b, book := o, seg := { s.seg with prompt := g, slots := l }, panel := p } ∧
      l.length = s.seg.slots.length ∧ ∀ n, l.getD n none = if n < k then s.settledAt n else s.slot n := by
  induction k with
  | zero => exact ⟨_, _, _, _, _, rfl, rfl, fun n => by simp [State.slot]⟩
  | succ k ih =>
    obtain ⟨b, o, g, p, l, hfold, hlen, hslots⟩ := ih (Nat.le_of_succ_le hk)
    rw [List.range_succ, List.foldl_append, hfold, List.foldl_cons, List.foldl_nil]
    generalize hu : ({ s with bus := b, book := o, seg := { s.seg with prompt := g, slots := l }, panel := p } : State) = u
    have hslot : u.slot k = s.slot k := by
      rw [← hu]
      exact (hslots k).trans (if_neg (Nat.lt_irrefl k))
    have hsettled : u.settledAt k = s.settledAt k := by
      rw [State.settledAt, hslot, ← hu]
      rfl
    obtain ⟨b', o', g', p', hreport⟩ := (u.setSlot k (u.settledAt k)).reportAny_change (u.lostAt k)
    rw [State.reconcileSlot_eq, hreport, hsettled, ← hu]
    refine ⟨b', o', g', p', l.set k (s.settledAt k), rfl, (List.length_set ..).trans hlen, fun n => ?_⟩
    rw [List.getD_eq_getElem?_getD]
    by_cases hn : n = k
    · rw [hn, List.getElem?_set_self (by omega), if_pos (Nat.lt_succ_self k)]
      rfl
    · rw [List.getElem?_set_ne (Ne.symm hn), ← List.getD_eq_getElem?_getD, hslots]
      exact if_congr (by omega) rfl rfl

/-- A report of a tin of other origin placed, if there is one. -/
def State.placeAny (s : State) (m : Option TinReportMsg) : State :=
  match m with
  | none => s
  | some m => s.place (.tinReport m)

theorem State.bus_placeAny {s t : State} (h : s.bus = t.bus) (m : Option TinReportMsg) :
    (s.placeAny m).bus = (t.placeAny m).bus := by
  cases m with
  | none => exact h
  | some m => exact congrArg (fun b : Bus => b.add (Notice.queued (.tinReport m))) h

/-- What the reports place depends on the bus alone. -/
theorem State.bus_foldl_placeAny (f : Nat → Option TinReportMsg) (l : List Nat) {s t : State} (h : s.bus = t.bus) :
    (l.foldl (fun b n => b.placeAny (f n)) s).bus = (l.foldl (fun b n => b.placeAny (f n)) t).bus := by
  induction l generalizing s t with
  | nil => exact h
  | cons n l ih => exact ih (State.bus_placeAny h (f n))

/-- A tin is lost whose record stands and whose slot senses none (R158). -/
theorem State.lostAt_eq_some {s : State} {n : Nat} {m : TinReportMsg} (h : s.lostAt n = some m) :
    s.sensed n = false ∧ ∃ a, s.tinAt n = some a ∧ m.tin = a.id := by
  unfold State.lostAt at h
  split at h
  · cases h
  · next hs =>
    obtain ⟨a, ha, rfl⟩ := Option.map_eq_some_iff.mp h
    exact ⟨Bool.not_eq_true _ ▸ hs, a, ha, rfl⟩

/-- Where no tin of this cell's origin is lost, the reports are placed and the book stands (R67, R158). -/
theorem State.reconciled_foreign {s : State} {k : Nat} (hk : k ≤ s.seg.slots.length)
    (hforeign : ∀ n < k, ∀ m, s.lostAt n = some m → m.tin.cell ≠ s.self) :
    ((List.range k).foldl State.reconcileSlot s).book = s.book ∧
      ((List.range k).foldl State.reconcileSlot s).bus =
          ((List.range k).foldl (fun b n => b.placeAny (s.lostAt n)) s).bus := by
  induction k with
  | zero => exact ⟨rfl, rfl⟩
  | succ k ih =>
    obtain ⟨hbook, hbus⟩ := ih (Nat.le_of_succ_le hk) fun n hn => hforeign n (Nat.lt_succ_of_lt hn)
    obtain ⟨b, o, g, p, l, hfold, -, hslots⟩ := State.reconciled_to (Nat.le_of_succ_le hk)
    rw [List.range_succ, List.foldl_append, List.foldl_append, List.foldl_cons, List.foldl_nil, List.foldl_cons,
        List.foldl_nil]
    generalize (List.range k).foldl State.reconcileSlot s = u at hbook hbus hfold ⊢
    generalize (List.range k).foldl (fun b n => b.placeAny (s.lostAt n)) s = v at hbus ⊢
    have hslot : u.slot k = s.slot k := by
      rw [hfold]
      exact (hslots k).trans (if_neg (Nat.lt_irrefl k))
    have hlost : u.lostAt k = s.lostAt k := by
      rw [State.lostAt, State.tinAt, hslot, hfold]
      rfl
    have hself : u.self = s.self := by rw [hfold]; rfl
    rw [State.reconcileSlot_eq, hlost]
    cases hm : s.lostAt k with
    | none => exact ⟨hbook, hbus⟩
    | some m =>
      have hplace : (u.setSlot k (u.settledAt k)).report m = (u.setSlot k (u.settledAt k)).place (.tinReport m) :=
        State.report_foreign (by
          rw [show (u.setSlot k (u.settledAt k)).self = u.self from rfl, hself]
          exact hforeign k (Nat.lt_succ_self k) m hm)
      rw [State.reportAny, hplace]
      exact ⟨hbook, congrArg (fun b : Bus => b.add (Notice.queued (.tinReport m))) hbus⟩

/-! ## The cut-short pull (R178) -/

/-- What the reconcile makes of a pull that stands, or whose tin has not left the gate. -/
theorem State.reconcilePull_stands {s : State} (h : s.xfr.cutShort = false ∨ s.pins.sample.laneHead = true) :
    s.reconcilePull = { s with xfr := { s.xfr with cutShort := false } } := by
  unfold State.reconcilePull
  cases hc : s.xfr.cutShort with
  | false =>
    have hx : { s.xfr with cutShort := false } = s.xfr := by rw [← hc]
    rw [hx]
    rfl
  | true => simp [h.resolve_left (by simp [hc])]

/-- The item of a sequence carries it. -/
theorem State.item_seq {s : State} {q : Nat} {e : Expected} (h : s.item q = some e) : e.msg.seq = q := by
  simpa using List.find?_some h

/-- The tin of a cut-short pull that has left the gate is off the list, and the pointer is set (R178). -/
theorem State.reconcilePull_gone {s : State} {c : Disposition} {q : Nat} {e : Expected} (hcut : s.xfr.cutShort = true)
    (hgate : s.pins.sample.laneHead = false) (hin : s.xfr.intake = .cleared c) (hq : Disposition.seq c = some q)
    (he : s.item q = some e) : s.reconcilePull.xfr.intake = .opened ∧ s.reconcilePull.xfr.pointer = q ∧
      e ∉ s.reconcilePull.xfr.expected := by
  unfold State.reconcilePull
  simp only [hcut, hgate, hin, hq, he, Option.bind_some, Bool.not_true, Bool.false_eq_true, if_false, State.item_seq he]
  generalize hu : State.setPointer _ q = u
  obtain ⟨b, k, g, p, hr⟩ := u.report_change (lostReport e.msg s.self .jamReconcile)
  rw [hr, ← hu]
  refine ⟨rfl, rfl, fun hmem => ?_⟩
  have hdrop := (List.mem_filter.mp (List.mem_filter.mp hmem).1).2
  simp [State.item_seq he] at hdrop

/-- The reconcile of a pull leaves the tins on the lane. -/
theorem State.reconcilePull_change : ∃ b o g p x, s.reconcilePull =
    { s with bus := b, book := o, seg := { s.seg with prompt := g }, panel := p, xfr := x } ∧
    x.inTransit = s.xfr.inTransit ∧ x.release = s.xfr.release ∧ x.cutShort = false := by
  by_cases h : s.xfr.cutShort = false ∨ s.pins.sample.laneHead = true
  · exact ⟨_, _, _, _, _, s.reconcilePull_stands h, rfl, rfl, rfl⟩
  · simp only [not_or, Bool.not_eq_false, Bool.not_eq_true] at h
    unfold State.reconcilePull
    simp only [h.1, h.2, Bool.not_true, Bool.false_eq_true, if_false]
    split
    · split
      · exact ⟨_, _, _, _, _, rfl, rfl, rfl, rfl⟩
      · next e _ =>
        generalize hu : State.setPointer _ e.msg.seq = u
        obtain ⟨b, k, g, p, hr⟩ := u.report_change (lostReport e.msg s.self .jamReconcile)
        rw [hr, ← hu]
        exact ⟨_, _, _, _, _, rfl, rfl, rfl, rfl⟩
    · exact ⟨_, _, _, _, _, rfl, rfl, rfl, rfl⟩
    · exact ⟨_, _, _, _, _, rfl, rfl, rfl, rfl⟩

/-! ## The blocks told of their bays -/

/-- A record with its tin changed by `f`, if it carries one. -/
def TinRecord.mapTin (f : Tin → Tin) : TinRecord → TinRecord
  | .unknown => .unknown
  | .known t => .known (f t)

/-- What each slot holds after a change of the identified tin at slot `n`. -/
theorem State.slot_modTinAt (n m : Nat) (f : Tin → Tin) :
    (s.modTinAt n f).slot m = if n = m then (s.slot n).map (TinRecord.mapTin f) else s.slot m := by
  split
  · next h =>
    subst h
    rcases hr : s.slot n with - | - | a
    · rw [State.modTinAt_id fun a ha => absurd (State.tinAt_eq_some.mp ha) (by simp [hr]), hr]
      rfl
    · rw [State.modTinAt_id fun a ha => absurd (State.tinAt_eq_some.mp ha) (by simp [hr]), hr]
      rfl
    · rw [State.slot_modTinAt_self (State.tinAt_eq_some.mpr hr)]
      rfl
  · next h => exact State.slot_modTinAt_ne _ _ h

theorem State.judgePrompt_slot (n : Nat) : s.judgePrompt.slot n = s.slot n := by
  obtain ⟨g, k, p, h⟩ := s.judgePrompt_change
  rw [h]
  rfl

theorem State.judgeSlot7_slot (n : Nat) : s.judgeSlot7.slot n =
    if n = 7 ∧ s.cfg.last = true then (s.slot 7).map (TinRecord.mapTin Tin.undosed) else s.slot n := by
  rw [State.judgeSlot7_eq]
  split
  · next h => simp only [State.slot_modTinAt, h, and_true, eq_comm]
  · next h => rw [if_neg fun hc => h hc.2]

/-- The state before the last tests of `tellBays`: the tin at slot 2 has arrived, and two blocks have looked. -/
def State.bayLooks (s : State) : State := s.formWaiting.arriveSlot2.lidLook.shakerLook.judgeCap

theorem State.lidLook_eq : ∃ l, s.lidLook = { s with lids := l } := by
  unfold State.lidLook
  split
  · exact ⟨_, s.pressStart_eq⟩
  · exact ⟨_, rfl⟩

theorem State.bayLooks_change : ∃ w sl li sh a k m, s.bayLooks =
    { s with
      shots := { s.shots with waiting := w }, seg := { s.seg with slots := sl }, lids := li, shaker := sh
      dck := { s.dck with cap := a, kept := k, capTime := m } } ∧
    ∀ n, sl.getD n none = if n = 2 then (s.slot 2).map (TinRecord.mapTin Tin.arriveDispense) else s.slot n := by
  obtain ⟨sl, hsl⟩ := s.formWaiting.modTinAt_change 2 Tin.arriveDispense
  have harrive : s.formWaiting.arriveSlot2 = { s.formWaiting with seg := { s.formWaiting.seg with slots := sl } } := hsl
  have hslots : ∀ n, sl.getD n none = if n = 2 then (s.slot 2).map (TinRecord.mapTin Tin.arriveDispense) else s.slot n := by
    intro n
    have hn := s.formWaiting.slot_modTinAt 2 n Tin.arriveDispense
    rw [hsl] at hn
    exact hn.trans (if_congr eq_comm rfl rfl)
  obtain ⟨li, hli⟩ := s.formWaiting.arriveSlot2.lidLook_eq
  obtain ⟨a, k, m, hcap⟩ := s.formWaiting.arriveSlot2.lidLook.shakerLook.judgedClock_change
  refine ⟨((s.tinAt 2).map Tin.localIndices).getD [], sl, li, s.formWaiting.arriveSlot2.lidLook.lookedShaker, a, k, m,
      ?_, hslots⟩
  rw [State.bayLooks, State.judgeCap_eq, hcap, State.shakerLook_eq, hli, harrive]
  rfl

/-- What the blocks told of their bays leave (R146, R158). -/
theorem State.tellBays_leaves : s.tellBays.book = s.book ∧ s.tellBays.bus = s.bus ∧ s.tellBays.stations = s.stations ∧
    s.tellBays.xfr = s.xfr ∧ s.tellBays.dck.cell = s.dck.cell ∧ s.tellBays.dck.jam = s.dck.jam ∧
    s.tellBays.dck.pause = s.dck.pause ∧ s.tellBays.dck.halt = s.dck.halt := by
  have htold : s.tellBays = s.bayLooks.judgeSlot7.judgePrompt := rfl
  obtain ⟨w, sl, li, sh, a, k, m, hlooks, -⟩ := s.bayLooks_change
  obtain ⟨g, i, p, hprompt⟩ := s.bayLooks.judgeSlot7.judgePrompt_change
  obtain ⟨l, hl⟩ := s.bayLooks.modTinAt_change 7 Tin.undosed
  have hjudged : ∃ l, s.bayLooks.judgeSlot7 = { s.bayLooks with seg := { s.bayLooks.seg with slots := l } } := by
    rw [State.judgeSlot7_eq]
    split
    · exact ⟨l, hl⟩
    · exact ⟨_, rfl⟩
  obtain ⟨l', hl'⟩ := hjudged
  rw [htold, hprompt, hl', hlooks]
  exact ⟨rfl, rfl, rfl, rfl, rfl, rfl, rfl, rfl⟩

/-- What each slot holds once the blocks have been told of their bays: the tin at slot 2 has arrived, and at the last cell
the one at slot 7 has been judged (R153, R155). -/
theorem State.tellBays_slot (n : Nat) : s.tellBays.slot n =
    if n = 7 ∧ s.cfg.last = true then (s.slot 7).map (TinRecord.mapTin Tin.undosed)
    else if n = 2 then (s.slot 2).map (TinRecord.mapTin Tin.arriveDispense) else s.slot n := by
  have htold : s.tellBays = s.bayLooks.judgeSlot7.judgePrompt := rfl
  obtain ⟨w, sl, li, sh, a, k, m, hlooks, hslots⟩ := s.bayLooks_change
  have hslot : ∀ n, s.bayLooks.slot n = if n = 2 then (s.slot 2).map (TinRecord.mapTin Tin.arriveDispense) else s.slot n :=
    fun n => by rw [hlooks]; exact hslots n
  have hlast : s.bayLooks.cfg.last = s.cfg.last := by rw [hlooks]
  rw [htold, State.judgePrompt_slot, State.judgeSlot7_slot, hslot, hslot, hlast]
  rfl

/-- The blocks told of their bays take away no tin, and leave one without an identity. -/
theorem State.tellBays_slot_none (n : Nat) : s.tellBays.slot n = none ↔ s.slot n = none := by
  rw [State.tellBays_slot]
  split
  · next h => rw [h.1, Option.map_eq_none_iff]
  · split
    · next h => rw [h, Option.map_eq_none_iff]
    · exact Iff.rfl

theorem State.tellBays_slot_unknown {s : State} {n : Nat} (h : s.slot n = some .unknown) :
    s.tellBays.slot n = some .unknown := by
  rw [State.tellBays_slot]
  split
  · next hn =>
    rw [← hn.1, h]
    rfl
  · split
    · next hn =>
      rw [← hn, h]
      rfl
    · exact h

/-! ## The reconcile -/

/-- The state once the slots and the pull have been settled, and the jam flag cleared (R158, R178). -/
def State.settledJam (s : State) : State :=
  let s1 := State.reconcilePull ((List.range 8).foldl State.reconcileSlot s)
  { s1 with dck := { s1.dck with jam := false } }

/-- The state chosen anew before the blocks are told of their bays. -/
def State.chosenJam (s : State) : State :=
  if s.settledJam.dck.pause then s.settledJam.enter .paused else s.settledJam.enterByCap

theorem State.reconcile_eq : s.reconcile = s.chosenJam.tellBays := rfl

theorem State.chosen_chosenJam : s.settledJam.Chosen s.chosenJam := by
  unfold State.chosenJam
  split
  · exact State.chosen_enter _ _
  · exact State.chosen_enterByCap _

/-- The reconcile of the slots and of the pull: what each slot holds, and what stays. -/
theorem State.settledJam_change {s : State} (hlen : s.seg.slots.length = 8) :
    (∀ n < 8, s.settledJam.slot n = s.settledAt n) ∧ s.settledJam.dck = { s.dck with jam := false } ∧
    s.settledJam.cfg = s.cfg ∧ s.settledJam.stations = s.stations ∧
    s.settledJam.xfr.inTransit = s.xfr.inTransit ∧ s.settledJam.xfr.release = s.xfr.release ∧
    s.settledJam.xfr.cutShort = false := by
  obtain ⟨b, o, g, p, l, hfold, -, hslots⟩ := State.reconciled_to (s := s) (k := 8) hlen.ge
  obtain ⟨b', o', g', p', x, hpull, htransit, hrelease,
      hcut⟩ := State.reconcilePull_change ((List.range 8).foldl State.reconcileSlot s)
  rw [hfold] at htransit hrelease
  unfold State.settledJam
  dsimp only
  rw [hpull, hfold]
  exact ⟨fun n hn => (hslots n).trans (if_pos hn), rfl, rfl, rfl, htransit, hrelease, hcut⟩

/-- A pull that stands, or whose tin has not left the gate, is no longer cut short, and nothing else. -/
theorem State.settledJam_stands {s : State} (hlen : s.seg.slots.length = 8)
    (h : s.xfr.cutShort = false ∨ s.pins.sample.laneHead = true) :
    s.settledJam.xfr = { s.xfr with cutShort := false } ∧
    s.settledJam.book = ((List.range 8).foldl State.reconcileSlot s).book ∧
    s.settledJam.bus = ((List.range 8).foldl State.reconcileSlot s).bus := by
  obtain ⟨b, o, g, p, l, hfold, -⟩ := State.reconciled_to (s := s) (k := 8) hlen.ge
  unfold State.settledJam
  dsimp only
  rw [State.reconcilePull_stands (by rw [hfold]; exact h), hfold]
  exact ⟨rfl, rfl, rfl⟩

theorem State.settledJam_gone {s : State} (hlen : s.seg.slots.length = 8) {c : Disposition} {q : Nat} {e : Expected}
    (hcut : s.xfr.cutShort = true) (hgate : s.pins.sample.laneHead = false) (hin : s.xfr.intake = .cleared c)
    (hq : Disposition.seq c = some q) (he : s.item q = some e) :
    s.settledJam.xfr.intake = .opened ∧ s.settledJam.xfr.pointer = q ∧ e ∉ s.settledJam.xfr.expected := by
  obtain ⟨b, o, g, p, l, hfold, -⟩ := State.reconciled_to (s := s) (k := 8) hlen.ge
  unfold State.settledJam
  dsimp only
  rw [hfold]
  exact State.reconcilePull_gone hcut hgate hin hq he

/-- A tin done, rejected or deferred is left where it arrives at slot 2 (R153). -/
theorem Tin.arriveDispense_of_ended {a : Tin} (h : a.st = .done ∨ a.st = .reject ∨ a.st = .deferred) :
    a.arriveDispense = a := by
  rcases h with h | h | h <;> simp only [Tin.arriveDispense, h]

/-- Settles O48: each slot follows its sensor, the pull is settled, the state is chosen by the flag and the cap, and the
blocks told of their bays take no tin away. -/
theorem confirmReconcilesJam : Obligations.ConfirmReconcilesJam := by
  unfold Obligations.ConfirmReconcilesJam
  intro x s h hcell hlen hidle
  have hexec : exec (.confirm x) s = .next (s.latch x).reconcile := by simp only [exec_confirm h, hcell]
  obtain ⟨hslots, hdck, hcfg, hstations, htransit, hrelease, hcut⟩ := State.settledJam_change (s := s.latch x) hlen
  obtain ⟨⟨hpause, hhalt, hjam⟩, -, hkept, -, hbook, hbus, hst, hxfr, -, hcfg'⟩ := (s.latch x).chosen_chosenJam
  obtain ⟨hbook', hbus', hst', hxfr', hcell', hjam', hpause', hhalt'⟩ := (s.latch x).chosenJam.tellBays_leaves
  have hslot : ∀ n < 8, (s.latch x).chosenJam.slot n = (s.latch x).settledAt n := fun n hn => by
    rw [State.slot, hkept]
    exact hslots n hn
  refine ⟨_, hexec, ?_⟩
  rw [State.reconcile_eq, hjam', hpause', hhalt', hjam, hpause, hhalt, hxfr', hxfr, hst', hst, hcell', hdck, htransit,
      hrelease, hcut,
    hstations, hbook', hbook, hbus', hbus]
  refine ⟨rfl, rfl, rfl, fun hp => ?_, fun hp => ?_, fun n hn h2 h7 => ?_, fun n hn => ?_, fun n hn hno hs => ?_,
    fun a ha hs hst => ?_, rfl, rfl, rfl, rfl, fun hc => ?_, fun c q e hc hgate hin hq he => ?_, fun hforeign hc => ?_⟩
  · rw [State.chosenJam, if_pos (by rw [hdck]; exact hp), State.enter_dck_of_ne _ (by decide)]
  · obtain ⟨hopen, hother, -⟩ := (s.latch x).settledJam.enterByCap_dck
    rw [State.chosenJam, if_neg (by rw [hdck]; simp [State.latch, hp])]
    rw [hdck] at hopen hother
    refine ⟨fun hcap => ?_, hother⟩
    rw [hopen hcap, State.clockGiven, State.inside_congr (by rw [hdck]) (by rw [hdck]) hcfg]
    rfl
  · rw [State.tellBays_slot, if_neg fun hc => h7 hc.1, if_neg h2]
    exact hslot n hn
  · rw [State.tellBays_slot_none, hslot n hn, State.settledAt]
    change (if x.slots.getLsbD n = true then _ else _) = none ↔ _
    cases x.slots.getLsbD n <;> simp
  · refine State.tellBays_slot_unknown ((hslot n hn).trans ?_)
    rw [State.settledAt, if_pos (show (s.latch x).sensed n = true from hs)]
    change knownTin (s.slot n) = none at hno
    change some ((s.slot n).getD .unknown) = _
    rcases hr : s.slot n with - | - | a
    · rfl
    · rfl
    · rw [hr] at hno
      cases hno
  · have hset : (s.latch x).settledAt 2 = some (.known a) := by
      rw [State.settledAt, if_pos (show (s.latch x).sensed 2 = true from hs),
        show (s.latch x).slot 2 = some (.known a) from State.tinAt_eq_some.mp ha]
      rfl
    rw [State.tinAt_eq_some, State.tellBays_slot, if_neg fun hc => absurd hc.1 (by decide), if_pos rfl,
      hslot 2 (by decide), hset, Option.map_some, TinRecord.mapTin, Tin.arriveDispense_of_ended hst]
  · exact (State.settledJam_stands (s := s.latch x) hlen hc).1
  · exact State.settledJam_gone (s := s.latch x) hlen hc hgate hin hq he
  · obtain ⟨-, hb, hu⟩ := State.settledJam_stands (s := s.latch x) hlen (.inl hc)
    obtain ⟨hfb, hfu⟩ := State.reconciled_foreign (s := s.latch x) (k := 8) hlen.ge fun n hn m hm => by
      obtain ⟨hs, a, ha, hid⟩ := State.lostAt_eq_some hm
      rw [hid]
      exact hforeign n hn a ha hs
    rw [hb, hu, hfb, hfu]
    refine ⟨rfl, (State.bus_foldl_placeAny (s.latch x).lostAt (List.range 8) (s := s.latch x) (t := s) rfl).trans ?_⟩
    congr 2
    funext b n
    rw [State.lostAt]
    change b.placeAny (if x.slots.getLsbD n = true then none else (s.tinAt n).map _) = _
    cases s.tinAt n with
    | none => split <;> rfl
    | some a => dsimp only; split <;> rfl

end Sys2Proof.Machine
end

/-! # Proofs: the load prompt (O47) -/

section
namespace Sys2Proof.Machine

variable (s : State)

/-! ## The serial a prompt takes (R150) -/

/-- The serials from `n` on, by the number of tries. -/
theorem serialNext_iterate {n : Nat} (hn : n ≤ 65535) {i : Nat} (hi : i ≤ 12) :
    serialNext^[i] n = if n + i ≤ 65535 then n + i else n + i - 65535 := by
  induction i with
  | zero => simp [hn]
  | succ i ih =>
    rw [Function.iterate_succ_apply', ih (Nat.le_of_succ_le hi), serialNext]
    split_ifs <;> omega

/-- Each try up to the one taken found its serial held. -/
theorem State.freshSerial_spec (k n : Nat) : ∃ i ≤ k, s.freshSerial k n = serialNext^[i] n ∧
    (∀ j < i, s.serialHeld (serialNext^[j] n) = true) ∧ (i < k → s.serialHeld (s.freshSerial k n) = false) := by
  induction k generalizing n with
  | zero => exact ⟨0, Nat.le_refl 0, rfl, fun j hj => absurd hj (Nat.not_lt_zero j), fun h => absurd h (Nat.lt_irrefl 0)⟩
  | succ k ih =>
    rw [State.freshSerial]
    split
    · next hheld =>
      obtain ⟨i, hi, hfresh, htried, hfree⟩ := ih (serialNext n)
      refine ⟨i + 1, Nat.succ_le_succ hi, hfresh, fun j hj => ?_, fun h => hfree (Nat.lt_of_succ_lt_succ h)⟩
      cases j with
      | zero => exact hheld
      | succ j => exact htried j (Nat.lt_of_succ_lt_succ hj)
    · next hfree =>
      exact ⟨0, Nat.zero_le _, rfl, fun j hj => absurd hj (Nat.not_lt_zero j), fun _ => Bool.not_eq_true _ ▸ hfree⟩

/-- The serials of this cell's origin that the tin table holds. -/
def State.ownSerials (s : State) : List Nat := (s.tinTable.filter (fun t => t.id.cell == s.self)).map (fun t => t.id.serial)

theorem State.serialHeld_iff (n : Nat) : s.serialHeld n = true ↔ n ∈ s.ownSerials := by
  simp [State.serialHeld, State.ownSerials, and_assoc]

/-- A table of at most twelve tins cannot hold every serial tried (R150). -/
theorem State.takeSerial_free {s : State} (hs : s.seg.serial ≤ 65535) (hlen : s.tinTable.length ≤ 12) :
    s.serialHeld s.takeSerial = false := by
  obtain ⟨i, hi, hfresh, htried, hfree⟩ := s.freshSerial_spec s.tinTable.length s.seg.serial
  by_contra hheld
  rw [Bool.not_eq_false] at hheld
  have hlast : i = s.tinTable.length := by
    by_contra hne
    exact Bool.false_ne_true ((hfree (by omega)).symm.trans hheld)
  have htaken : ∀ j ∈ Finset.range (s.tinTable.length + 1), serialNext^[j] s.seg.serial ∈ s.ownSerials.toFinset := by
    intro j hj
    rw [List.mem_toFinset, ← State.serialHeld_iff]
    rcases Nat.lt_succ_iff_lt_or_eq.mp (Finset.mem_range.mp hj) with hlt | heq
    · exact htried j (hlast ▸ hlt)
    · rw [heq, ← hlast, ← hfresh]
      exact hheld
  have hinj : Set.InjOn (fun j => serialNext^[j] s.seg.serial) (Finset.range (s.tinTable.length + 1)) := by
    intro a ha b hb hab
    have ha' := Finset.mem_range.mp ha
    have hb' := Finset.mem_range.mp hb
    dsimp only at hab
    rw [serialNext_iterate hs (by omega), serialNext_iterate hs (by omega)] at hab
    split_ifs at hab <;> omega
  have hcard := Finset.card_le_card_of_injOn _ htaken hinj
  have hfew : s.ownSerials.toFinset.card ≤ s.tinTable.length :=
    (List.toFinset_card_le _).trans (by rw [State.ownSerials, List.length_map]; exact List.length_filter_le ..)
  rw [Finset.card_range] at hcard
  omega

theorem State.takeSerial_le {s : State} (hs : s.seg.serial ≤ 65535) (hlen : s.tinTable.length ≤ 12) :
    s.takeSerial ≤ 65535 := by
  obtain ⟨i, hi, hfresh, -⟩ := s.freshSerial_spec s.tinTable.length s.seg.serial
  rw [State.takeSerial, hfresh, serialNext_iterate hs (hi.trans hlen)]
  split_ifs <;> omega

theorem State.takeSerial_next {s : State} (h : s.serialHeld s.seg.serial = false) : s.takeSerial = s.seg.serial := by
  rw [State.takeSerial]
  cases s.tinTable.length with
  | zero => rfl
  | succ k => rw [State.freshSerial, h]; rfl

theorem State.serialHeld_eq_false (n : Nat) :
    s.serialHeld n = false ↔ ∀ a ∈ s.tinTable, a.id.cell = s.self → a.id.serial ≠ n := by
  simp [State.serialHeld]

/-- A REQUESTED prompt that may stand takes the first free serial, and its label is handed to the printer (R150, R209). -/
theorem promptStands {s : State} {id : OrderId} (hp : s.seg.prompt = .requested id) (hs : s.seg.serial ≤ 65535)
    (hlen : s.tinTable.length ≤ 12) (hrun : s.dck.cell = .run) (h1 : s.slot 1 = none) (hidle : s.seg.index = .idle)
    (hsensed : s.sensed 1 = false) :
    ∃ n, s.judgePrompt.seg = { s.seg with prompt := .standing id n 0 10, serial := if n = 65535 then 1 else n + 1 } ∧
      (∀ a ∈ s.tinTable, a.id.cell = s.self → a.id.serial ≠ n) ∧
      ((∀ a ∈ s.tinTable, a.id.cell = s.self → a.id.serial ≠ s.seg.serial) → n = s.seg.serial) ∧
      (s.pins.sample.printerReady = true → s.judgePrompt.panel.printed = some (s.labelFor id n)) ∧
      (s.pins.sample.printerReady = false → s.judgePrompt.panel.label = some (s.labelFor id n)) := by
  have hstand : s.mayStand = true := by simp [State.mayStand, h1, hidle, hsensed, State.running, hrun, IndexState.busy]
  have hle := State.takeSerial_le hs hlen
  have hnext : serialNext s.takeSerial = if s.takeSerial = 65535 then 1 else s.takeSerial + 1 :=
    if_congr (by omega) rfl rfl
  rw [State.judgePrompt_stands hp hstand, hnext]
  refine ⟨s.takeSerial, rfl, (s.serialHeld_eq_false _).mp (State.takeSerial_free hs hlen),
    fun h => State.takeSerial_next ((s.serialHeld_eq_false _).mpr h), fun hr => ?_, fun hr => ?_⟩
  · simp [Panel.hand, hr]
  · simp [Panel.hand, hr]

/-! ## The order book told of a load (R66) -/

/-- `t` differs from `s` in the send queue and in the book, and there in the entry of `id` alone. -/
def State.ToldOf (s : State) (id : OrderId) (t : State) : Prop :=
  ∃ b k, t = { s with bus := b, book := k } ∧ ∀ i, i ≠ id → t.entry i = s.entry i

theorem State.ToldOf.refl (id : OrderId) : s.ToldOf id s := ⟨_, _, rfl, fun _ _ => rfl⟩

theorem State.ToldOf.trans {s t u : State} {id : OrderId} (h : s.ToldOf id t) (h' : t.ToldOf id u) : s.ToldOf id u := by
  obtain ⟨b, k, rfl, hi⟩ := h
  obtain ⟨b', k', rfl, hi'⟩ := h'
  exact ⟨b', k', rfl, fun i hne => (hi' i hne).trans (hi i hne)⟩

theorem State.toldOf_place (id : OrderId) (n : Notice) : s.ToldOf id (s.place n) := ⟨_, _, rfl, fun _ _ => rfl⟩

theorem State.entry_modEntry_ne {id i : OrderId} (h : i ≠ id) {f : OrderEntry → OrderEntry} (hf : ∀ e, (f e).id = e.id) :
    (s.modEntry id f).entry i = s.entry i := by
  have hkey : (fun e : OrderEntry => e.id == i) ∘ (fun e => if e.id == id then f e else e) = fun e => e.id == i := by
    funext a
    by_cases ha : a.id = id <;> simp [ha, hf]
  rw [State.entry, State.modEntry, List.find?_map, hkey]
  cases he : s.book.find? (fun e => e.id == i) with
  | none => exact he.symm
  | some e =>
    have hid : e.id = i := by simpa using List.find?_some he
    rw [Option.map_some, if_neg (by simpa [hid] using h)]
    exact he.symm

theorem State.toldOf_modEntry (id : OrderId) {f : OrderEntry → OrderEntry} (hf : ∀ e, (f e).id = e.id) :
    s.ToldOf id (s.modEntry id f) :=
  ⟨_, _, rfl, fun _ h => s.entry_modEntry_ne h hf⟩

theorem State.toldOf_placeJobStatus (id : OrderId) : s.ToldOf id (s.placeJobStatus id) := by
  unfold State.placeJobStatus
  split
  · exact .refl s id
  · split
    · exact (s.toldOf_place id _).trans (State.toldOf_modEntry _ id fun _ => rfl)
    · exact .refl s id

theorem State.toldOf_countLoad (id : OrderId) (tin : TinId) : s.ToldOf id (s.countLoad id tin) := by
  have counted := s.toldOf_modEntry id (f := fun e => { e with job := e.job.map (fun j => j.load tin s.now) }) fun _ => rfl
  unfold State.countLoad
  dsimp only
  split
  · exact counted
  · split
    · refine counted.trans ?_
      unfold State.placeClaim
      split
      · exact .refl _ id
      · dsimp only
        split
        · exact State.toldOf_place _ id _
        · exact .refl _ id
    · exact counted

theorem State.toldOf_blockJob (id : OrderId) : s.ToldOf id (s.blockJob id) :=
  (s.toldOf_modEntry id (f := fun e => { e with st := .ownBlocked }) fun _ => rfl).trans (State.toldOf_placeJobStatus _ id)

theorem State.toldOf_failLoad (id : OrderId) : s.ToldOf id (s.failLoad id) := by
  unfold State.failLoad
  split
  · exact .refl s id
  · split
    · exact s.toldOf_blockJob id
    · exact .refl s id

/-- A job counts its load, and the first one places the committed claim (R66). -/
theorem State.countLoad_job {s : State} {id : OrderId} {e : OrderEntry} {j : Job} (he : s.entry id = some e)
    (hj : e.job = some j) (tin : TinId) :
    (s.countLoad id tin).entry id = some { e with job := some (j.load tin s.now) } ∧
    (j.loaded = 0 → (s.countLoad id tin).bus = (s.place (.claim id (e.ownEst.getD 0) true)).bus) ∧
    (j.loaded ≠ 0 → (s.countLoad id tin).bus = s.bus) := by
  have hentry := State.entry_modEntry he (f :=
      fun e => { e with job := e.job.map (fun j => j.load tin s.now) }) fun _ => rfl
  rw [hj, Option.map_some] at hentry
  have hclaim : (s.modEntry id (fun e => { e with job := e.job.map (fun j => j.load tin s.now) })).placeClaim id =
      (s.modEntry id (fun e => { e with job := e.job.map (fun j => j.load tin s.now) })).place (.claim id (e.ownEst.getD 0) true) := by
    rw [State.placeClaim, hentry]
    rfl
  unfold State.countLoad
  simp only [he, Option.bind_some, hj, hclaim]
  by_cases h0 : j.loaded = 0
  · rw [if_pos h0]
    exact ⟨hentry, fun _ => rfl, fun h => absurd h0 h⟩
  · rw [if_neg h0]
    exact ⟨hentry, fun h => absurd h h0, fun _ => rfl⟩

/-- A load that fails blocks an active job, and tells of no other (R66). -/
theorem State.failLoad_job {s : State} {id : OrderId} {e : OrderEntry} (he : s.entry id = some e) :
    (e.st = .ownActive → ∃ b, (s.failLoad id).entry id = some b ∧ b.st = .ownBlocked) ∧
    (e.st ≠ .ownActive → s.failLoad id = s) := by
  unfold State.failLoad
  simp only [he, beq_iff_eq]
  refine ⟨fun hst => ?_, fun hst => if_neg hst⟩
  have hentry := State.entry_modEntry he (f := fun e => { e with st := .ownBlocked }) fun _ => rfl
  rw [if_pos hst, State.blockJob, State.placeJobStatus, hentry]
  dsimp only
  split
  · exact ⟨_, State.entry_modEntry (f := OrderEntry.statusPlaced) hentry fun _ => rfl, rfl⟩
  · exact ⟨_, hentry, rfl⟩

/-! ## LOADED -/

/-- The entries made of a formula, in formula order (R84). -/
theorem formulaEntries_map (size i : Nat) (l : List FormulaItem) (f : DoseEntry → DoseEntry)
    (hf : ∀ e, (f e).index = e.index ∧ (f e).colorant = e.colorant ∧ (f e).nominal = e.nominal) :
    ((formulaEntries size (i + 1) l).map f).map (fun v => (v.index, v.colorant, v.nominal)) =
      (l.zipIdx i).map (fun v => (v.2 + 1, v.1.colorant, v.1.q * nominalOf size)) := by
  induction l generalizing i with
  | nil => rfl
  | cons a l ih =>
    obtain ⟨h1, h2, h3⟩ := hf { index := i + 1, colorant := a.colorant, nominal := nominalNl a.q size, st := .deferred }
    rw [formulaEntries, List.map_cons, List.map_cons, ih, h1, h2, h3]
    rfl

/-- What the load of a standing prompt leaves: the prompt is given up, slot 1 filled, and the book told of the job. -/
theorem State.takeLoad_change (id : OrderId) (n : Nat) :
    ∃ r, State.ToldOf (s.endPrompt.setSlot 1 (some r)) id (s.takeLoad id n) := by
  unfold State.takeLoad
  dsimp only
  split
  · exact ⟨_, State.toldOf_countLoad _ id _⟩
  · exact ⟨_, State.toldOf_failLoad _ id⟩

theorem State.loadVerdict_permit {s : State} {id : OrderId} {e : OrderEntry} {m : OrderMsg} {lid : Nat} {shake : Option ShakeClass}
    (he : s.entry id = some e) (hm : e.order = some m) (hv : verdict s.windows m.base = .permit lid shake) :
    s.loadVerdict id = some (m, lid, shake) := by
  simp only [State.loadVerdict, he, Option.bind_some, hm, hv]

theorem State.loadVerdict_deny {s : State} {id : OrderId} {e : OrderEntry} {m : OrderMsg}
    (he : s.entry id = some e) (hm : e.order = some m) (hv : verdict s.windows m.base = .deny) :
        s.loadVerdict id = none := by
  simp only [State.loadVerdict, he, Option.bind_some, hm, hv]

/-- A PERMIT makes the label's LOADED record and counts the load (R46, R66, R151). -/
theorem State.takeLoad_permit {s : State} {id : OrderId} {n : Nat} {e : OrderEntry} {m : OrderMsg} {lid : Nat}
    {shake : Option ShakeClass} (hlen : s.seg.slots.length = 8) (he : s.entry id = some e) (hm : e.order = some m)
    (hv : verdict s.windows m.base = .permit lid shake) :
    (∃ a, (s.takeLoad id n).slot 1 = some (.known a) ∧ a.st = .loaded ∧ a.id = { cell := s.self, serial := n } ∧
      a.order = m.id ∧ a.base = m.base ∧ a.size = m.size ∧ a.lid = lid ∧ a.shake = shake ∧ a.total = 0 ∧ a.dosed = [] ∧
      a.cause = none ∧ a.entries.map (fun v => (v.index, v.colorant, v.nominal)) =
        m.formula.zipIdx.map (fun f => (f.2 + 1, f.1.colorant, f.1.q * nominalOf m.size))) ∧
    (∀ j, e.job = some j → (s.takeLoad id n).entry id = some { e with job := some { j with
        loaded := j.loaded + 1, committed := true
        tins := j.tins ++ [{ tin := { cell := s.self, serial := n }, loadedAt := s.now, fate := .inFlight }] } } ∧
      (j.loaded = 0 → (s.takeLoad id n).bus = (s.place (.claim id (e.ownEst.getD 0) true)).bus) ∧
      (j.loaded ≠ 0 → (s.takeLoad id n).bus = s.bus)) := by
  have hload : s.takeLoad id n = (s.endPrompt.setSlot 1 (some (.known (s.endPrompt.loadedTin { cell := s.self, serial := n } m lid
      shake)))).countLoad id { cell := s.self, serial := n } := by
    simp only [State.takeLoad, State.loadVerdict_permit he hm hv]
  generalize ha : s.endPrompt.loadedTin { cell := s.self, serial := n } m lid shake = a at hload
  obtain ⟨b, k, htold, -⟩ := (s.endPrompt.setSlot 1 (some (.known a))).toldOf_countLoad id { cell := s.self, serial := n }
  refine ⟨⟨a, ?_, ?_⟩, fun j hj => ?_⟩
  · rw [hload, htold]
    exact State.slot_setSlot (s := s.endPrompt) (by rw [show s.endPrompt.seg.slots = s.seg.slots from rfl, hlen]; decide) _
  · rw [← ha]
    exact ⟨rfl, rfl, rfl, rfl, rfl, rfl, rfl, rfl, rfl, rfl,
      formulaEntries_map m.size 0 m.formula s.endPrompt.planEntry fun _ => ⟨rfl, rfl, rfl⟩⟩
  · rw [hload]
    exact State.countLoad_job (s := s.endPrompt.setSlot 1 (some (.known a))) he hj _

/-- A DENY makes an UNKNOWN record, and an active job is blocked (R46, R66, R151). -/
theorem State.takeLoad_deny {s : State} {id : OrderId} {n : Nat} {e : OrderEntry} {m : OrderMsg}
    (hlen : s.seg.slots.length = 8) (he : s.entry id = some e) (hm : e.order = some m)
    (hv : verdict s.windows m.base = .deny) :
    (s.takeLoad id n).slot 1 = some .unknown ∧
    (e.st = .ownActive → ∃ b, (s.takeLoad id n).entry id = some b ∧ b.st = .ownBlocked) ∧
    (e.st ≠ .ownActive → (s.takeLoad id n).entry id = some e ∧ (s.takeLoad id n).bus = s.bus) := by
  have hload : s.takeLoad id n = (s.endPrompt.setSlot 1 (some .unknown)).failLoad id := by
    simp only [State.takeLoad, State.loadVerdict_deny he hm hv]
  obtain ⟨b, k, htold, -⟩ := (s.endPrompt.setSlot 1 (some .unknown)).toldOf_failLoad id
  obtain ⟨hblocked, hkept⟩ := State.failLoad_job (s := s.endPrompt.setSlot 1 (some .unknown)) he
  rw [hload]
  refine ⟨?_, hblocked, fun hst => ?_⟩
  · rw [htold]
    exact State.slot_setSlot (s := s.endPrompt) (by rw [show s.endPrompt.seg.slots = s.seg.slots from rfl, hlen]; decide) _
  · rw [hkept hst]
    exact ⟨he, rfl⟩

/-! ## The commands of the prompt -/

theorem exec_loaded {s : State} (h : s.Live) (hs : s.inService = true) (x : Sample) : exec (.loaded x) s = .next
    (if x.slots.getLsbD 1 = true then
      match s.seg.prompt with
      | .standing id n _ _ => (s.latch x).takeLoad id n
      | .none | .requested _ => (s.latch x).takeStranger
    else s.latch x) := by
  have hserve : (s.latch x).inService = true := hs
  simp only [exec, execLoaded]
  refine State.act_next h ?_
  rw [hserve, Bool.true_and]
  change (if x.slots.getLsbD 1 = true then (match s.seg.prompt with
    | .standing id serial _ _ => _ | .none => _ | .requested _ => _) else _) = _
  cases s.seg.prompt <;> rfl

theorem exec_skip {s : State} (h : s.Live) (hs : s.inService = true) :
    exec .skip s = .next (if s.seg.prompt.isStanding then s.endPrompt else s) := by
  simp only [exec, execSkip]
  exact State.act_next h (by rw [hs, Bool.true_and])

theorem exec_loadWaitEnd {s : State} (h : s.Live) :
    exec .loadWaitEnd s = .next (if s.seg.prompt.isStanding then s.endPrompt else s) := by
  simp only [exec, execLoadWaitEnd]
  exact State.act_live _ h

theorem exec_loadWaitDisplay {s : State} (h : s.Live) : exec .loadWaitDisplay s = .next
    (match s.seg.prompt with
    | .standing id n k w => { s with seg := { s.seg with prompt := .standing id n k (w - 1) } }
    | .none => s
    | .requested _ => s) := by
  simp only [exec, execLoadWaitDisplay]
  exact State.act_live _ h

/-- Settles O47: the prompt stands with the first free serial; a load is taken by the verdict, or given up. -/
theorem loadsTakenOrGivenUp : Obligations.LoadsTakenOrGivenUp := by
  unfold Obligations.LoadsTakenOrGivenUp
  intro x s h hserve hlen
  refine ⟨fun id hp hs ht hrun h1 hidle hsensed => promptStands hp hs ht hrun h1 hidle hsensed, fun id n k w hp => ?_,
      fun hno => ?_⟩
  · have hstand : s.seg.prompt.isStanding = true := by rw [hp]; rfl
    refine ⟨⟨s.endPrompt, ?_, ?_, rfl⟩, ?_, fun hx => ?_, fun hx => ⟨(s.latch x).takeLoad id n, ?_, ?_⟩⟩
    · rw [exec_skip h hserve, if_pos hstand]
    · rw [exec_loadWaitEnd h, if_pos hstand]
    · simp only [exec_loadWaitDisplay h, hp]
    · rw [exec_loaded h hserve, if_neg (by rw [hx]; decide)]
    · simp only [exec_loaded h hserve, if_pos hx, hp]
    · obtain ⟨r, b, o, htold, hentry⟩ := (s.latch x).takeLoad_change id n
      have hslot : ∀ m, m ≠ 1 → ((s.latch x).takeLoad id n).slot m = s.slot m := fun m hm => by
        rw [htold]
        simp [State.slot, State.setSlot, State.endPrompt, State.latch, List.getD_eq_getElem?_getD,
          List.getElem?_set_ne (Ne.symm hm)]
      refine ⟨by rw [htold]; rfl, by rw [htold]; rfl, by rw [htold]; rfl, by rw [htold]; rfl, by rw [htold]; rfl,
        by rw [htold]; rfl, by rw [htold]; rfl, by rw [htold]; rfl, by rw [htold]; rfl, by rw [htold]; rfl, hslot, hentry,
        fun e m lid shake he hm hv => State.takeLoad_permit (s := s.latch x) hlen he hm hv,
        fun e m he hm hv => State.takeLoad_deny (s := s.latch x) hlen he hm hv⟩
  · have hstand : s.seg.prompt.isStanding = false := (LoadPrompt.isStanding_eq_false _).mpr hno
    have hother : s.seg.prompt = .none ∨ ∃ id, s.seg.prompt = .requested id := by
      cases hp : s.seg.prompt with
      | none => exact .inl rfl
      | requested id => exact .inr ⟨id, rfl⟩
      | standing id n k w => exact absurd hp (hno id n k w)
    have hloaded : x.slots.getLsbD 1 = true → exec (.loaded x) s = .next (s.latch x).takeStranger := fun hx => by
      rcases hother with hp | ⟨id, hp⟩ <;> simp only [exec_loaded h hserve, if_pos hx, hp]
    refine ⟨?_, ?_, ?_, fun hx h1 => ?_, fun hx => ?_⟩
    · rw [exec_skip h hserve, if_neg (by simp [hstand])]
    · rw [exec_loadWaitEnd h, if_neg (by simp [hstand])]
    · rcases hother with hp | ⟨id, hp⟩ <;> simp only [exec_loadWaitDisplay h, hp]
    · have hfree : (s.latch x).slot 1 = none := h1
      rw [hloaded hx, State.takeStranger, hfree]
      rfl
    · cases hs : x.slots.getLsbD 1 with
      | false => rw [exec_loaded h hserve, if_neg (by rw [hs]; decide)]
      | true =>
        have hheld : (s.latch x).slot 1 ≠ none := hx.resolve_left (by rw [hs]; decide)
        rw [hloaded hs, State.takeStranger, if_neg (by simpa using hheld)]

end Sys2Proof.Machine
end

/-! # Proofs: every ACTIVE entry ended together (R135, for O21) -/

section
namespace Sys2Proof.Machine

variable (s : State)

/-! ## The tin whose entries end -/

/-- An entry whose movement is cut short after `m` steps (R132). -/
def DoseEntry.fail (e : DoseEntry) (m : Nat) : DoseEntry :=
  { e with st :=
      match e.st with
      | .active p => .failed { p with emitted := p.emitted + m }
      | .deferred => .deferred
      | .omitted => .omitted
      | .toDose p => .toDose p
      | .dosed p => .dosed p
      | .failed p => .failed p }

theorem DoseEntry.fail_of_active {e : DoseEntry} {p : Plan} (h : e.st = .active p) (m : Nat) :
    e.fail m = { e with st := .failed { p with emitted := p.emitted + m } } := by
  simp only [DoseEntry.fail, h]

theorem DoseEntry.fail_of_failed {e : DoseEntry} {p : Plan} (h : e.st = .failed p) (m : Nat) : e.fail m = e := by
  simp only [DoseEntry.fail, h]
  rw [← h]

theorem DoseEntry.fail_not_active (e : DoseEntry) (m : Nat) : (e.fail m).st.isActive = false := by
  cases h : e.st <;> simp [DoseEntry.fail, h, DoseState.isActive]

/-- An entry that ends names the canister it named. -/
theorem DoseEntry.fail_canister (e : DoseEntry) (m : Nat) :
    (DoseState.plan (e.fail m).st).map Plan.canister = (DoseState.plan e.st).map Plan.canister := by
  cases h : e.st <;> simp [DoseEntry.fail, h, DoseState.plan]

theorem Tin.failEntry_eq (a : Tin) (i m v : Nat) : a.failEntry i m v = { a with
    entries := a.entries.map (fun e => if e.index == i then e.fail m else e), total := a.total + v
    cause := some (a.cause.getD .doseFault) } := rfl

theorem Tin.entry_index {a : Tin} {i : Nat} {e : DoseEntry} (h : a.entry i = some e) : e.index = i := by
  simpa using List.find?_some h

theorem Tin.entry_failEntry (a : Tin) (i j m v : Nat) :
    (a.failEntry j m v).entry i = (a.entry i).map (fun e => if i = j then e.fail m else e) := by
  have hkey : (fun e : DoseEntry => e.index == i) ∘ (fun e => if e.index == j then e.fail m else e) =
      fun e => e.index == i := by
    funext e
    by_cases h : e.index = j <;> simp [h, DoseEntry.fail]
  rw [Tin.failEntry_eq, Tin.entry, List.find?_map, hkey, Tin.entry]
  cases he : a.entries.find? (fun e => e.index == i) with
  | none => rfl
  | some e =>
    have hi : e.index = i := by simpa using List.find?_some he
    simp only [Option.map_some, hi, beq_iff_eq]

/-! ## The canister whose hold ends -/

theorem State.canister_modCanister_eq {s : State} {n m : Nat} (f : Canister → Canister) :
    (s.modCanister n f).canister m = if n = m ∧ m < s.canisters.length then f (s.canister m) else s.canister m := by
  rw [State.canister_modCanister, State.canister, List.getD_eq_getElem?_getD]
  by_cases hm : m < s.canisters.length
  · rw [List.getElem?_eq_getElem hm]
    by_cases hn : n = m <;> simp [hn, hm]
  · rw [List.getElem?_eq_none (Nat.not_lt.mp hm)]
    simp [hm]

theorem State.pump_modPump_eq {s : State} {n m : Nat} (f : Pump → Pump) :
    (s.modPump n f).pump m = if n = m ∧ m < s.shots.pumps.length then f (s.pump m) else s.pump m := by
  rw [State.pump_modPump, State.pump, List.getD_eq_getElem?_getD]
  by_cases hm : m < s.shots.pumps.length
  · rw [List.getElem?_eq_getElem hm]
    by_cases hn : n = m <;> simp [hn, hm]
  · rw [List.getElem?_eq_none (Nat.not_lt.mp hm)]
    simp [hm]

/-- What the end of a hold makes of a stirrer (R109, R110). -/
def State.heldEnded (s : State) (n : Nat) (r : Stirrer) : Stirrer :=
  match s.fitted n with
  | none => r
  | some cfg =>
    match r.st with
    | .waiting => if s.working then r.run cfg else { r with st := .idle }
    | .idle => s.tested n r
    | .running => r

theorem State.holdEnd_eq (n : Nat) : s.holdEnd n = (s.modCanister n Canister.takeLock).modStir n (s.heldEnded n) := by
  unfold State.holdEnd
  dsimp only
  generalize hv : s.modCanister n Canister.takeLock = v
  have hfit : v.fitted n = s.fitted n := by rw [← hv]; rfl
  have hwork : v.working = s.working := by rw [← hv]; rfl
  have htest : v.tested n = s.tested n := by rw [← hv]; rfl
  rw [hfit, hwork]
  cases hc : s.fitted n with
  | none => exact (State.modStir_id (by simp only [State.heldEnded, hc])).symm
  | some cfg =>
    dsimp only
    cases hst : (v.canister n).stir.st with
    | waiting =>
      dsimp only
      split
      · next hw => exact State.modStir_congr (by simp only [State.heldEnded, hc, hst, hw, if_true])
      · next hw => exact State.modStir_congr (by simp only [State.heldEnded, hc, hst, if_neg hw])
    | idle =>
      dsimp only
      rw [State.stirTest_eq, htest]
      exact State.modStir_congr (by simp only [State.heldEnded, hc, hst])
    | running => exact (State.modStir_id (by simp only [State.heldEnded, hc, hst])).symm

theorem State.heldEnded_running {r : Stirrer} (h : r.st = .running) (n : Nat) : s.heldEnded n r = r := by
  unfold State.heldEnded
  split
  · rfl
  · simp only [h]

theorem Canister.takeLock_keeps (c : Canister) : c.takeLock.stock = c.stock ∧ c.takeLock.reserved = c.reserved ∧
    c.takeLock.stir = c.stir := by
  unfold Canister.takeLock
  split <;> exact ⟨rfl, rfl, rfl⟩

/-- The end of a hold leaves the stock, and a stirrer that runs. -/
theorem State.holdEnd_canister (n m : Nat) : ((s.holdEnd n).canister m).stock = (s.canister m).stock ∧
    ((s.holdEnd n).canister m).reserved = (s.canister m).reserved ∧
    ((s.canister m).stir.st = .running → ((s.holdEnd n).canister m).stir.st = .running) := by
  obtain ⟨h1, h2, h3⟩ := (s.canister m).takeLock_keeps
  rw [State.holdEnd_eq, State.modStir, State.canister_modCanister_eq, State.canister_modCanister_eq]
  have hlen : (s.modCanister n Canister.takeLock).canisters.length = s.canisters.length := by simp [State.modCanister]
  rw [hlen]
  split
  · dsimp only
    rw [h1, h2, h3]
    exact ⟨rfl, rfl, fun hr => by rw [s.heldEnded_running hr]; exact hr⟩
  · exact ⟨rfl, rfl, id⟩

end Sys2Proof.Machine
end

/-! # Proofs: the channels stopped one after the other (R135, for O21) -/

section
namespace Sys2Proof.Machine

variable (s : State)

/-! ## The channel stopped -/

/-- What stopping channel `ch` does where entry `i` holds canister `n` on it, `m` steps having been driven. -/
def State.stopHeld (s : State) (ch i n m : Nat) : State :=
  ((((s.modTinAt 2 (fun t => t.failEntry i m (m * (s.pumpCfg n).d))).chargeAbort n (m * (s.pumpCfg n).d)).modPump n
    (fun u => u.cut (s.pumpCfg n) (s.gray n) .idle)).freeChannel ch n)

theorem State.heldCanister_eq_some {s : State} {ch n : Nat} (h : s.heldCanister ch = some n) :
    ∃ i a e p, s.channel ch = some i ∧ s.tinAt 2 = some a ∧ a.entry i = some e ∧ DoseState.plan e.st = some p ∧
        p.canister = n := by
  unfold State.heldCanister State.heldEntry at h
  obtain ⟨e, he, hp⟩ := Option.bind_eq_some_iff.mp h
  obtain ⟨p, hp, hn⟩ := Option.map_eq_some_iff.mp hp
  split at he
  · next i a hi ha => exact ⟨i, a, e, p, hi, ha, he, hp, hn⟩
  · cases he

theorem State.heldCanister_eq {s : State} {ch i : Nat} {a : Tin} (hi : s.channel ch = some i) (ha : s.tinAt 2 = some a) :
    s.heldCanister ch = (a.entry i).bind (fun e => (DoseState.plan e.st).map Plan.canister) := by
  simp only [State.heldCanister, State.heldEntry, hi, ha]

theorem State.stopEntry_of_free {s : State} {ch : Nat} (h : s.heldCanister ch = none) :
    s.stopEntry ch = s.setChannel ch none := by
  simp only [State.stopEntry, h]

theorem State.stopEntry_of_held {s : State} {ch i n : Nat} (hi : s.channel ch = some i) (h : s.heldCanister ch = some n) :
    s.stopEntry ch = s.stopHeld ch i n (s.emittedSoFar n) := by
  obtain ⟨i', a, e, p, hi', ha, he, hp, rfl⟩ := State.heldCanister_eq_some h
  obtain rfl : i = i' := Option.some.inj (hi.symm.trans hi')
  have hentry : s.heldEntry ch = some e := by simp only [State.heldEntry, hi, ha, he]
  simp only [State.stopEntry, h, State.abortEntry, hentry, hp, Tin.entry_index he]
  rfl

section
variable (ch i n m : Nat)

theorem State.stopHeld_shots : (s.stopHeld ch i n m).shots = { s.shots with
    pumps := s.shots.pumps.modify n (fun u => u.cut (s.pumpCfg n) (s.gray n) .idle),
        channels := s.shots.channels.set ch none } := by
  obtain ⟨l, hl⟩ := s.modTinAt_change 2 (fun t => t.failEntry i m (m * (s.pumpCfg n).d))
  rw [State.stopHeld, hl, State.freeChannel, State.holdEnd_eq]
  rfl

theorem State.stopHeld_slots : (s.stopHeld ch i n m).seg.slots =
    (s.modTinAt 2 (fun t => t.failEntry i m (m * (s.pumpCfg n).d))).seg.slots := by
  rw [State.stopHeld, State.freeChannel, State.holdEnd_eq]
  rfl

theorem State.stopHeld_slot (k : Nat) : (s.stopHeld ch i n m).slot k =
    (s.modTinAt 2 (fun t => t.failEntry i m (m * (s.pumpCfg n).d))).slot k := by
  rw [State.slot, State.stopHeld_slots, State.slot]

theorem State.stopHeld_canister (k : Nat) :
    ((s.stopHeld ch i n m).canister k).stock = (if n = k ∧ k < s.canisters.length then
      (s.canister k).stock.map (fun q => { q with level := q.level - m * (s.pumpCfg n).d }) else (s.canister k).stock) ∧
    ((s.stopHeld ch i n m).canister k).reserved = (if n = k ∧ k < s.canisters.length then 0 else (s.canister k).reserved) ∧
    ((s.canister k).stir.st = .running → ((s.stopHeld ch i n m).canister k).stir.st = .running) := by
  obtain ⟨l, hl⟩ := s.modTinAt_change 2 (fun t => t.failEntry i m (m * (s.pumpCfg n).d))
  rw [State.stopHeld, hl, State.freeChannel]
  generalize hv : State.setChannel _ ch none = v
  have hcan : v.canister k = if n = k ∧ k < s.canisters.length then
      { (s.canister k).draw (m * (s.pumpCfg n).d) with reserved := 0 } else s.canister k := by
    rw [← hv]
    exact State.canister_modCanister_eq (s := { s with seg := { s.seg with slots := l } }) _
  obtain ⟨h1, h2, h3⟩ := v.holdEnd_canister n k
  rw [h1, h2]
  by_cases hk : n = k ∧ k < s.canisters.length
  · rw [if_pos hk] at hcan
    rw [hcan, if_pos hk, if_pos hk] at *
    exact ⟨rfl, rfl, h3⟩
  · rw [if_neg hk] at hcan
    rw [hcan, if_neg hk, if_neg hk] at *
    exact ⟨rfl, rfl, h3⟩

end

theorem State.stopHeld_lengths (ch i n m : Nat) : (s.stopHeld ch i n m).canisters.length = s.canisters.length := by
  obtain ⟨l, hl⟩ := s.modTinAt_change 2 (fun t => t.failEntry i m (m * (s.pumpCfg n).d))
  rw [State.stopHeld, hl, State.freeChannel, State.holdEnd_eq]
  simp [State.modStir, State.modCanister, State.setChannel, State.modPump, State.chargeAbort]

/-! ## The channels stopped up to `k` -/

/-- No channel below `k` holds canister `n`. -/
abbrev State.Unheld (s : State) (k n : Nat) : Prop := ∀ c < k, s.heldCanister c ≠ some n

theorem State.unheld_succ {s : State} {k n : Nat} : s.Unheld (k + 1) n ↔ s.Unheld k n ∧ s.heldCanister k ≠ some n :=
  Nat.forall_lt_succ_right

/-- The steps driven so far by the entry on channel `ch`: a pump that a lower channel stopped drives none. -/
def State.emittedOn (s : State) (ch n : Nat) : Nat := if s.Unheld ch n then s.emittedSoFar n else 0

/-- The tin once channel `ch` has been stopped. -/
def State.failOn (s : State) (a : Tin) (ch : Nat) : Tin :=
  match s.channel ch, s.heldCanister ch with
  | some i, some n => a.failEntry i (s.emittedOn ch n) (s.emittedOn ch n * (s.pumpCfg n).d)
  | _, _ => a

/-- The tin once the channels below `k` have been stopped. -/
def State.failedTo (s : State) (a : Tin) : Nat → Tin
  | 0 => a
  | k + 1 => s.failOn (s.failedTo a k) k

/-- The state of `u` is that of `s` with the channels below `k` stopped. -/
structure State.StoppedTo (s : State) (k : Nat) (u : State) : Prop where
  cfg : u.cfg = s.cfg
  pins : u.pins = s.pins
  channel : ∀ c, u.channel c = if c < k then none else s.channel c
  pumps : u.shots.pumps.length = s.shots.pumps.length
  canisters : u.canisters.length = s.canisters.length
  kept : ∀ n, s.Unheld k n → u.pump n = s.pump n ∧ (u.canister n).stock = (s.canister n).stock
  cut : ∀ n, ¬ s.Unheld k n → u.pump n =
    if n < s.shots.pumps.length then (s.pump n).cut (s.pumpCfg n) (s.gray n) .idle else s.pump n
  charged : ∀ n, ¬ s.Unheld k n → (u.canister n).stock =
    (s.canister n).stock.map (fun q => { q with level := q.level - s.emittedSoFar n * (s.pumpCfg n).d })
  reserved : ∀ n, ¬ s.Unheld k n → n < s.canisters.length → (u.canister n).reserved = 0
  stir : ∀ n, (s.canister n).stir.st = .running → (u.canister n).stir.st = .running
  slot : ∀ m, m ≠ 2 → u.slot m = s.slot m
  noTin : s.tinAt 2 = none → u.slot 2 = s.slot 2
  tin : ∀ a, s.tinAt 2 = some a → u.tinAt 2 = some (s.failedTo a k)

/-- A state with the shots, the register and the stock of `s` has no channel stopped. -/
theorem State.stoppedTo_zero {s u : State} (hcfg : u.cfg = s.cfg) (hpins : u.pins = s.pins) (hshots : u.shots = s.shots)
    (hslots : u.seg.slots = s.seg.slots) (hlen : u.canisters.length = s.canisters.length)
    (hstock : ∀ n, (u.canister n).stock = (s.canister n).stock)
    (hstir : ∀ n, (s.canister n).stir.st = .running → (u.canister n).stir.st = .running) : s.StoppedTo 0 u where
  cfg := hcfg
  pins := hpins
  channel c := by simp [State.channel, hshots]
  pumps := by rw [hshots]
  canisters := hlen
  kept n _ := ⟨by rw [State.pump, State.pump, hshots], hstock n⟩
  cut n h := absurd (fun c hc => absurd hc (Nat.not_lt_zero c)) h
  charged n h := absurd (fun c hc => absurd hc (Nat.not_lt_zero c)) h
  reserved n h := absurd (fun c hc => absurd hc (Nat.not_lt_zero c)) h
  stir := hstir
  slot m _ := by rw [State.slot, State.slot, hslots]
  noTin _ := by rw [State.slot, State.slot, hslots]
  tin a ha := by rw [State.tinAt, State.slot, hslots]; exact ha

theorem State.failedTo_canister (a : Tin) (k i : Nat) :
    ((s.failedTo a k).entry i).bind (fun e => (DoseState.plan e.st).map Plan.canister) =
      (a.entry i).bind (fun e => (DoseState.plan e.st).map Plan.canister) := by
  induction k with
  | zero => rfl
  | succ k ih =>
    rw [State.failedTo, State.failOn, ← ih]
    split
    · next j n _ _ =>
      rw [Tin.entry_failEntry]
      cases (s.failedTo a k).entry i with
      | none => rfl
      | some e =>
        rw [Option.map_some, Option.bind_some, Option.bind_some]
        split
        · exact e.fail_canister _
        · rfl
    · rfl

/-- A channel not yet stopped holds what it held. -/
theorem State.StoppedTo.held {s u : State} {k : Nat} (h : s.StoppedTo k u) {c : Nat} (hc : k ≤ c) :
    u.heldCanister c = s.heldCanister c := by
  have hch : u.channel c = s.channel c := (h.channel c).trans (if_neg (Nat.not_lt.mpr hc))
  cases hi : s.channel c with
  | none => simp only [State.heldCanister, State.heldEntry, hch, hi]
  | some i =>
    cases ha : s.tinAt 2 with
    | none =>
      have hu : u.tinAt 2 = none := by rw [State.tinAt, h.noTin ha]; exact ha
      simp only [State.heldCanister, State.heldEntry, hch, hi, ha, hu]
    | some a => rw [State.heldCanister_eq hi ha, State.heldCanister_eq (hch.trans hi) (h.tin a ha), State.failedTo_canister]

/-- The steps driven so far are read off a pump that no lower channel has stopped. -/
theorem State.StoppedTo.emitted {s u : State} {k : Nat} (h : s.StoppedTo k u) (n : Nat) :
    u.emittedSoFar n = s.emittedOn k n := by
  have hcfg : u.pumpCfg n = s.pumpCfg n := by simp only [State.pumpCfg, h.cfg]
  unfold State.emittedOn
  split
  · next hu => simp only [State.emittedSoFar, State.driven, hcfg, (h.kept n hu).1]
  · next hu =>
    have hidle : (u.pump n).st = .idle := by
      rw [h.cut n hu]
      split
      · rfl
      · next hn => rw [State.pump, List.getD_eq_getElem?_getD, List.getElem?_eq_none (Nat.not_lt.mp hn)]; rfl
    simp [State.emittedSoFar, hidle]

theorem State.channel_freed (k c : Nat) : (s.setChannel k none).channel c = if c = k then none else s.channel c := by
  simp only [State.channel, State.setChannel, List.getD_eq_getElem?_getD]
  by_cases hc : c = k
  · rw [hc, List.getElem?_set_self']
    cases s.shots.channels[k]? <;> simp
  · rw [List.getElem?_set_ne (Ne.symm hc), if_neg hc]

theorem State.StoppedTo.freed {s u : State} {k : Nat} (h : s.StoppedTo k u) (c : Nat) :
    (if c = k then none else u.channel c) = if c < k + 1 then none else s.channel c := by
  rw [h.channel]
  by_cases hc : c = k
  · rw [if_pos hc, if_pos (by omega)]
  · rw [if_neg hc]
    exact if_congr (by omega) rfl rfl

theorem State.StoppedTo.pumpCfg {s u : State} {k : Nat} (h : s.StoppedTo k u) (n : Nat) : u.pumpCfg n = s.pumpCfg n := by
  simp only [State.pumpCfg, h.cfg]

theorem State.StoppedTo.gray {s u : State} {k : Nat} (h : s.StoppedTo k u) (n : Nat) : u.gray n = s.gray n := by
  simp only [State.gray, h.pins]

theorem State.stopHeld_pump (ch i n m k : Nat) : (s.stopHeld ch i n m).pump k =
    if n = k ∧ k < s.shots.pumps.length then (s.pump k).cut (s.pumpCfg n) (s.gray n) .idle else s.pump k := by
  rw [State.pump, State.stopHeld_shots]
  exact State.pump_modPump_eq _

theorem State.stopHeld_channel (ch i n m c : Nat) :
    (s.stopHeld ch i n m).channel c = if c = ch then none else s.channel c := by
  rw [State.channel, State.stopHeld_shots]
  exact s.channel_freed ch c

theorem State.stopHeld_cfg (ch i n m : Nat) : (s.stopHeld ch i n m).cfg = s.cfg ∧ (s.stopHeld ch i n m).pins = s.pins := by
  obtain ⟨l, hl⟩ := s.modTinAt_change 2 (fun t => t.failEntry i m (m * (s.pumpCfg n).d))
  rw [State.stopHeld, hl, State.freeChannel, State.holdEnd_eq]
  exact ⟨rfl, rfl⟩

/-- A pump cut twice is cut once. -/
theorem Pump.cut_cut (p : Pump) (cfg : PumpCfg) (g : Gray) : (p.cut cfg g .idle).cut cfg g .idle = p.cut cfg g .idle := by
  simp [Pump.cut]

/-- A channel that holds nothing is freed. -/
theorem State.StoppedTo.free {s u : State} {k : Nat} (h : s.StoppedTo k u) (hk : s.heldCanister k = none) :
    s.StoppedTo (k + 1) (u.setChannel k none) where
  cfg := h.cfg
  pins := h.pins
  channel c := by rw [State.channel_freed, h.freed]
  pumps := h.pumps
  canisters := h.canisters
  kept n hn := h.kept n (State.unheld_succ.mp hn).1
  cut n hn := h.cut n fun hu => hn (State.unheld_succ.mpr ⟨hu, by simp [hk]⟩)
  charged n hn := h.charged n fun hu => hn (State.unheld_succ.mpr ⟨hu, by simp [hk]⟩)
  reserved n hn := h.reserved n fun hu => hn (State.unheld_succ.mpr ⟨hu, by simp [hk]⟩)
  stir := h.stir
  slot := h.slot
  noTin := h.noTin
  tin a ha := by
    have hon : s.failedTo a (k + 1) = s.failedTo a k := by
      rw [State.failedTo, State.failOn, hk]
      split
      · next h => cases h
      · rfl
    rw [hon]
    exact h.tin a ha

/-- A channel that holds a canister has its pump cut, its entry failed and its canister charged. -/
theorem State.StoppedTo.stop {s u : State} {k i n : Nat} (h : s.StoppedTo k u) (hi : s.channel k = some i)
    (hk : s.heldCanister k = some n) : s.StoppedTo (k + 1) (u.stopHeld k i n (s.emittedOn k n)) where
  cfg := (u.stopHeld_cfg ..).1.trans h.cfg
  pins := (u.stopHeld_cfg ..).2.trans h.pins
  channel c := (u.stopHeld_channel ..).trans (h.freed c)
  pumps := by
    rw [State.stopHeld_shots]
    exact (List.length_modify ..).trans h.pumps
  canisters := (u.stopHeld_lengths ..).trans h.canisters
  kept m hm := by
    obtain ⟨hu, hne⟩ := State.unheld_succ.mp hm
    have hnm : ¬ n = m := fun he => hne (by rw [hk, he])
    rw [State.stopHeld_pump, (u.stopHeld_canister ..).1, if_neg fun hc => hnm hc.1, if_neg fun hc => hnm hc.1]
    exact h.kept m hu
  cut m hm := by
    rw [State.stopHeld_pump, h.pumps, h.pumpCfg, h.gray]
    by_cases hu : s.Unheld k m
    · obtain rfl : n = m := by
        by_contra hnm
        exact hm (State.unheld_succ.mpr ⟨hu, by simpa [hk] using hnm⟩)
      simp only [true_and, (h.kept n hu).1]
    · rw [h.cut m hu]
      by_cases hm : n = m ∧ m < s.shots.pumps.length
      · rw [if_pos hm, if_pos hm.2, hm.1, Pump.cut_cut]
      · rw [if_neg hm]
  charged m hm := by
    rw [(u.stopHeld_canister ..).1, h.canisters, h.pumpCfg]
    by_cases hu : s.Unheld k m
    · obtain rfl : n = m := by
        by_contra hnm
        exact hm (State.unheld_succ.mpr ⟨hu, by simpa [hk] using hnm⟩)
      rw [(h.kept n hu).2, State.emittedOn, if_pos hu]
      split
      · rfl
      · next hn =>
        have hblank : s.canister n = Canister.blank := by
          rw [State.canister, List.getD_eq_getElem?_getD, List.getElem?_eq_none (by omega)]
          rfl
        rw [hblank]
        rfl
    · rw [h.charged m hu]
      split
      · next hm =>
        rw [State.emittedOn, if_neg (hm.1 ▸ hu), Option.map_map, Nat.zero_mul]
        rfl
      · rfl
  reserved m hm hlt := by
    rw [(u.stopHeld_canister ..).2.1, h.canisters]
    split
    · rfl
    · next hn =>
      refine h.reserved m (fun hu => hm (State.unheld_succ.mpr ⟨hu, ?_⟩)) hlt
      rw [hk]
      exact fun he => hn ⟨Option.some.inj he, hlt⟩
  stir m hr := (u.stopHeld_canister k i n _ m).2.2 (h.stir m hr)
  slot m hm := by
    rw [State.stopHeld_slot, State.slot_modTinAt_ne _ _ (Ne.symm hm)]
    exact h.slot m hm
  noTin hno := by
    obtain ⟨-, a, -, -, -, ha, -⟩ := State.heldCanister_eq_some hk
    rw [hno] at ha
    cases ha
  tin a ha := by
    rw [State.tinAt_eq_some, State.stopHeld_slot, State.slot_modTinAt_self (h.tin a ha), h.pumpCfg]
    simp only [State.failedTo, State.failOn, hi, hk]

/-- Every channel stopped, one after the other (R135, R137). -/
theorem State.StoppedTo.foldl {s u : State} (h : s.StoppedTo 0 u) (k : Nat) :
    s.StoppedTo k ((List.range k).foldl State.stopEntry u) := by
  induction k with
  | zero => exact h
  | succ k ih =>
    rw [List.range_succ, List.foldl_append, List.foldl_cons, List.foldl_nil]
    have hheld := ih.held (Nat.le_refl k)
    cases hk : s.heldCanister k with
    | none =>
      rw [State.stopEntry_of_free (hheld.trans hk)]
      exact ih.free hk
    | some n =>
      obtain ⟨i, -, -, -, hi, -⟩ := State.heldCanister_eq_some hk
      have hui := (ih.channel k).trans (if_neg (Nat.lt_irrefl k))
      rw [State.stopEntry_of_held (hui.trans hi) (hheld.trans hk), ih.emitted]
      exact ih.stop hi hk

end Sys2Proof.Machine
end

/-! # Proofs: the emergency stop (O21) -/

section
namespace Sys2Proof.Machine

variable (s : State)

/-! ## The tin once every channel has been stopped -/

theorem State.failOn_of_free {s : State} {ch : Nat} (h : s.heldCanister ch = none) (a : Tin) : s.failOn a ch = a := by
  rw [State.failOn, h]
  split
  · next h => cases h
  · rfl

theorem State.failOn_of_held {s : State} {ch i n : Nat} (hi : s.channel ch = some i) (h : s.heldCanister ch =
    some n) (a : Tin) :
    s.failOn a ch = a.failEntry i (s.emittedOn ch n) (s.emittedOn ch n * (s.pumpCfg n).d) := by
  simp only [State.failOn, hi, h]

/-- What a channel stopped does to the tin: nothing, or the entry it held is failed. -/
theorem State.failOn_cases (a : Tin) (ch : Nat) : s.heldCanister ch = none ∧ s.failOn a ch = a ∨
    ∃ i n, s.channel ch = some i ∧ s.heldCanister ch = some n ∧
      s.failOn a ch = a.failEntry i (s.emittedOn ch n) (s.emittedOn ch n * (s.pumpCfg n).d) := by
  cases h : s.heldCanister ch with
  | none => exact .inl ⟨rfl, State.failOn_of_free h a⟩
  | some n =>
    obtain ⟨i, -, -, -, hi, -⟩ := State.heldCanister_eq_some h
    exact .inr ⟨i, n, hi, rfl, State.failOn_of_held hi h a⟩

section
variable (a : Tin)

theorem State.failedTo_of_free {s : State} {k : Nat} (h : ∀ c < k, s.heldCanister c = none) : s.failedTo a k = a := by
  induction k with
  | zero => rfl
  | succ k ih =>
    rw [State.failedTo, State.failOn_of_free (h k (Nat.lt_succ_self k))]
    exact ih fun c hc => h c (Nat.lt_succ_of_lt hc)

/-- Of a tin stopped the entries, the total and the cause change. -/
theorem State.failedTo_change (k : Nat) : s.failedTo a k =
    { a with entries := (s.failedTo a k).entries, total := (s.failedTo a k).total, cause := (s.failedTo a k).cause } := by
  induction k with
  | zero => rfl
  | succ k ih =>
    rw [State.failedTo]
    rcases s.failOn_cases (s.failedTo a k) k with ⟨-, h⟩ | ⟨i, n, -, -, h⟩
    · rw [h]
      exact ih
    · rw [h, ih]
      rfl

/-- A cause held stays, and an entry that ends gives one (R91). -/
theorem State.failedTo_cause {s : State} {k : Nat} (h : ∃ c < k, s.heldCanister c ≠ none) :
    (s.failedTo a k).cause = some (a.cause.getD .doseFault) := by
  induction k with
  | zero => exact absurd h (by simp)
  | succ k ih =>
    have before : (s.failedTo a k).cause.getD .doseFault = a.cause.getD .doseFault := by
      by_cases hb : ∃ c < k, s.heldCanister c ≠ none
      · rw [ih hb]
        rfl
      · push Not at hb
        rw [State.failedTo_of_free a hb]
    rw [State.failedTo]
    rcases s.failOn_cases (s.failedTo a k) k with ⟨hk, he⟩ | ⟨i, n, -, -, he⟩
    · rw [he]
      obtain ⟨c, hc, hheld⟩ := h
      refine ih ⟨c, Nat.lt_of_le_of_ne (Nat.le_of_lt_succ hc) fun hck => hheld (hck ▸ hk), hheld⟩
    · rw [he]
      exact congrArg some before

/-- The total rises by what each channel's stroke had emitted (R90). -/
theorem State.failedTo_total {s : State} {v : Nat → Nat} {k : Nat} (hv : ∀ ch < k, (s.heldCanister ch = none → v ch = 0) ∧
    ∀ n, s.heldCanister ch = some n → v ch = s.emittedOn ch n * (s.pumpCfg n).d) :
    (s.failedTo a k).total = a.total + ∑ ch ∈ Finset.range k, v ch := by
  induction k with
  | zero => rfl
  | succ k ih =>
    have hk := hv k (Nat.lt_succ_self k)
    rw [State.failedTo, Finset.sum_range_succ, ← Nat.add_assoc, ← ih fun ch hc => hv ch (Nat.lt_succ_of_lt hc)]
    rcases s.failOn_cases (s.failedTo a k) k with ⟨hh, he⟩ | ⟨i, n, -, hh, he⟩
    · rw [he, hk.1 hh]
      rfl
    · rw [he, hk.2 n hh]
      rfl

/-- An entry that no channel holds is left. -/
theorem State.failedTo_entry_free {s : State} {k i : Nat} (h : ∀ ch < k, s.channel ch ≠ some i) :
    (s.failedTo a k).entry i = a.entry i := by
  induction k with
  | zero => rfl
  | succ k ih =>
    rw [State.failedTo, ← ih fun ch hc => h ch (Nat.lt_succ_of_lt hc)]
    rcases s.failOn_cases (s.failedTo a k) k with ⟨-, he⟩ | ⟨j, n, hj, -, he⟩
    · rw [he]
    · have hne : ¬ i = j := fun hij => h k (Nat.lt_succ_self k) (hij ▸ hj)
      rw [he, Tin.entry_failEntry]
      simp only [hne, if_false, Option.map_id']

/-- An ACTIVE entry is failed by the channel that holds it, with the steps its pump had driven (R90, R135). -/
theorem State.failedTo_entry_active {s : State} {a : Tin} (ha : s.tinAt 2 = some a) {ch i : Nat} {e : DoseEntry} {p : Plan}
    (hch : s.channel ch = some i) (he : a.entry i = some e) (hp : e.st =
        .active p) (hfirst : s.Unheld ch p.canister) (k : Nat) :
    (s.failedTo a k).entry i = some (if k ≤ ch then e else
      { e with st := .failed { p with emitted := p.emitted + s.emittedSoFar p.canister } }) := by
  have hheld : ∀ c, s.channel c = some i → s.heldCanister c = some p.canister := fun c hc => by
    rw [State.heldCanister_eq hc ha, he, Option.bind_some, hp]
    rfl
  induction k with
  | zero =>
    rw [if_pos (Nat.zero_le _)]
    exact he
  | succ k ih =>
    rw [State.failedTo]
    rcases s.failOn_cases (s.failedTo a k) k with ⟨hk, hon⟩ | ⟨j, n, hj, hn, hon⟩
    · have hne : k ≠ ch := fun hkc => by
        rw [hkc, hheld ch hch] at hk
        cases hk
      rw [hon, ih]
      exact congrArg some (if_congr (by omega) rfl rfl)
    · rw [hon, Tin.entry_failEntry, ih, Option.map_some]
      by_cases hij : i = j
      · subst hij
        obtain rfl : p.canister = n := Option.some.inj ((hheld k hj).symm.trans hn)
        have hle : ch ≤ k := Nat.not_lt.mp fun hlt => hfirst k hlt hn
        rw [if_pos rfl, if_neg (by omega : ¬ k + 1 ≤ ch)]
        split
        · next hkc =>
          obtain rfl : k = ch := Nat.le_antisymm hkc hle
          rw [DoseEntry.fail_of_active hp, State.emittedOn, if_pos hfirst]
        · rw [DoseEntry.fail_of_failed rfl]
      · have hne : k ≠ ch := fun hkc => hij (Option.some.inj (hch.symm.trans (hkc ▸ hj)))
        rw [if_neg hij]
        exact congrArg some (if_congr (by omega) rfl rfl)

/-- An entry still ACTIVE is one of the tin's that no stopped channel held. -/
theorem State.failedTo_active {s : State} {k : Nat} {e : DoseEntry} (he : e ∈ (s.failedTo a k).entries)
    (hact : e.st.isActive = true) : e ∈ a.entries ∧ ∀ c < k, ∀ i, s.channel c = some i → s.heldCanister c ≠ none →
        e.index ≠ i := by
  induction k with
  | zero => exact ⟨he, fun c hc => absurd hc (Nat.not_lt_zero c)⟩
  | succ k ih =>
    rw [State.failedTo] at he
    rcases s.failOn_cases (s.failedTo a k) k with ⟨hk, hon⟩ | ⟨j, n, hj, hn, hon⟩
    · rw [hon] at he
      obtain ⟨hmem, hfree⟩ := ih he
      refine ⟨hmem, fun c hc i hi hheld => ?_⟩
      exact hfree c (Nat.lt_of_le_of_ne (Nat.le_of_lt_succ hc) fun hck => hheld (hck ▸ hk)) i hi hheld
    · rw [hon, Tin.failEntry_eq] at he
      obtain ⟨e', he', heq⟩ := List.mem_map.mp he
      by_cases hidx : e'.index = j
      · rw [if_pos (by simpa using hidx)] at heq
        rw [← heq, DoseEntry.fail_not_active] at hact
        cases hact
      · rw [if_neg (by simpa using hidx)] at heq
        subst heq
        obtain ⟨hmem, hfree⟩ := ih he'
        refine ⟨hmem, fun c hc i hi hheld => ?_⟩
        rcases Nat.lt_succ_iff_lt_or_eq.mp hc with hlt | rfl
        · exact hfree c hlt i hi hheld
        · exact fun hei => hidx (hei.trans (Option.some.inj (hi.symm.trans hj)))

end

end Sys2Proof.Machine
end

/-! # Proofs: EMERGENCY_STOP (O21) -/

section
namespace Sys2Proof.Machine

variable (s : State)

/-! ## The stop taken (R36) -/

theorem State.enter_length (c : CellState) : (s.enter c).canisters.length = s.canisters.length := by
  have hstirs : (s.enter c).canisters = ((s.inCell c).mapStirs (s.inCell c).tested).canisters := by
    rw [State.enter_eq, State.stirTestAll_eq]
  rw [hstirs, State.length_mapStirs]
  rfl

/-- A day clock set and a state entered that permits no motion stop no channel. -/
theorem State.stoppedTo_enter {d : DayClock} {c : CellState} (h : (State.inCell { s with dck := d } c).working = false) :
    s.StoppedTo 0 (State.enter { s with dck := d } c) :=
  State.stoppedTo_zero (State.enter_cfg _ c) (State.enter_pins _ c) (State.enter_not_working _ h).1 (State.enter_slots _ c)
    (State.enter_length _ c) (fun n => (State.enter_stir_not_working _ h n).1)
    fun n hr => (State.enter_stir_not_working _ h n).2.mpr hr

/-- The stop taken, `u` being the state once the channels have been stopped. -/
structure State.HaltedBy (s u t : State) : Prop where
  dck : t.dck = DayClock.stopCap { s.dck with halt := true, cell := .halted, idle := 0 }
  index : t.seg.index = s.seg.index.stop
  lids : t.lids = { s.lids with bay := s.lids.bay.stop }
  shaker : t.shaker = s.shaker.estop
  blocks : t.xfr = s.xfr ∧ t.stations = s.stations ∧ t.atn = s.atn ∧ t.cfg = s.cfg ∧ t.pins = s.pins
  shots : t.shots = u.shots
  canister : ∀ n, t.canister n = { u.canister n with stir := (u.canister n).stir.stop }
  slot : ∀ n, t.slot n = u.settleSlot2.slot n

theorem State.canister_stopStirrers (n : Nat) :
    s.stopStirrers.canister n = { s.canister n with stir := (s.canister n).stir.stop } := by
  simp only [State.canister, State.stopStirrers, List.getD_eq_getElem?_getD, List.getElem?_map]
  cases s.canisters[n]? <;> rfl

/-- The drives stopped on a state with the tin at slot 2 settled. -/
theorem State.halted_stopDrives {s e u : State} (hdck : e.dck = { s.dck with halt := true, cell := .halted, idle := 0 })
    (hindex : e.seg.index = s.seg.index) (hlids : e.lids = s.lids) (hshaker : e.shaker = s.shaker)
    (hblocks : e.xfr = s.xfr ∧ e.stations = s.stations ∧ e.atn = s.atn ∧ e.cfg = s.cfg ∧ e.pins = s.pins)
    (hu : ∃ k l c, u = { e with shots := k, seg := { e.seg with slots := l }, canisters := c }) :
    s.HaltedBy u u.settleSlot2.stopDrives := by
  obtain ⟨k, l, c, rfl⟩ := hu
  obtain ⟨l', hl'⟩ := State.modTinAt_change { e with shots := k, seg := { e.seg with slots := l }, canisters := c } 2 Tin.settleDosing
  generalize hw : ({ e with shots := k, seg := { e.seg with slots := l }, canisters := c } : State) = w at hl'
  have hsettle : w.settleSlot2 = { w with seg := { w.seg with slots := l' } } := hl'
  have hcanister : ∀ n, w.settleSlot2.stopDrives.canister n = { w.canister n with stir := (w.canister n).stir.stop } :=
      fun n => by
    rw [State.stopDrives, State.canister_stopStirrers, hsettle]
    rfl
  have hstop : w.settleSlot2.stopDrives = { w with
      seg := { w.seg with slots := l', index := w.seg.index.stop }, lids := { w.lids with bay := w.lids.bay.stop }
      shaker := w.shaker.estop, dck := w.dck.stopCap, canisters := w.settleSlot2.stopDrives.canisters } := by
    rw [State.stopDrives, State.stopStirrers, hsettle]
  have hslot : ∀ n, w.settleSlot2.stopDrives.slot n = w.settleSlot2.slot n := fun n => rfl
  subst hw
  refine ⟨?_, ?_, ?_, ?_, ?_, ?_, hcanister, hslot⟩ <;> rw [hstop]
  · rw [← hdck]
  · rw [← hindex]
  · rw [← hlids]
  · rw [← hshaker]
  · exact hblocks

/-- The order book told of the cover changes nothing that the stop is judged by. -/
theorem State.HaltedBy.tellCover {s u t : State} (h : s.HaltedBy u t) (before : List CoverItem) :
    s.HaltedBy u (t.tellCover before) := by
  obtain ⟨b, k, ht⟩ := t.tellCover_frame before
  rw [ht]
  exact ⟨h.dck, h.index, h.lids, h.shaker, h.blocks, h.shots, h.canister, h.slot⟩

theorem State.takeStop_halts : ∃ u, s.StoppedTo 4 u ∧ s.HaltedBy u s.takeStop := by
  have hentered : s.StoppedTo 0 (State.enter { s with dck := { s.dck with halt := true } } .halted) := s.stoppedTo_enter rfl
  obtain ⟨-, hlids, hshaker⟩ := State.enter_not_working { s with dck := { s.dck with halt := true } } (c := .halted) rfl
  refine ⟨State.stopEntries (State.enter { s with dck := { s.dck with halt := true } } .halted), hentered.foldl 4,
    State.HaltedBy.tellCover (State.halted_stopDrives (s := s) ?_ ?_ hlids hshaker ?_ (State.stopEntries_change _)) _⟩
  · exact State.enter_dck_of_ne _ (by decide)
  · exact State.enter_index _ _
  · exact ⟨State.enter_xfr _ _, State.enter_stations _ _, State.enter_atn _ _, State.enter_cfg _ _, State.enter_pins _ _⟩

end Sys2Proof.Machine
end

/-! # Proofs: what an emergency stop halts (O21) -/

section
namespace Sys2Proof.Machine

variable (s : State)

/-! ## The tin at slot 2, settled -/

/-- A tin not DOSING, or with entries to dose and no cause, is not settled (R93). -/
theorem Tin.settleDosing_of_open {a : Tin} (h : a.st ≠ .dosing ∨ (a.hasLocal = true ∧ a.cause = none)) :
    a.settleDosing = a := by
  refine if_neg ?_
  rcases h with h | ⟨hl, hc⟩
  · simp [h]
  · simp [Tin.dosingOver, hl, hc]

/-- A tin with a cause is settled REJECT once no entry is ACTIVE (R91, R93). -/
theorem Tin.settleDosing_of_cause {a : Tin} (h : a.cause.isSome = true) :
    a.settleDosing = { a with st := if a.st = .dosing ∧ a.hasActive = false then .reject else a.st } := by
  unfold Tin.settleDosing Tin.dosingOver Tin.settled
  simp only [h, Bool.or_true, Bool.and_true, Bool.and_eq_true, beq_iff_eq, Bool.not_eq_true', if_true]
  split <;> rfl

theorem CapPos.moving_iff (c : CapPos) : c.moving = true ↔ c = .opening ∨ c = .closing := by
  cases c <;> simp [CapPos.moving]

section
variable {s} {u t : State}

/-! ## The drives -/

theorem State.HaltedBy.cap (h : s.HaltedBy u t) :
    t.dck.cap = (if s.dck.cap = .opening ∨ s.dck.cap = .closing then .stopped else s.dck.cap) := by
  rw [h.dck, DayClock.stopCap]
  simp only [CapPos.moving_iff]
  split <;> rfl

theorem State.HaltedBy.clock (h : s.HaltedBy u t) : t.dck.cell = .halted ∧ t.dck.halt = true ∧ t.dck.pause = s.dck.pause ∧
    t.dck.jam = s.dck.jam ∧ t.dck.moment = s.dck.moment := by
  rw [h.dck, DayClock.stopCap]
  split <;> exact ⟨rfl, rfl, rfl, rfl, rfl⟩

/-- No drive of the segment, the lid unit, the shaker or the cap runs on. -/
theorem State.HaltedBy.outputs (h : s.HaltedBy u t) : t.convOut = false ∧ t.pressOut = false ∧ t.shakeOut = false ∧
    t.transferInOut = false ∧ t.transferOutOut = false ∧ t.capOpenOut = false ∧ t.capCloseOut = false := by
  have hcap := h.cap
  refine ⟨?_, ?_, ?_, ?_, ?_, ?_, ?_⟩
  · rw [State.convOut, h.index]
    cases s.seg.index <;> exact Bool.and_false _
  · rw [State.pressOut, h.lids]
    cases s.lids.bay <;> rfl
  · rw [State.shakeOut, h.shaker, Shaker.estop]
    cases hst : s.shaker.st <;> simp [hst, State.drives]
  · rw [State.transferInOut, h.shaker, Shaker.estop]
    cases hst : s.shaker.st <;> simp [hst, State.drives]
  · rw [State.transferOutOut, h.shaker, Shaker.estop]
    cases hst : s.shaker.st <;> simp [hst, State.drives]
  · rw [State.capOpenOut, hcap]
    cases s.dck.cap <;> simp [State.drives]
  · rw [State.capCloseOut, hcap]
    cases s.dck.cap <;> simp [State.drives]

/-- Every stirrer stands, and one that ran has its flag (R111). -/
theorem State.HaltedBy.stirrers (h : s.HaltedBy u t) (hu : s.StoppedTo 4 u) (n : Nat) : (t.canister n).stir.st = .idle ∧
    ((s.canister n).stir.st = .running → (t.canister n).stir.flag = true) := by
  rw [h.canister n]
  dsimp only
  refine ⟨?_, fun hr => ?_⟩
  · unfold Stirrer.stop
    cases hst : (u.canister n).stir.st <;> simp [hst]
  · simp only [Stirrer.stop, hu.stir n hr]

theorem State.HaltedBy.stock (h : s.HaltedBy u t) (n : Nat) : (t.canister n).stock = (u.canister n).stock ∧
    (t.canister n).reserved = (u.canister n).reserved := by
  rw [h.canister n]
  exact ⟨rfl, rfl⟩

theorem State.HaltedBy.channels (h : s.HaltedBy u t) (hu : s.StoppedTo 4 u) {ch : Nat} (hch : ch < 4) :
    t.channel ch = none ∧ t.heldCanister ch = none := by
  have hfree : t.channel ch = none := by
    rw [State.channel, h.shots]
    exact (hu.channel ch).trans (if_pos hch)
  exact ⟨hfree, by simp [State.heldCanister, State.heldEntry, hfree]⟩

/-! ## The tin -/

theorem State.HaltedBy.otherSlot (h : s.HaltedBy u t) (hu : s.StoppedTo 4 u) {m : Nat} (hm : m ≠ 2) :
    t.slot m = s.slot m := by
  rw [h.slot, State.settleSlot2, State.slot_modTinAt_ne _ _ (Ne.symm hm), hu.slot m hm]

theorem State.HaltedBy.noTin (h : s.HaltedBy u t) (hu : s.StoppedTo 4 u) (ha : s.tinAt 2 = none) : t.slot 2 = s.slot 2 := by
  have hnone : u.tinAt 2 = none := by
    rw [State.tinAt, hu.noTin ha]
    exact ha
  rw [h.slot, State.settleSlot2, State.modTinAt_id fun a hs => by rw [hnone] at hs; cases hs]
  exact hu.noTin ha

theorem State.HaltedBy.tin (h : s.HaltedBy u t) (hu : s.StoppedTo 4 u) {a : Tin} (ha : s.tinAt 2 = some a) :
    t.slot 2 = some (.known (s.failedTo a 4).settleDosing) := by
  rw [h.slot, State.settleSlot2, State.slot_modTinAt_self (hu.tin a ha)]

theorem State.HaltedBy.tinKept (h : s.HaltedBy u t) (hu : s.StoppedTo 4 u) {a : Tin} (ha : s.tinAt 2 = some a)
    (hfree : ∀ ch < 4, s.heldCanister ch = none) (hopen : a.st ≠ .dosing ∨ (a.hasLocal = true ∧ a.cause = none)) :
    t.slot 2 = s.slot 2 := by
  rw [h.tin hu ha, State.failedTo_of_free a hfree, Tin.settleDosing_of_open hopen, State.tinAt_eq_some.mp ha]

end

/-- The canister an entry names is held where the entry is (R109). -/
theorem State.heldCanister_of_active {s : State} {ch : Nat} {e : DoseEntry} {p : Plan} (h : s.heldEntry ch = some e)
    (hp : e.st = .active p) : s.heldCanister ch = some p.canister := by
  simp only [State.heldCanister, h, Option.bind_some, hp]
  rfl

/-- Where every ACTIVE entry is held, none is ACTIVE once the channels have been stopped. -/
theorem State.failedTo_hasActive {s : State} {a : Tin} (ha : s.tinAt 2 = some a)
    (hall : ∀ e ∈ a.entries, ∀ p, e.st = .active p → ∃ ch < 4, s.heldEntry ch = some e) :
    (s.failedTo a 4).hasActive = false := by
  refine Bool.eq_false_iff.mpr fun hact => ?_
  obtain ⟨e, he, hst⟩ := List.any_eq_true.mp hact
  obtain ⟨hmem, hfree⟩ := State.failedTo_active a he hst
  obtain ⟨p, hp⟩ : ∃ p, e.st = .active p := by
    cases h : e.st <;> simp [h, DoseState.isActive] at hst ⊢
  obtain ⟨ch, hch, hheld⟩ := hall e hmem p hp
  have hcan := State.heldCanister_of_active hheld hp
  unfold State.heldEntry at hheld
  rw [ha] at hheld
  cases hi : s.channel ch with
  | none => simp [hi] at hheld
  | some i =>
    simp only [hi] at hheld
    exact hfree ch hch i hi (by simp [hcan]) (Tin.entry_index hheld)

/-- The steps driven so far are those of a stroke (R132). -/
theorem State.emittedSoFar_eq (n : Nat) : s.emittedSoFar n = if (s.pump n).st = .stroking then s.driven n else 0 := by
  simp only [State.emittedSoFar, beq_iff_eq]

theorem State.emittedOn_mul (ch n d : Nat) : s.emittedOn ch n * d =
    if (s.pump n).st = .stroking ∧ ∀ k < ch, s.heldCanister k ≠ some n then s.driven n * d else 0 := by
  by_cases hu : s.Unheld ch n
  · by_cases hst : (s.pump n).st = .stroking
    · rw [State.emittedOn, if_pos hu, State.emittedSoFar_eq, if_pos hst, if_pos ⟨hst, hu⟩]
    · rw [State.emittedOn, if_pos hu, State.emittedSoFar_eq, if_neg hst, if_neg fun h => hst h.1, Nat.zero_mul]
  · rw [State.emittedOn, if_neg hu, if_neg fun h => hu h.2, Nat.zero_mul]

/-- The tin of a stop that ends an entry (R90, R91, R100, R135). -/
theorem State.HaltedBy.tinFailed {s u t : State} (h : s.HaltedBy u t) (hu : s.StoppedTo 4 u) {a : Tin} (ha : s.tinAt 2 = some a)
    (hheld : ∃ ch < 4, s.heldCanister ch ≠ none) : ∃ b, t.tinAt 2 = some b ∧
      b = { a with entries := b.entries, total := b.total, cause := some (a.cause.getD .doseFault), st := b.st } ∧
      (∀ ch < 4, ∀ i e p, s.channel ch = some i → a.entry i = some e → e.st = .active p →
        (∀ k < ch, s.heldCanister k ≠ some p.canister) → b.entry i = some { e with st := .failed { p with
          emitted := p.emitted + (if (s.pump p.canister).st = .stroking then s.driven p.canister else 0) } }) ∧
      (∀ i, (∀ ch < 4, s.channel ch ≠ some i) → b.entry i = a.entry i) ∧
      (∀ v : Nat → Nat, (∀ ch < 4, (s.heldCanister ch = none → v ch = 0) ∧ ∀ n, s.heldCanister ch = some n → v ch =
          if (s.pump n).st = .stroking ∧ ∀ k < ch, s.heldCanister k ≠ some n then s.driven n * (s.pumpCfg n).d else 0) →
        b.total = a.total + v 0 + v 1 + v 2 + v 3) ∧
      (a.st ≠ .dosing → b.st = a.st) ∧
      (a.st = .dosing → (∀ e ∈ a.entries, ∀ p, e.st = .active p → ∃ ch < 4, s.heldEntry ch = some e) → b.st = .reject) := by
  have hcause := State.failedTo_cause a hheld
  have hchange := s.failedTo_change a 4
  have hst : (s.failedTo a 4).st = a.st := by rw [hchange]
  have hsettle := Tin.settleDosing_of_cause (a := s.failedTo a 4) (by rw [hcause]; rfl)
  refine ⟨(s.failedTo a 4).settleDosing, State.tinAt_eq_some.mpr (h.tin hu ha), ?_, ?_, ?_, ?_, ?_, ?_⟩
  · rw [hsettle, ← hcause]
    exact congrArg (fun c : Tin =>
      { c with st := if (s.failedTo a 4).st = TinState.dosing ∧ (s.failedTo a 4).hasActive = false then .reject else (s.failedTo a 4).st }) hchange
  · intro ch hch i e p hi he hp hfirst
    have hentry := State.failedTo_entry_active ha hi he hp hfirst 4
    rw [if_neg (by omega), s.emittedSoFar_eq] at hentry
    rw [hsettle]
    exact hentry
  · intro i hfree
    rw [hsettle]
    exact State.failedTo_entry_free a hfree
  · intro v hv
    have htotal := State.failedTo_total a (k := 4) (v := v) fun ch hch => ⟨(hv ch hch).1, fun n hn => by
      rw [State.emittedOn_mul]
      exact (hv ch hch).2 n hn⟩
    simp only [Finset.sum_range_succ, Finset.sum_range_zero, Nat.zero_add, ← Nat.add_assoc] at htotal
    rw [hsettle]
    exact htotal
  · intro hno
    rw [hsettle, hst, if_neg fun hc => hno hc.1]
  · intro hdosing hall
    rw [hsettle, hst, if_pos ⟨hdosing, State.failedTo_hasActive ha hall⟩]

/-! ## EMERGENCY_STOP -/

/-- The state an emergency stop finds: the pins latched, ESTOP_L low (R36). -/
def State.stopPressed (s : State) (x : Sample) : State :=
  { s.latch x with pins := { s.pins with sample := x, estop := true } }

theorem exec_emergencyStop {s : State} (h : s.Live) (x : Sample) : exec (.emergencyStop x) s = .next
    (match s.dck.cell with
    | .run | .night | .capped | .paused | .jammed => (s.stopPressed x).takeStop
    | .starting | .configFault | .halted => s.stopPressed x) := by
  simp only [exec, execEmergencyStop]
  exact State.act_live _ h

theorem exec_emergencyStop_inService {s : State} (h : s.Live) (x : Sample) (hs : s.inService =
    true) (hc : s.dck.cell ≠ .halted) :
    exec (.emergencyStop x) s = .next (s.stopPressed x).takeStop := by
  rw [exec_emergencyStop h]
  unfold State.inService at hs
  cases hcell : s.dck.cell <;> simp_all

/-- Settles O21: the stop enters HALTED, stops the channels one after the other, settles the tin and stops the drives. -/
theorem emergencyStopHaltsMotion : Obligations.EmergencyStopHaltsMotion := by
  unfold Obligations.EmergencyStopHaltsMotion
  intro x s hl
  refine ⟨fun hc => ?_, fun hserve hc => ?_⟩
  · rcases hc with hc | hc | hc <;> simp only [exec_emergencyStop hl, hc] <;> rfl
  · obtain ⟨u, hu, h⟩ := (s.stopPressed x).takeStop_halts
    refine ⟨_, exec_emergencyStop_inService hl x hserve hc, ?_⟩
    generalize (s.stopPressed x).takeStop = t at h
    obtain ⟨hcell, hhalt, hpause, hjam, hmoment⟩ := h.clock
    obtain ⟨hxfr, hstations, hatn, hcfg, hpins⟩ := h.blocks
    obtain ⟨hconv, hpress, hshake, hin, hout, hopen, hclose⟩ := h.outputs
    refine ⟨hcell, hhalt, hpause, hjam, hmoment, by rw [hpins]; rfl, h.cap, fun d p k hi => ?_, fun hi => ?_,
        fun k hb => ?_,
      by rw [h.lids]; rfl, fun hr => ?_, fun hr => ?_, fun n => (h.stirrers hu n).1, fun n => (h.stirrers hu n).2,
      fun ch hch => (h.channels hu hch).1, fun ch hch n hn hp hcan => ?_, fun n hn => ?_, fun n hn => ?_,
      fun m hm => h.otherSlot hu hm, fun ha => h.noTin hu ha, fun a ha hfree hop => h.tinKept hu ha hfree hop,
      fun a ha hheld => h.tinFailed hu ha hheld, hconv, hpress, hshake, hin, hout, hopen, hclose, fun n => ?_,
          fun ch hch => ?_,
      hxfr, hstations, hatn, hcfg⟩
    · rw [h.index, show (s.stopPressed x).seg.index = _ from hi]
      rfl
    · rw [h.index]
      change s.seg.index.stop = s.seg.index
      cases hidx : s.seg.index with
      | running d p k => rw [hidx] at hi; cases hi
      | idle | stopped => rfl
    · rw [h.lids]
      change s.lids.bay.stop = _
      rw [hb]
      rfl
    · rw [h.shaker, show (s.stopPressed x).shaker = s.shaker from rfl]
      simp only [Shaker.estop, hr, and_self]
    · rw [h.shaker, show (s.stopPressed x).shaker = s.shaker from rfl]
      rcases hr with hr | hr <;> simp only [Shaker.estop, hr]
    · have hnot : ¬ (s.stopPressed x).Unheld 4 n := fun hun => hun ch hch hn
      have hpump : t.pump n = (s.pump n).cut (s.pumpCfg n) (x.enc.getD n 0) .idle := by
        rw [State.pump, h.shots]
        exact (hu.cut n hnot).trans (if_pos hp)
      rw [hpump, (h.stock n).2]
      exact ⟨rfl, rfl, fun hsw => by simp [Pump.cut, hsw], hu.reserved n hnot hcan⟩
    · rw [State.pump, h.shots, (h.stock n).1]
      exact hu.kept n hn
    · obtain ⟨ch, hch, hheld⟩ := hn
      rw [(h.stock n).1, hu.charged n fun hun => hun ch hch hheld, State.emittedSoFar_eq]
      rfl
    · rw [State.stirOut, (h.stirrers hu n).1]
      exact Bool.and_false _
    · rw [State.stepping, (h.channels hu hch).2]

end Sys2Proof.Machine
end

/-! # Proofs: the verdict on a base (O30) -/

section
namespace Sys2Proof.Machine

/-! ## A window and a base (R42) -/

/-- Two words agree under a mask exactly if they agree in each position the mask selects. -/
theorem and_mask_eq_iff {n : Nat} (a b m : BitVec n) :
    a &&& m = b &&& m ↔ ∀ i < n, m.getLsbD i = true → a.getLsbD i = b.getLsbD i := by
  rw [BitVec.eq_of_getLsbD_eq_iff]
  refine forall₂_congr fun i _ => ?_
  rw [BitVec.getLsbD_and, BitVec.getLsbD_and]
  cases m.getLsbD i <;> simp

theorem windowMatches_iff (w : Window) (base : Code16) : windowMatches w base = true ↔
    w.enable = true ∧ ∀ i < 16, w.mask.getLsbD i = true → base.getLsbD i = w.pattern.getLsbD i := by
  rw [windowMatches, Bool.and_eq_true, beq_iff_eq, and_mask_eq_iff]

/-! ## The windows in index order (R43) -/

@[simp] theorem verdict_nil (base : Code16) : verdict [] base = .deny := rfl

theorem verdict_cons_of_not_matches {w : Window} {base : Code16} (h : ¬ windowMatches w base = true) (ws : List Window) :
    verdict (w :: ws) base = verdict ws base := if_neg h

theorem verdict_cons_of_permit {w : Window} {base : Code16} (h : windowMatches w base = true)
    (ha : w.action = some .permit) (ws : List Window) : verdict (w :: ws) base = .permit w.lid w.shake := by
  rw [verdict, if_pos h, ha]

theorem verdict_cons_of_deny {w : Window} {base : Code16} (h : windowMatches w base = true)
    (ha : w.action = some .deny) (ws : List Window) : verdict (w :: ws) base = .deny := by
  rw [verdict, if_pos h, ha]

/-- Windows that do not match are passed over. -/
theorem verdict_append_of_not_matches {pre : List Window} {base : Code16}
    (h : ∀ v ∈ pre, ¬ windowMatches v base = true) (ws : List Window) : verdict (pre ++ ws) base = verdict ws base := by
  induction pre with
  | nil => rfl
  | cons v pre ih =>
    obtain ⟨hv, hpre⟩ := List.forall_mem_cons.mp h
    rw [List.cons_append, verdict_cons_of_not_matches hv, ih hpre]

theorem verdict_of_not_matches {ws : List Window} {base : Code16} (h : ∀ v ∈ ws, ¬ windowMatches v base = true) :
    verdict ws base = .deny := by
  rw [← List.append_nil ws, verdict_append_of_not_matches h, verdict_nil]

/-- Settles O30: a window matches by its mask positions; those before the first match are passed over, and it decides. -/
theorem firstMatchingWindowDecides : Obligations.FirstMatchingWindowDecides := by
  unfold Obligations.FirstMatchingWindowDecides
  intro ws pre post w base hit hhit
  have hmatch : ∀ v, windowMatches v base = true ↔ hit v := fun v => (windowMatches_iff v base).trans (hhit v).symm
  refine ⟨hmatch, ?_⟩
  simp only [← hmatch]
  refine ⟨verdict_of_not_matches, ?_⟩
  rintro rfl hpre hw
  rw [verdict_append_of_not_matches hpre]
  exact ⟨fun ha => verdict_cons_of_permit hw ha post, fun ha => verdict_cons_of_deny hw ha post⟩

end Sys2Proof.Machine
end

/-! # Proofs: one entry of the order book changed (O24 to O29)

The commands of the order book change the entry of one order id. Each of them is brought to one form: notices placed,
then `State.modEntry`; the rules here say once what that form leaves of the book. -/

section
namespace Sys2Proof.Machine

/-! ## The commands that reach the book -/

theorem State.booked_inService {s : State} (hs : s.inService = true) (f : State → State) : s.booked f = f s := if_pos hs

/-- A cell's notice of order traffic, heard in service, is taken as it stands. -/
theorem State.Hears.act_booked {s : State} {src : Nat} (h : s.Hears .cell src) (hs : s.inService = true)
    (f : State → State) : s.act (fun s => s.hear .cell src true fun s => s.booked f) = .next (f s) :=
  State.act_next h.live ((h.hear_cell _).trans (State.booked_inService hs f))

/-! ## One entry set -/

/-- `t` is `s` with `e` standing for the order id, and with every other entry as it was. -/
def State.SetsEntry (s : State) (id : OrderId) (e : OrderEntry) (t : State) : Prop :=
  t = { s with book := t.book } ∧ (∀ i, i ≠ id → t.entry i = s.entry i) ∧ t.entry id = some e

/-- A changed entry stands for its order id, and no other entry has changed. -/
theorem State.setsEntry_modEntry {s : State} {id : OrderId} {e : OrderEntry} (he : s.entry id = some e)
    {f : OrderEntry → OrderEntry} (hf : ∀ e, (f e).id = e.id) : s.SetsEntry id (f e) (s.modEntry id f) :=
  ⟨rfl, fun _ h => s.entry_modEntry_ne h hf, State.entry_modEntry he hf⟩

/-- A change that leaves the only entry of its order id as it is leaves the state as it is. -/
theorem State.modEntry_of_fixed {s : State} (hnd : (s.book.map OrderEntry.id).Nodup) {id : OrderId} {e : OrderEntry}
    (he : s.entry id = some e) {f : OrderEntry → OrderEntry} (h : f e = e) : s.modEntry id f = s := by
  obtain ⟨hmem, rfl⟩ := State.entry_some he
  rw [State.modEntry_of_mem hnd hmem (g := fun e => e) h, State.modEntry]
  simp only [ite_self, List.map_id']

/-! ## The notices an entry places -/

/-- What a JOB STATUS says depends on the order and the job of its entry (R71). -/
theorem jobStatusMsg_congr {e e' : OrderEntry} (hid : e'.id = e.id) (ho : e'.order = e.order) (self : Nat) (j : Job)
    (st : JobState) : jobStatusMsg self e' j st = jobStatusMsg self e j st := by
  simp only [jobStatusMsg, OrderEntry.tinCount, hid, ho]

/-- The JOB STATUS of an entry just changed: the notice is placed, and the repeat timer starts with the change (R71). -/
theorem State.placeJobStatus_modEntry {s : State} {id : OrderId} {e : OrderEntry} (he : s.entry id = some e)
    {f : OrderEntry → OrderEntry} (hf : ∀ e, (f e).id = e.id) (ho : (f e).order = e.order) {j : Job}
    (hj : (f e).job = some j) {st : JobState} (hst : OrderState.jobState (f e).st = some st) :
    (s.modEntry id f).placeJobStatus id =
      (s.place (.jobStatus (jobStatusMsg s.self e j st))).modEntry id (OrderEntry.statusPlaced ∘ f) := by
  rw [State.placeJobStatus_eq (State.entry_modEntry he hf) hj hst, jobStatusMsg_congr (hf e) ho]
  exact State.modEntry_modEntry (s.place (.jobStatus (jobStatusMsg s.self e j st))) id hf

/-- The CLAIM of an own job, an uncommitted one in RUN alone (R57, R62). -/
theorem State.placeClaim_eq {s : State} {id : OrderId} {e : OrderEntry} {j : Job} (he : s.entry id = some e)
    (hj : e.job = some j) : s.placeClaim id =
      if j.committed = true ∨ s.dck.cell = .run then s.place (.claim id (e.ownEst.getD 0) j.committed) else s := by
  simp only [State.placeClaim, he, OrderEntry.ownClaim, hj, Option.map_some, Option.getD_some, State.running,
    Bool.or_eq_true, beq_iff_eq]

theorem OrderEntry.statusPlaced_eq {e : OrderEntry} {j : Job} (hj : e.job = some j) :
    e.statusPlaced = { e with job := some { j with repeatTime := 0 } } := by
  rw [OrderEntry.statusPlaced, hj, Option.map_some]

/-- An entry changed and its repeat timer started. -/
theorem State.setsEntry_statusPlaced {s : State} {id : OrderId} {e : OrderEntry} (he : s.entry id = some e)
    {f : OrderEntry → OrderEntry} (hf : ∀ e, (f e).id = e.id) {j : Job} (hj : (f e).job = some j) :
    s.SetsEntry id { f e with job := some { j with repeatTime := 0 } } (s.modEntry id (OrderEntry.statusPlaced ∘ f)) := by
  rw [← OrderEntry.statusPlaced_eq hj]
  exact State.setsEntry_modEntry he (f := OrderEntry.statusPlaced ∘ f) hf

theorem Job.unresolved_eq_zero (j : Job) : j.unresolved = 0 ↔ j.loaded ≤ j.done + j.rejected + j.lost := by
  unfold Job.unresolved
  omega

/-! ## The prompt withdrawn -/

theorem State.withdrawPrompt_of_eq {s : State} {id : OrderId} (h : s.seg.prompt.order = some id) :
    s.withdrawPrompt id = s.endPrompt := if_pos (beq_iff_eq.mpr h)

theorem State.withdrawPrompt_of_ne {s : State} {id : OrderId} (h : s.seg.prompt.order ≠ some id) :
    s.withdrawPrompt id = s := if_neg (mt beq_iff_eq.mp h)

/-- Withdrawing the prompt changes the prompt and the label alone. -/
theorem State.withdrawPrompt_eq (s : State) (id : OrderId) : s.withdrawPrompt id = { s with
    seg := { s.seg with prompt := if s.seg.prompt.order = some id then .none else s.seg.prompt }
    panel := (s.withdrawPrompt id).panel } := by
  by_cases h : s.seg.prompt.order = some id
  · rw [State.withdrawPrompt_of_eq h, if_pos h]
    rfl
  · rw [State.withdrawPrompt_of_ne h, if_neg h]

/-- No prompt stands for an order whose prompt was withdrawn. -/
theorem State.withdrawPrompt_order (s : State) (id : OrderId) : (s.withdrawPrompt id).seg.prompt.order ≠ some id := by
  by_cases h : s.seg.prompt.order = some id
  · rw [State.withdrawPrompt_of_eq h]
    exact fun hn => Option.some_ne_none id hn.symm
  · rwa [State.withdrawPrompt_of_ne h]

theorem State.entry_withdrawPrompt (s : State) (id i : OrderId) : (s.withdrawPrompt id).entry i = s.entry i := by
  rw [s.withdrawPrompt_eq id]
  rfl

/-- The prompt may be withdrawn before or after a change of the book. -/
theorem State.withdrawPrompt_modEntry (s : State) (id i : OrderId) (f : OrderEntry → OrderEntry) :
    (s.modEntry i f).withdrawPrompt id = (s.withdrawPrompt id).modEntry i f := by
  by_cases h : s.seg.prompt.order = some id
  · rw [State.withdrawPrompt_of_eq h, State.withdrawPrompt_of_eq (s := s.modEntry i f) h]
    rfl
  · rw [State.withdrawPrompt_of_ne h, State.withdrawPrompt_of_ne (s := s.modEntry i f) h]

theorem State.self_withdrawPrompt (s : State) (id : OrderId) : (s.withdrawPrompt id).self = s.self := by
  rw [s.withdrawPrompt_eq id]
  rfl

theorem State.bus_withdrawPrompt (s : State) (id : OrderId) : (s.withdrawPrompt id).bus = s.bus := by
  rw [s.withdrawPrompt_eq id]

/-- The JOB STATUS of an entry just changed, its prompt withdrawn before the notice is placed (R66, R71). -/
theorem State.placeJobStatus_withdrawn {s : State} {id : OrderId} {e : OrderEntry} (he : s.entry id = some e)
    {f : OrderEntry → OrderEntry} (hf : ∀ e, (f e).id = e.id) (ho : (f e).order = e.order) {j : Job}
    (hj : (f e).job = some j) {st : JobState} (hst : OrderState.jobState (f e).st = some st) :
    ((s.modEntry id f).withdrawPrompt id).placeJobStatus id =
      ((s.withdrawPrompt id).place (.jobStatus (jobStatusMsg s.self e j st))).modEntry id (OrderEntry.statusPlaced ∘ f) := by
  rw [State.withdrawPrompt_modEntry, State.placeJobStatus_modEntry ((s.entry_withdrawPrompt id id).trans he) hf ho hj hst,
    State.self_withdrawPrompt]

/-! ## What acts on one order -/

/-- `t` differs from `s` in the send queue, the load prompt and the panel, and in the book in the entry of `id` alone. -/
def State.ActsOn (s : State) (id : OrderId) (t : State) : Prop :=
  ∃ b k g p, t = { s with bus := b, book := k, seg := { s.seg with prompt := g }, panel := p } ∧
    ∀ i, i ≠ id → t.entry i = s.entry i

theorem State.ActsOn.refl (s : State) (id : OrderId) : s.ActsOn id s := ⟨_, _, _, _, rfl, fun _ _ => rfl⟩

theorem State.ActsOn.trans {s t u : State} {id : OrderId} (h : s.ActsOn id t) (h' : t.ActsOn id u) : s.ActsOn id u := by
  obtain ⟨b, k, g, p, rfl, hi⟩ := h
  obtain ⟨b', k', g', p', rfl, hi'⟩ := h'
  exact ⟨b', k', g', p', rfl, fun i hne => (hi' i hne).trans (hi i hne)⟩

theorem State.ToldOf.actsOn {s t : State} {id : OrderId} (h : s.ToldOf id t) : s.ActsOn id t := by
  obtain ⟨b, k, rfl, hi⟩ := h
  exact ⟨b, k, _, _, rfl, hi⟩

theorem State.actsOn_withdrawPrompt (s : State) (id : OrderId) : s.ActsOn id (s.withdrawPrompt id) :=
  ⟨_, _, _, _, s.withdrawPrompt_eq id, fun i _ => s.entry_withdrawPrompt id i⟩

theorem State.ActsOn.modEntry {s t : State} {id : OrderId} (h : s.ActsOn id t) {f : OrderEntry → OrderEntry}
    (hf : ∀ e, (f e).id = e.id) : s.ActsOn id (t.modEntry id f) := h.trans (t.toldOf_modEntry id hf).actsOn

theorem State.ActsOn.place {s t : State} {id : OrderId} (h : s.ActsOn id t) (n : Notice) : s.ActsOn id (t.place n) :=
  h.trans (t.toldOf_place id n).actsOn

theorem State.ActsOn.placeJobStatus {s t : State} {id : OrderId} (h : s.ActsOn id t) : s.ActsOn id (t.placeJobStatus id) :=
  h.trans (t.toldOf_placeJobStatus id).actsOn

theorem State.ActsOn.withdrawPrompt {s t : State} {id : OrderId} (h : s.ActsOn id t) : s.ActsOn id (t.withdrawPrompt id) :=
  h.trans (t.actsOn_withdrawPrompt id)

/-- What is left as it was, named by the parts of the state reached. -/
theorem State.ActsOn.frame {s t : State} {id : OrderId} (h : s.ActsOn id t) : t = { s with
    book := t.book, bus := t.bus, seg := { s.seg with prompt := t.seg.prompt }, panel := t.panel } := by
  obtain ⟨b, k, g, p, rfl, -⟩ := h
  rfl

theorem State.ActsOn.other {s t : State} {id i : OrderId} (h : s.ActsOn id t) (hi : i ≠ id) : t.entry i = s.entry i := by
  obtain ⟨-, -, -, -, -, hother⟩ := h
  exact hother i hi

end Sys2Proof.Machine
end

/-! # Proofs: OFFER, WITHDRAW and JOB STATUS heard (O25) -/

section
namespace Sys2Proof.Machine

/-! ## The list of offers (R58) -/

/-- Of a sender's own item in the list nothing is left but the new one; the others' items stay. -/
theorem mem_addOffer_of_ne {o a : Offer} (h : a.station ≠ o.station) (l : List Offer) : a ∈ addOffer o l ↔ a ∈ l := by
  induction l with
  | nil => simpa [addOffer] using fun hao : a = o => h (congrArg _ hao)
  | cons b l ih =>
    have hao : a ≠ o := fun hao => h (congrArg _ hao)
    unfold addOffer
    split
    · next hb => simp [hao, show a ≠ b from fun hab => h (hab ▸ hb)]
    · simp [ih]

theorem self_mem_addOffer (o : Offer) (l : List Offer) : o ∈ addOffer o l := by
  induction l with
  | nil => exact List.mem_singleton.mpr rfl
  | cons b l ih =>
    unfold addOffer
    split
    · exact List.mem_cons_self
    · exact List.mem_cons_of_mem b ih

theorem station_mem_addOffer {o : Offer} {l : List Offer} {n : Nat} (h : n ∈ (addOffer o l).map Offer.station) :
    n = o.station ∨ n ∈ l.map Offer.station := by
  obtain ⟨a, ha, rfl⟩ := List.mem_map.mp h
  by_cases hs : a.station = o.station
  · exact .inl hs
  · exact .inr (List.mem_map_of_mem ((mem_addOffer_of_ne hs l).mp ha))

/-- A station that stands once in the list stands once after its offer. -/
theorem nodup_addOffer (o : Offer) {l : List Offer} (h : (l.map Offer.station).Nodup) :
    ((addOffer o l).map Offer.station).Nodup := by
  induction l with
  | nil => exact List.nodup_singleton _
  | cons b l ih =>
    obtain ⟨hb, hl⟩ := List.nodup_cons.mp h
    unfold addOffer
    split
    · next hbo => exact List.nodup_cons.mpr ⟨hbo ▸ hb, hl⟩
    · next hbo =>
      exact List.nodup_cons.mpr ⟨fun hmem => (station_mem_addOffer hmem).elim hbo hb, ih hl⟩

/-! ## OFFER -/

/-- An OFFER heard by an entry (R58). -/
def OrderEntry.hearOffer (e : OrderEntry) (src est : Nat) : OrderEntry :=
  if e.st == .new then { e with offers := addOffer { station := src, est := est } e.offers } else e

theorem OrderEntry.hearOffer_id (e : OrderEntry) (src est : Nat) : (e.hearOffer src est).id = e.id := by
  unfold OrderEntry.hearOffer
  split <;> rfl

theorem OrderEntry.hearOffer_of_new {e : OrderEntry} (h : e.st = .new) (src est : Nat) :
    e.hearOffer src est = { e with offers := addOffer { station := src, est := est } e.offers } := if_pos (by rw [h]; rfl)

theorem OrderEntry.hearOffer_of_not_new {e : OrderEntry} (h : e.st ≠ .new) (src est : Nat) : e.hearOffer src est = e :=
  if_neg (mt beq_iff_eq.mp h)

theorem State.Hears.exec_offer {s : State} {src : Nat} (h : s.Hears .cell src) (hs : s.inService = true) (id : OrderId)
    (est : Nat) : exec (.offer src id est) s = .next (s.modEntry id fun e => e.hearOffer src est) :=
  h.act_booked hs _

/-! ## WITHDRAW -/

theorem State.Hears.exec_withdraw {s : State} {src : Nat} (h : s.Hears .cell src) (hs : s.inService = true)
    (id : OrderId) : exec (.withdraw src id) s = .next (s.modEntry id fun e => e.hearWithdraw src) :=
  h.act_booked hs _

theorem OrderEntry.hearWithdraw_of_placed {e : OrderEntry} {src : Nat} (hr : e.recorded.map Claim.station = some src)
    (h : e.st = .placedElsewhere) : e.hearWithdraw src = e.waitClaim := by
  simp [OrderEntry.hearWithdraw, hr, h]

theorem OrderEntry.hearWithdraw_of_new {e : OrderEntry} {src : Nat} (hr : e.recorded.map Claim.station = some src)
    (h : e.st = .new) : e.hearWithdraw src = { e with recorded := none } := by
  simp [OrderEntry.hearWithdraw, hr, h]

theorem OrderEntry.hearWithdraw_ignored {e : OrderEntry} {src : Nat}
    (h : e.recorded.map Claim.station ≠ some src ∨ (e.st ≠ .placedElsewhere ∧ e.st ≠ .new)) : e.hearWithdraw src = e := by
  rcases h with hr | ⟨hp, hn⟩
  · simp [OrderEntry.hearWithdraw, hr]
  · simp [OrderEntry.hearWithdraw, hp, hn]

/-! ## JOB STATUS -/

/-- A JOB STATUS that reports INVALID, or whose claimant is not its sender, changes nothing (R54, R72). -/
theorem State.Hears.exec_jobStatus_ignored {s : State} {src : Nat} (h : s.Hears .cell src) (hs : s.inService = true)
    {m : JobStatusMsg} (hm : m.state = .invalid ∨ m.claimant ≠ src) : exec (.jobStatus src m) s = .next s := by
  refine (h.act_booked hs _).trans (congrArg _ (if_pos ?_))
  simpa using hm

/-- The JOB STATUS of a claimant is taken by an entry that is no own job (R72). -/
theorem State.Hears.exec_jobStatus_foreign {s : State} {src : Nat} (h : s.Hears .cell src) (hs : s.inService = true)
    {m : JobStatusMsg} (hm : m.state ≠ .invalid) (hc : m.claimant = src) {e : OrderEntry} (he : s.entry m.id = some e)
    (hj : e.job = none) : exec (.jobStatus src m) s = .next (s.modEntry m.id fun e => e.hearJobStatus src m) := by
  refine (h.act_booked hs _).trans (congrArg _ ?_)
  simp [hm, hc, he, hj]

/-- The JOB STATUS of another claimant of an own job is answered with the CLAIM, but for one that is CANCELLED or known
for a duplicate (R72). -/
theorem State.Hears.exec_jobStatus_own {s : State} {src : Nat} (h : s.Hears .cell src) (hs : s.inService = true)
    {m : JobStatusMsg} (hm : m.state ≠ .invalid) (hc : m.claimant = src) {e : OrderEntry} (he : s.entry m.id = some e)
    {j : Job} (hj : e.job = some j) : exec (.jobStatus src m) s =
      .next (if e.st = .cancelled ∨ j.duplicate = true then s else s.placeClaim m.id) := by
  refine (h.act_booked hs _).trans (congrArg _ ?_)
  simp [hm, hc, he, hj]

/-- The waiting or unplaced entry is placed elsewhere, with the claim and the job state that were heard (R72, R73). -/
theorem OrderEntry.hearJobStatus_of_waiting {e : OrderEntry} (h : e.st = .waitingClaim ∨ e.st = .unplaced) (src : Nat)
    (m : JobStatusMsg) : e.hearJobStatus src m = (e.placeElsewhere (claimOf src m)).setHeard m.state := by
  rcases h with h | h <;> simp only [OrderEntry.hearJobStatus, h]

/-- The claimant of an entry placed elsewhere cancels it, or sets its heard job state (R72). -/
theorem OrderEntry.hearJobStatus_of_claimant {e : OrderEntry} {src : Nat} (h : e.st = .placedElsewhere)
    (hr : e.recorded.map Claim.station = some src) (m : JobStatusMsg) :
    e.hearJobStatus src m = if m.state = .cancelled then e.cancelForeign else e.setHeard m.state := by
  simp only [OrderEntry.hearJobStatus, h, hr, beq_self_eq_true, if_true]

theorem OrderEntry.hearJobStatus_of_other {e : OrderEntry} {src : Nat} (h : e.st = .placedElsewhere)
    (hr : e.recorded.map Claim.station ≠ some src) (m : JobStatusMsg) : e.hearJobStatus src m = e := by
  simp only [OrderEntry.hearJobStatus, h, beq_iff_eq, hr, if_false]

theorem OrderEntry.hearJobStatus_of_deaf {e : OrderEntry} (h : e.st = .new ∨ e.st = .invalid ∨ e.st = .cancelled)
    (src : Nat) (m : JobStatusMsg) : e.hearJobStatus src m = e := by
  rcases h with h | h | h <;> simp only [OrderEntry.hearJobStatus, h]

/-- The retention starts or goes on with a finished job state, and ends with any other (R73, log 16). -/
theorem OrderEntry.setHeard_retention (e : OrderEntry) (st : JobState) : (e.setHeard st).retention =
    if st = .complete ∨ st = .failed then some (e.retention.getD 0) else none := by
  cases st <;> simp [OrderEntry.setHeard]

/-- Settles O25: each notice changes the one entry by what `hearOffer`, `hearWithdraw` and `hearJobStatus` say of its
state, and an own job answers by its claim. -/
theorem peerNoticesHeard : Obligations.PeerNoticesHeard := by
  unfold Obligations.PeerNoticesHeard
  refine ⟨fun src id est s e h hs he hnd => ⟨fun hst => ?_, fun hst => ?_, fun hr => ⟨fun hst => ?_, fun hst => ?_⟩,
      fun hno => ?_⟩,
    fun src m s e h hs he hnd => ⟨h.exec_jobStatus_ignored hs, fun hm hc => ?_⟩⟩
  · obtain ⟨hframe, hother, hentry⟩ :=
      State.setsEntry_modEntry he (f := fun e => e.hearOffer src est) fun e => e.hearOffer_id src est
    rw [OrderEntry.hearOffer_of_new hst] at hentry
    exact ⟨_, _, h.exec_offer hs id est, hframe, hother, hentry, fun o ho => mem_addOffer_of_ne ho _,
      self_mem_addOffer _ _, nodup_addOffer _⟩
  · exact (h.exec_offer hs id est).trans
      (congrArg _ (State.modEntry_of_fixed hnd he (OrderEntry.hearOffer_of_not_new hst src est)))
  · have hset := State.setsEntry_modEntry he (f := fun e => e.hearWithdraw src) fun e => (e.hearWithdraw_same src).1
    rw [OrderEntry.hearWithdraw_of_placed hr hst] at hset
    exact ⟨_, h.exec_withdraw hs id, hset⟩
  · have hset := State.setsEntry_modEntry he (f := fun e => e.hearWithdraw src) fun e => (e.hearWithdraw_same src).1
    rw [OrderEntry.hearWithdraw_of_new hr hst] at hset
    exact ⟨_, h.exec_withdraw hs id, hset⟩
  · exact (h.exec_withdraw hs id).trans
      (congrArg _ (State.modEntry_of_fixed hnd he (OrderEntry.hearWithdraw_ignored hno)))
  · refine ⟨fun hj => ?_, fun j hj => ?_⟩
    · obtain ⟨hframe, hother, hentry⟩ :=
        State.setsEntry_modEntry he (f := fun e => e.hearJobStatus src m) fun e => (e.hearJobStatus_same src m).1
      refine ⟨_, _, h.exec_jobStatus_foreign hs hm hc he hj, hframe, hother, hentry, fun hst => ?_, fun hst hr => ?_,
        fun hst hr => OrderEntry.hearJobStatus_of_other hst hr m, fun hst => OrderEntry.hearJobStatus_of_deaf hst src m⟩
      · rw [OrderEntry.hearJobStatus_of_waiting hst]
        exact ⟨rfl, rfl, rfl, OrderEntry.setHeard_retention _ _⟩
      · rw [OrderEntry.hearJobStatus_of_claimant hst hr]
        refine ⟨fun hcan => ?_, fun hcan => ?_, fun hfin => ?_⟩
        · rw [if_pos hcan]
          exact ⟨rfl, rfl⟩
        · rw [if_neg hcan]
          exact ⟨hst, rfl, rfl⟩
        · rw [if_neg (by rcases hfin with hf | hf <;> simp [hf]), OrderEntry.setHeard_retention, if_pos hfin]
    · rw [h.exec_jobStatus_own hs hm hc he hj]
      refine ⟨fun hst => by rw [if_pos hst], fun hst hd hrun => ?_, fun hst hun hrun => ?_⟩
      · rw [if_neg (by simp [hst, hd]), State.placeClaim_eq he hj, if_pos hrun]
      · rw [State.placeClaim_eq he hj, if_neg (c := j.committed = true ∨ s.dck.cell = .run) (by simp [hun, hrun]), ite_self]

end Sys2Proof.Machine
end

/-! # Proofs: CANCEL (O24) -/

section
namespace Sys2Proof.Machine

/-- A CANCEL heard in service is taken by the ordering terminal's own entry alone (R70). -/
theorem State.Hears.exec_cancel {s : State} {src : Nat} (h : s.Hears .terminal src) (hs : s.inService = true)
    {id : OrderId} {e : OrderEntry} (he : (s.refresh src none).entry id = some e) : exec (.cancel src id) s =
      .next (if src = id.term then (s.refresh src none).takeCancel e else s.refresh src none) := by
  simp only [exec]
  refine State.act_next h.live ((h.hear_terminal _).trans ?_)
  rw [State.booked_inService ((s.inService_refresh src none).trans hs), he]

/-! ## The table of R70 -/

theorem State.takeCancel_of_unowned (s : State) {e : OrderEntry}
    (h : e.st = .new ∨ e.st = .waitingClaim ∨ e.st = .placedElsewhere ∨ e.st = .unplaced) :
    s.takeCancel e = s.modEntry e.id OrderEntry.cancelForeign := by
  rcases h with h | h | h | h <;> simp only [State.takeCancel, h]

theorem State.takeCancel_of_pending (s : State) {e : OrderEntry} {j : Job} (h : e.st = .ownPending) (hj : e.job = some j) :
    s.takeCancel e =
      (s.place (.jobStatus (jobStatusMsg s.self e j .cancelled))).modEntry e.id OrderEntry.cancelForeign := by
  simp only [State.takeCancel, h, hj]
  rfl

theorem State.takeCancel_of_ended (s : State) {e : OrderEntry} (h : e.st = .ownCancelling ∨ e.st = .ownComplete ∨
    e.st = .ownFailed ∨ e.st = .invalid ∨ e.st = .cancelled) : s.takeCancel e = s := by
  rcases h with h | h | h | h | h <;> simp only [State.takeCancel, h]

/-- An active or blocked job without an unresolved tin is CANCELLED, its prompt withdrawn and its JOB STATUS placed. -/
theorem State.takeCancel_of_resolved {s : State} {e : OrderEntry} {j : Job} (he : s.entry e.id = some e)
    (h : e.st = .ownActive ∨ e.st = .ownBlocked) (hj : e.job = some j) (hu : j.unresolved = 0) : s.takeCancel e =
      ((s.withdrawPrompt e.id).place (.jobStatus (jobStatusMsg s.self e j .cancelled))).modEntry e.id
        (OrderEntry.statusPlaced ∘ fun e => e.finish .cancelled) := by
  have hcase : s.takeCancel e = ((s.modEntry e.id fun e => e.finish .cancelled).withdrawPrompt e.id).placeJobStatus e.id := by
    rcases h with h | h <;> simp only [State.takeCancel, h, hj, hu, if_true]
  exact hcase.trans
    (State.placeJobStatus_withdrawn he (f := fun e => e.finish .cancelled) (fun _ => rfl) rfl hj rfl)

/-- An active or blocked job with an unresolved tin is CANCELLING. -/
theorem State.takeCancel_of_unresolved {s : State} {e : OrderEntry} {j : Job} (he : s.entry e.id = some e)
    (h : e.st = .ownActive ∨ e.st = .ownBlocked) (hj : e.job = some j) (hu : j.unresolved ≠ 0) : s.takeCancel e =
      ((s.withdrawPrompt e.id).place (.jobStatus (jobStatusMsg s.self e j .cancelling))).modEntry e.id
        (OrderEntry.statusPlaced ∘ fun e => { e with st := .ownCancelling }) := by
  have hcase : s.takeCancel e =
      ((s.modEntry e.id fun e => { e with st := .ownCancelling }).withdrawPrompt e.id).placeJobStatus e.id := by
    rcases h with h | h <;> simp only [State.takeCancel, h, hj, hu, if_false]
  exact hcase.trans
    (State.placeJobStatus_withdrawn he (f := fun e => { e with st := .ownCancelling }) (fun _ => rfl) rfl hj rfl)

theorem State.actsOn_takeCancel (s : State) (e : OrderEntry) : s.ActsOn e.id (s.takeCancel e) := by
  have foreign : s.ActsOn e.id (s.modEntry e.id OrderEntry.cancelForeign) :=
    (State.ActsOn.refl s e.id).modEntry fun _ => rfl
  have own : ∀ f : OrderEntry → OrderEntry, (∀ e, (f e).id = e.id) →
      s.ActsOn e.id (((s.modEntry e.id f).withdrawPrompt e.id).placeJobStatus e.id) :=
    fun f hf => ((State.ActsOn.refl s e.id).modEntry hf).withdrawPrompt.placeJobStatus
  unfold State.takeCancel
  split
  case h_1 | h_2 | h_3 | h_4 => exact foreign
  case h_5 =>
    dsimp only
    split
    · exact foreign
    · exact foreign.place _
  case h_6 | h_7 =>
    split
    · exact .refl s _
    · split
      · exact own _ fun _ => rfl
      · exact own _ fun _ => rfl
  all_goals exact .refl s _

/-- The CANCEL of an active or blocked job withdraws its prompt. -/
theorem State.takeCancel_prompt {s : State} {e : OrderEntry} {j : Job} (he : s.entry e.id = some e)
    (h : e.st = .ownActive ∨ e.st = .ownBlocked) (hj : e.job = some j) :
    (s.takeCancel e).seg = (s.withdrawPrompt e.id).seg ∧ (s.takeCancel e).panel = (s.withdrawPrompt e.id).panel := by
  by_cases hu : j.unresolved = 0
  · rw [State.takeCancel_of_resolved he h hj hu]
    exact ⟨rfl, rfl⟩
  · rw [State.takeCancel_of_unresolved he h hj hu]
    exact ⟨rfl, rfl⟩

/-- A notice placed and the entry changed, once the prompt is withdrawn. -/
theorem State.modEntry_withdrawn {s : State} {e : OrderEntry} {j : Job} (he : s.entry e.id = some e) (n : Notice)
    {f : OrderEntry → OrderEntry} (hf : ∀ e, (f e).id = e.id) (hj : (f e).job = some j) :
    (((s.withdrawPrompt e.id).place n).modEntry e.id (OrderEntry.statusPlaced ∘ f)).bus = (s.place n).bus ∧
    (((s.withdrawPrompt e.id).place n).modEntry e.id (OrderEntry.statusPlaced ∘ f)).entry e.id =
      some { f e with job := some { j with repeatTime := 0 } } := by
  obtain ⟨-, -, hentry⟩ := State.setsEntry_statusPlaced (s := (s.withdrawPrompt e.id).place n)
    ((s.entry_withdrawPrompt e.id e.id).trans he) hf hj
  exact ⟨congrArg (fun b : Bus => b.add n.queued) (s.bus_withdrawPrompt e.id), hentry⟩

/-- Settles O24, by the table of R70. -/
theorem cancelTaken : Obligations.CancelTaken := by
  unfold Obligations.CancelTaken
  rintro src id s _ e h hs rfl he hnd
  obtain ⟨-, rfl⟩ := State.entry_some he
  rw [h.exec_cancel hs he]
  refine ⟨fun hsrc => by rw [if_neg hsrc], fun hsrc => ?_⟩
  rw [if_pos hsrc, ← s.self_refresh src none]
  have hacts := (s.refresh src none).actsOn_takeCancel e
  refine ⟨_, rfl, fun i hi => hacts.other hi, hacts.frame, fun hst => ?_, fun j hst hj => ?_,
    fun j hst hj => ?_, State.takeCancel_of_ended _⟩
  · rw [State.takeCancel_of_unowned _ hst]
    obtain ⟨hframe, -, hentry⟩ := State.setsEntry_modEntry he (f := OrderEntry.cancelForeign) fun _ => rfl
    exact ⟨hframe, hentry⟩
  · rw [State.takeCancel_of_pending _ hst hj]
    exact ⟨rfl, rfl, State.entry_modEntry he fun _ => rfl⟩
  · obtain ⟨hseg, hpanel⟩ := State.takeCancel_prompt he hst hj
    refine ⟨fun hp => ?_, fun hp => ?_, fun hu => ?_, fun hu => ?_⟩
    · rw [hseg, hpanel, State.withdrawPrompt_of_eq hp]
      exact ⟨rfl, rfl⟩
    · rw [hseg, hpanel, State.withdrawPrompt_of_ne hp]
      exact ⟨rfl, rfl⟩
    · rw [State.takeCancel_of_resolved he hst hj (j.unresolved_eq_zero.mpr hu)]
      exact State.modEntry_withdrawn he _ (f := fun e => e.finish .cancelled) (fun _ => rfl) hj
    · rw [State.takeCancel_of_unresolved he hst hj (mt j.unresolved_eq_zero.mp (Nat.not_le.mpr hu))]
      exact State.modEntry_withdrawn he _ (f := fun e => { e with st := .ownCancelling }) (fun _ => rfl) hj

end Sys2Proof.Machine
end

/-! # Proofs: the order of claims, and a CLAIM heard (O26) -/

section
namespace Sys2Proof.Machine

/-! ## The order of claims (R60) -/

/-- A committed claim is better than an uncommitted one; among like ones the lower estimate decides, then the lower
station. -/
theorem Claim.better_iff (a b : Claim) : a.better b = true ↔ (a.committed = true ∧ b.committed = false) ∨
    (a.committed = b.committed ∧ (a.est < b.est ∨ a.est = b.est ∧ a.station < b.station)) := by
  unfold Claim.better
  by_cases hc : a.committed = b.committed
  · by_cases he : a.est = b.est
    · simp [hc, he]
    · simp [hc, he]
  · have hb : b.committed = !a.committed := Bool.eq_not.mpr (Ne.symm hc)
    simp [hb]

theorem Claim.better_of_committed {a b : Claim} (ha : a.committed = true) (hb : b.committed = false) :
    a.better b = true ∧ b.better a = false := by
  simp [Claim.better, ha, hb]

theorem Claim.better_of_lt {a b : Claim} (hc : a.committed = b.committed) (h : a.est < b.est) :
    a.better b = true ∧ b.better a = false := by
  have hne := Nat.ne_of_lt h
  simp [Claim.better, hc, h, hne, hne.symm, Nat.le_of_lt h]

theorem Claim.better_iff_station {a b : Claim} (hc : a.committed = b.committed) (h : a.est = b.est) :
    a.better b = true ↔ a.station < b.station := by
  simp [Claim.better, hc, h]

/-- Of two claims of different stations exactly one is better. -/
theorem Claim.better_iff_not {a b : Claim} (h : a.station ≠ b.station) : a.better b = true ↔ b.better a = false := by
  rw [← Bool.not_eq_true, Claim.better_iff, Claim.better_iff]
  cases a.committed <;> cases b.committed <;> simp <;> omega

theorem Claim.better_trans {a b c : Claim} (hab : a.better b = true) (hbc : b.better c = true) : a.better c = true := by
  rw [Claim.better_iff] at *
  rcases hab with ⟨ha, hb⟩ | ⟨hab, hab'⟩ <;> rcases hbc with ⟨hb', hc⟩ | ⟨hbc, hbc'⟩
  · exact .inl ⟨ha, hc⟩
  · exact .inl ⟨ha, hbc ▸ hb⟩
  · exact .inl ⟨hab.trans hb', hc⟩
  · exact .inr ⟨hab.trans hbc, by omega⟩

theorem OrderEntry.ownClaim_eq {e : OrderEntry} {j : Job} (hj : e.job = some j) (self : Nat) :
    e.ownClaim self = { station := self, est := e.ownEst.getD 0, committed := j.committed } := by
  rw [OrderEntry.ownClaim, hj, Option.map_some, Option.getD_some]

/-! ## A CLAIM for an entry that is no own job (R61) -/

theorem OrderEntry.hearClaim_of_new {e : OrderEntry} (h : e.st = .new) (c : Claim) :
    e.hearClaim c = { e with recorded := some (betterClaim c e.recorded) } := by
  simp only [OrderEntry.hearClaim, h]

theorem OrderEntry.hearClaim_of_waiting {e : OrderEntry} (h : e.st = .waitingClaim ∨ e.st = .unplaced) (c : Claim) :
    e.hearClaim c = e.placeElsewhere c := by
  rcases h with h | h <;> simp only [OrderEntry.hearClaim, h]

/-- The claimant stays: the heard job state stays with it. -/
theorem OrderEntry.hearClaim_of_same {e : OrderEntry} {c r : Claim} (h : e.st = .placedElsewhere)
    (hr : e.recorded = some r) (hs : c.station = r.station ∨ c.better r = false) :
    e.hearClaim c = { e with recorded := some (betterClaim c e.recorded) } := by
  have hstay : (betterClaim c (some r)).station = r.station := by
    by_cases hb : c.better r = true
    · simpa [betterClaim, hb] using hs
    · simp [betterClaim, hb]
  simp only [OrderEntry.hearClaim, h, hr, Option.getD_some, hstay, beq_self_eq_true, if_true]

/-- Another claimant with a better claim: the heard job state and the retention end (log 16). -/
theorem OrderEntry.hearClaim_of_change {e : OrderEntry} {c r : Claim} (h : e.st = .placedElsewhere)
    (hr : e.recorded = some r) (hs : c.station ≠ r.station) (hb : c.better r = true) :
    e.hearClaim c = { e with recorded := some (betterClaim c e.recorded), heard := none, retention := none } := by
  simp [OrderEntry.hearClaim, h, hr, betterClaim, hb, hs]

theorem OrderEntry.hearClaim_of_closed {e : OrderEntry} (h : e.st = .invalid ∨ e.st = .cancelled) (c : Claim) :
    e.hearClaim c = e := by
  rcases h with h | h <;> simp only [OrderEntry.hearClaim, h]

/-- The better of the claim heard and the one recorded stands recorded, in the state the entry has. -/
theorem OrderEntry.hearClaim_recorded {e : OrderEntry} (h : e.st = .new ∨ e.st = .placedElsewhere) (c : Claim) :
    (e.hearClaim c).recorded = some (betterClaim c e.recorded) ∧ (e.hearClaim c).st = e.st := by
  rcases h with h | h
  · rw [OrderEntry.hearClaim_of_new h]
    exact ⟨rfl, rfl⟩
  · simp only [OrderEntry.hearClaim, h]
    split
    · exact ⟨rfl, rfl⟩
    · exact ⟨rfl, rfl⟩

theorem betterClaim_some (c r : Claim) : some (betterClaim c (some r)) = if c.better r = true then some c else some r := by
  rw [betterClaim, apply_ite some]

theorem State.Hears.exec_claim_foreign {s : State} {src : Nat} (h : s.Hears .cell src) (hs : s.inService = true)
    {id : OrderId} {e : OrderEntry} (he : s.entry id = some e) (hj : e.job = none) (est : Nat) (committed : Bool) :
    exec (.claim src id est committed) s = .next (s.modEntry id fun e =>
      e.hearClaim { station := src, est := est, committed := committed }) := by
  refine (h.act_booked hs _).trans (congrArg _ ?_)
  simp [he, hj]

/-! ## A CLAIM against an own job (R62) -/

theorem State.Hears.exec_claim_own {s : State} {src : Nat} (h : s.Hears .cell src) (hs : s.inService = true)
    {id : OrderId} {e : OrderEntry} (he : s.entry id = some e) {j : Job} (hj : e.job = some j) (hst : e.st ≠ .cancelled)
    (est : Nat) (committed : Bool) : exec (.claim src id est committed) s =
      .next (s.contest e j { station := src, est := est, committed := committed }) := by
  refine (h.act_booked hs _).trans (congrArg _ ?_)
  simp [he, hj, hst]

/-- A better claim against an uncommitted one: the cell gives the job up and places a WITHDRAW. -/
theorem State.contest_lost (s : State) {e : OrderEntry} {j : Job} {c : Claim} (hj : j.committed = false)
    (hb : c.better (e.ownClaim s.self) = true) : s.contest e j c =
      ((s.withdrawPrompt e.id).place (.withdraw e.id)).modEntry e.id fun e => e.placeElsewhere c := by
  rw [State.contest, hj, Bool.false_and, if_neg Bool.false_ne_true, if_pos hb, State.withdrawPrompt_modEntry]
  rfl

theorem State.contest_duplicate (s : State) {e : OrderEntry} {j : Job} {c : Claim} (hj : j.committed = true)
    (hc : c.committed = true) : s.contest e j c = s.setDuplicate e.id j := by
  rw [State.contest, hj, hc, Bool.and_self, if_pos rfl]

theorem State.contest_won (s : State) {e : OrderEntry} {j : Job} {c : Claim} (hb : c.better (e.ownClaim s.self) = false)
    (h : ¬ (j.committed = true ∧ c.committed = true)) : s.contest e j c = s.placeClaim e.id := by
  rw [State.contest, if_neg (by rwa [Bool.and_eq_true]), if_neg (ne_true_of_eq_false hb)]

/-- The duplicate flag set: the JOB STATUS that shows it is placed, then the CLAIM once more. -/
theorem State.setDuplicate_of_clear {s : State} {id : OrderId} {e : OrderEntry} {j : Job} {st : JobState}
    (he : s.entry id = some e) (hc : j.committed = true) (hd : j.duplicate = false)
    (hst : OrderState.jobState e.st = some st) : s.setDuplicate id j =
      ((s.place (.jobStatus (jobStatusMsg s.self e { j with duplicate := true } st))).place
        (.claim id (e.ownEst.getD 0) true)).modEntry id
          (OrderEntry.statusPlaced ∘ fun e => { e with job := some { j with duplicate := true } }) := by
  rw [State.setDuplicate, hd, if_neg Bool.false_ne_true, State.placeJobStatus_modEntry he
    (f := fun e => { e with job := some { j with duplicate := true } }) (fun _ => rfl) rfl rfl hst]
  have hentry := State.entry_modEntry
    (s := s.place (.jobStatus (jobStatusMsg s.self e { j with duplicate := true } st))) he
    (f := OrderEntry.statusPlaced ∘ fun e => { e with job := some { j with duplicate := true } }) fun _ => rfl
  rw [State.placeClaim_eq hentry rfl, if_pos (.inl hc), hc]
  rfl

/-- Settles O26: the order of R60 by its three keys, a CLAIM for another cell's job by what `hearClaim` says of the
entry's state, and one against an own job by the three outcomes of `contest`. -/
theorem claimsOrderedAndHeard : Obligations.ClaimsOrderedAndHeard := by
  unfold Obligations.ClaimsOrderedAndHeard
  refine ⟨fun a b c => ⟨Claim.better_of_committed, Claim.better_of_lt, Claim.better_iff_station, Claim.better_iff_not,
    Claim.better_trans, fun e j self est hj hest => ?_⟩, ?_, ?_⟩
  · rw [OrderEntry.ownClaim_eq hj, hest, Option.getD_some]
  · rintro src id est committed s e _ h hs he hnd hj rfl
    generalize hc : Claim.mk src est committed = c
    obtain ⟨hframe, hother, hentry⟩ := State.setsEntry_modEntry he (f := fun e => e.hearClaim c) fun e => e.hearClaim_id c
    refine ⟨_, _, hc ▸ h.exec_claim_foreign hs he hj est committed, hframe, hother, hentry, fun hst => ?_, fun hst => ?_,
      fun r hst hr => ⟨?_, ?_, ?_⟩, fun hst => ?_, fun hst => OrderEntry.hearClaim_of_closed hst c⟩
    · rw [OrderEntry.hearClaim_of_new hst c]
    · rw [OrderEntry.hearClaim_of_waiting hst, OrderEntry.placeElsewhere, hj]
    · exact (OrderEntry.hearClaim_recorded (.inr hst) c).2.trans hst
    · rintro ⟨hs, hb⟩
      rw [OrderEntry.hearClaim_of_change hst hr (by rwa [← hc]) hb]
    · intro hs
      rw [OrderEntry.hearClaim_of_same hst hr (by rwa [← hc] at hs ⊢)]
    · rw [(OrderEntry.hearClaim_recorded hst c).1]
      exact ⟨fun hr => by rw [hr, betterClaim], fun r hr => by rw [hr, betterClaim_some]⟩
  · rintro src id est committed s e j _ _ h hs he hnd hj hst rfl rfl
    obtain ⟨-, rfl⟩ := State.entry_some he
    rw [h.exec_claim_own hs he hj hst]
    have hown := OrderEntry.ownClaim_eq hj s.self
    generalize hc : Claim.mk src est committed = c
    have hcom : c.committed = committed := by rw [← hc]
    refine ⟨fun hun hb => ?_, fun hcj hcc hd => ?_, fun hcj hcc hd hsome => ?_, fun hb hnot => ?_⟩
    · rw [State.contest_lost s hun (by rwa [hown])]
      obtain ⟨-, hother, hentry⟩ := State.setsEntry_modEntry (s := (s.withdrawPrompt e.id).place (.withdraw e.id))
        ((s.entry_withdrawPrompt e.id e.id).trans he) (f := fun e => e.placeElsewhere c) fun _ => rfl
      refine ⟨_, rfl, fun i hi => (hother i hi).trans (s.entry_withdrawPrompt e.id i), hentry, ?_, ?_, ?_⟩
      all_goals
        rw [s.withdrawPrompt_eq e.id]
        rfl
    · rw [State.contest_duplicate s hcj (hcom.trans hcc), State.setDuplicate, if_pos hd]
    · obtain ⟨st, hjs⟩ := Option.isSome_iff_exists.mp hsome
      rw [State.contest_duplicate s hcj (hcom.trans hcc), State.setDuplicate_of_clear he hcj hd hjs]
      obtain ⟨hframe, hother, hentry⟩ := State.setsEntry_statusPlaced
        (s := (s.place (.jobStatus (jobStatusMsg s.self e { j with duplicate := true } st))).place
          (.claim e.id (e.ownEst.getD 0) true)) he
        (f := fun e => { e with job := some { j with duplicate := true } }) (fun _ => rfl) rfl
      exact ⟨_, st, rfl, hjs, hother, hentry, hframe⟩
    · rw [State.contest_won s (by rwa [hown]) (by rwa [hcom]), State.placeClaim_eq he hj]
      refine ⟨fun hrun => by rw [if_pos hrun], fun hun hrun => ?_⟩
      rw [if_neg (by simp [hun, hrun])]

end Sys2Proof.Machine
end

/-! # Proofs: the ends of an entry's timers (O27) -/

section
namespace Sys2Proof.Machine

/-! ## The offer window's end (R59) -/

/-- An uncommitted claim is better than another exactly if that one is uncommitted too and has the higher estimate, or
the same and the higher station (R60). -/
theorem Claim.uncommitted_better_iff (self est : Nat) (c : Claim) :
    Claim.better { station := self, est := est, committed := false } c = true ↔
      c.committed = false ∧ (est < c.est ∨ est = c.est ∧ self < c.station) := by
  rw [Claim.better_iff]
  cases c.committed <;> simp

/-- The claim of the window's end wins where it beats every other offer and the recorded claim. -/
theorem OrderEntry.wins_iff (e : OrderEntry) (self est : Nat) : e.wins self est = true ↔
    (∀ o ∈ e.offers, o.station = self ∨ est < o.est ∨ est = o.est ∧ self < o.station) ∧
    ∀ c, e.recorded = some c → c.committed = false ∧ (est < c.est ∨ est = c.est ∧ self < c.station) := by
  rw [OrderEntry.wins, Bool.and_eq_true, List.all_eq_true]
  refine and_congr (forall₂_congr fun o _ => ?_) ?_
  · rw [Bool.or_eq_true, beq_iff_eq, Claim.uncommitted_better_iff]
    simp
  · cases e.recorded with
    | none => simp
    | some c => simp [Claim.uncommitted_better_iff]

theorem State.claims_iff (s : State) (e : OrderEntry) : s.claims e = true ↔ ∃ est, e.ownEst = some est ∧
    s.dck.cell = .run ∧ s.openJobs < 8 ∧
    (∀ o ∈ e.offers, o.station = s.self ∨ est < o.est ∨ est = o.est ∧ s.self < o.station) ∧
    ∀ c, e.recorded = some c → c.committed = false ∧ (est < c.est ∨ est = c.est ∧ s.self < c.station) := by
  unfold State.claims
  cases e.ownEst with
  | none => simp
  | some est =>
    rw [Bool.and_eq_true, Bool.and_eq_true, OrderEntry.wins_iff, State.running, beq_iff_eq, decide_eq_true_iff]
    constructor
    · rintro ⟨⟨⟨hoff, hrec⟩, hrun⟩, hjobs⟩
      exact ⟨est, rfl, hrun, hjobs, hoff, hrec⟩
    · rintro ⟨_, ⟨⟩, hrun, hjobs, hoff, hrec⟩
      exact ⟨⟨⟨hoff, hrec⟩, hrun⟩, hjobs⟩

/-- Case 1 of R59: the entry becomes an own job, and the CLAIM is placed. -/
theorem exec_offerWindowEnd_claims {s : State} (h : s.Live) {id : OrderId} {e : OrderEntry} (he : s.entry id = some e)
    (hst : e.st = .new) (hc : s.claims e = true) : exec (.offerWindowEnd id) s =
      .next ((s.place (.claim id (e.ownEst.getD 0) false)).modEntry id fun e => e.own s.now) := by
  simp only [exec]
  refine State.act_next h ?_
  obtain ⟨est, -, hrun, -⟩ := (s.claims_iff e).mp hc
  have hclaim := State.placeClaim_eq (State.entry_modEntry he (f := fun e => e.own s.now) fun _ => rfl) rfl
  simp only [he, hst, beq_self_eq_true, if_true, hc]
  rw [hclaim, if_pos (.inr hrun)]
  rfl

/-- Case 2 of R59: the recorded claimant has the order. -/
theorem exec_offerWindowEnd_elsewhere {s : State} (h : s.Live) {id : OrderId} {e : OrderEntry} {c : Claim}
    (he : s.entry id = some e) (hst : e.st = .new) (hc : ¬ s.claims e = true) (hr : e.recorded = some c) :
    exec (.offerWindowEnd id) s = .next (s.modEntry id fun e => e.placeElsewhere c) := by
  simp only [exec]
  refine State.act_next h ?_
  simp [he, hst, hc, hr]

/-- Case 3 of R59: the entry waits for a claim. -/
theorem exec_offerWindowEnd_waits {s : State} (h : s.Live) {id : OrderId} {e : OrderEntry}
    (he : s.entry id = some e) (hst : e.st = .new) (hc : ¬ s.claims e = true) (hr : e.recorded = none) :
    exec (.offerWindowEnd id) s = .next (s.modEntry id OrderEntry.waitClaim) := by
  simp only [exec]
  refine State.act_next h ?_
  simp [he, hst, hc, hr]

/-! ## Claim settle, claim wait, repeat (R64, R71) -/

theorem exec_claimSettleEnd {s : State} (h : s.Live) {id : OrderId} {e : OrderEntry} (he : s.entry id = some e) :
    exec (.claimSettleEnd id) s = .next (if e.st = .ownPending then
      (s.modEntry id (fun e => { e with st := .ownActive })).placeJobStatus id else s) := by
  simp only [exec]
  refine State.act_next h ?_
  simp [he]

/-- The claim wait's end for an entry (R64). -/
def OrderEntry.endWait (e : OrderEntry) : OrderEntry := if e.st == .waitingClaim then e.finish .unplaced else e

theorem OrderEntry.endWait_id (e : OrderEntry) : e.endWait.id = e.id := by
  unfold OrderEntry.endWait
  split <;> rfl

theorem OrderEntry.endWait_of_waiting {e : OrderEntry} (h : e.st = .waitingClaim) : e.endWait = e.finish .unplaced :=
  if_pos (by rw [h]; rfl)

theorem OrderEntry.endWait_of_not_waiting {e : OrderEntry} (h : e.st ≠ .waitingClaim) : e.endWait = e :=
  if_neg (mt beq_iff_eq.mp h)

theorem exec_claimWaitEnd {s : State} (h : s.Live) (id : OrderId) :
    exec (.claimWaitEnd id) s = .next (s.modEntry id OrderEntry.endWait) := by
  simp only [exec]
  exact State.act_live _ h

theorem exec_jobStatusRepeat {s : State} (h : s.Live) (id : OrderId) : exec (.jobStatusRepeat id) s =
    .next (if s.terminalHeard id.term = true then s.placeJobStatus id else s) := by
  simp only [exec]
  exact State.act_live _ h

theorem State.terminalHeard_of_peer {s : State} {n : Nat} {p : Station} (h : s.peer n = some p) (hp : p.presence ≠ .gone) :
    s.terminalHeard n = true := by
  simp [State.terminalHeard, h, hp]

theorem State.terminalHeard_of_gone {s : State} {n : Nat} (h : ∀ p, s.peer n = some p → p.presence = .gone) :
    s.terminalHeard n = false := by
  unfold State.terminalHeard
  split
  · next p hp => simp [h p hp]
  · rfl

/-! ## Retention (R73) -/

/-- The book without the entry of `id` whose retention runs. -/
def State.forgets (s : State) (id : OrderId) : State :=
  { s with book := s.book.filter (fun e => !(e.id == id && e.retention.isSome)) }

theorem exec_retentionEnd {s : State} (h : s.Live) (id : OrderId) : exec (.retentionEnd id) s = .next (s.forgets id) := by
  simp only [exec]
  exact State.act_live _ h

theorem State.entry_forgets_ne (s : State) {id i : OrderId} (h : i ≠ id) : (s.forgets id).entry i = s.entry i := by
  rw [State.entry, State.forgets, List.find?_filter, State.entry]
  congr 1
  funext e
  by_cases he : e.id = i
  · simp [he, h]
  · simp [he]

/-- The one entry of the order id is gone. -/
theorem State.entry_forgets {s : State} (hnd : (s.book.map OrderEntry.id).Nodup) {id : OrderId} {e : OrderEntry}
    (he : s.entry id = some e) (hr : e.retention ≠ none) : (s.forgets id).entry id = none := by
  rw [State.entry, List.find?_eq_none]
  intro a ha
  obtain ⟨hmem, hkept⟩ := List.mem_filter.mp ha
  rw [beq_iff_eq]
  rintro rfl
  obtain rfl : a = e := Option.some.inj ((State.entry_of_mem hnd hmem).symm.trans he)
  simp [Option.isSome_iff_ne_none.mpr hr] at hkept

theorem State.forgets_of_kept {s : State} (hnd : (s.book.map OrderEntry.id).Nodup) {id : OrderId} {e : OrderEntry}
    (he : s.entry id = some e) (hr : e.retention = none) : s.forgets id = s := by
  rw [State.forgets, List.filter_eq_self.mpr]
  intro a ha
  by_cases hid : a.id = id
  · obtain rfl : a = e := Option.some.inj ((State.entry_of_mem hnd ha).symm.trans (hid ▸ he))
    simp [hr]
  · simp [hid]

/-- Settles O27: each timer's command is one change of the entry, made with the notice it places. -/
theorem entryTimersEnd : Obligations.EntryTimersEnd := by
  unfold Obligations.EntryTimersEnd
  refine ⟨fun id s e wins h he hst hnd hwins => ?_, fun id s e h he hnd => ⟨fun j hst hj => ?_, fun hst => ?_, fun hst => ?_,
    fun hst => ?_, fun j st p hj hst hp hpres => ?_, fun hp => ?_, fun hr => ?_, fun hr => ?_⟩⟩
  · rw [← s.claims_iff e] at hwins
    by_cases hc : s.claims e = true
    · obtain ⟨hframe, hother, hentry⟩ := State.setsEntry_modEntry (s := s.place (.claim id (e.ownEst.getD 0) false)) he
        (f := fun e => e.own s.now) fun _ => rfl
      exact ⟨_, exec_offerWindowEnd_claims h he hst hc, hother, fun _ => ⟨hframe, hentry⟩,
        fun hlost => absurd (hwins.mpr hc) hlost⟩
    · have hlost : ¬ wins := fun hw => hc (hwins.mp hw)
      cases hr : e.recorded with
      | some c =>
        obtain ⟨hframe, hother, hentry⟩ := State.setsEntry_modEntry he (f := fun e => e.placeElsewhere c) fun _ => rfl
        refine ⟨_, exec_offerWindowEnd_elsewhere h he hst hc hr, hother, fun hw => absurd hw hlost, fun _ =>
          ⟨hframe, ?_, fun hn => absurd hn (Option.some_ne_none c)⟩⟩
        rintro _ ⟨⟩
        exact ⟨_, hentry, rfl, rfl, rfl, rfl⟩
      | none =>
        obtain ⟨hframe, hother, hentry⟩ := State.setsEntry_modEntry he (f := OrderEntry.waitClaim) fun _ => rfl
        exact ⟨_, exec_offerWindowEnd_waits h he hst hc hr, hother, fun hw => absurd hw hlost, fun _ =>
          ⟨hframe, fun c hn => absurd hn.symm (Option.some_ne_none c), fun _ => ⟨_, hentry, rfl, rfl, rfl, rfl⟩⟩⟩
  · rw [exec_claimSettleEnd h he, if_pos hst, State.placeJobStatus_modEntry he (f := fun e => { e with st := .ownActive })
      (fun _ => rfl) rfl hj rfl]
    exact ⟨_, rfl, State.setsEntry_statusPlaced (s := s.place (.jobStatus (jobStatusMsg s.self e j .active))) he
      (f := fun e => { e with st := .ownActive }) (fun _ => rfl) hj⟩
  · rw [exec_claimSettleEnd h he, if_neg hst]
  · have hset := State.setsEntry_modEntry he OrderEntry.endWait_id
    rw [OrderEntry.endWait_of_waiting hst] at hset
    exact ⟨_, exec_claimWaitEnd h id, hset⟩
  · rw [exec_claimWaitEnd h id, State.modEntry_of_fixed hnd he (OrderEntry.endWait_of_not_waiting hst)]
  · rw [exec_jobStatusRepeat h id, if_pos (State.terminalHeard_of_peer hp hpres), State.placeJobStatus_eq he hj hst]
    exact ⟨_, rfl, State.setsEntry_statusPlaced (s := s.place (.jobStatus (jobStatusMsg s.self e j st))) he
      (f := fun e => e) (fun _ => rfl) hj⟩
  · rw [exec_jobStatusRepeat h id, State.terminalHeard_of_gone hp, if_neg Bool.false_ne_true]
  · exact ⟨_, exec_retentionEnd h id, rfl, State.entry_forgets hnd he hr, fun i hi => s.entry_forgets_ne hi⟩
  · rw [exec_retentionEnd h id, State.forgets_of_kept hnd he hr]

end Sys2Proof.Machine
end

/-! # Proofs: a tin of an own job resolved (O28) -/

section
namespace Sys2Proof.Machine

/-! ## The tin list (R67) -/

/-- A resolved tin is no longer in flight. -/
theorem Job.inFlight_resolve (j : Job) (tin : TinId) {f : TinFate} (hf : f ≠ .inFlight) :
    (j.resolve tin f).inFlight tin = false := by
  rw [Job.inFlight, List.any_eq_false, Job.resolve]
  intro a ha
  obtain ⟨b, -, rfl⟩ := List.mem_map.mp ha
  split
  · simp [hf]
  · assumption

theorem ReportResult.fate_ne_inFlight (r : ReportResult) : ReportResult.fate r ≠ .inFlight := by
  cases r <;> exact TinFate.noConfusion

theorem ReportResult.fate_eq_done {r : ReportResult} : ReportResult.fate r = .done ↔ r = .done := by
  cases r <;> simp [ReportResult.fate]

/-- A TIN REPORT raises the count that its result names. -/
theorem Job.resolve_report (j : Job) (tin : TinId) (r : ReportResult) :
    (j.resolve tin (ReportResult.fate r)).done = j.done + (if r = .done then 1 else 0) ∧
    (j.resolve tin (ReportResult.fate r)).rejected = j.rejected + (if r = .rejected then 1 else 0) ∧
    (j.resolve tin (ReportResult.fate r)).lost = j.lost + (if r = .lost then 1 else 0) := by
  cases r <;> exact ⟨rfl, rfl, rfl⟩

/-- Each resolution takes one from the unresolved tins. -/
theorem Job.unresolved_resolve (j : Job) (tin : TinId) {f : TinFate} (hf : f ≠ .inFlight)
    (h : j.done + j.rejected + j.lost < j.loaded) :
    (j.resolve tin f).unresolved = 0 ↔ j.done + j.rejected + j.lost + 1 = j.loaded := by
  rw [Job.unresolved_eq_zero]
  cases f with
  | inFlight => exact absurd rfl hf
  | done | rejected | lost | overdue =>
    simp [Job.resolve]
    omega

/-- A tin that no job holds in flight is ignored. -/
theorem State.resolveTin_of_unlisted {s : State} {tin : TinId}
    (h : ∀ a ∈ s.book, ∀ b, a.job = some b → b.inFlight tin = false) (f : TinFate) : s.resolveTin tin f = s := by
  have hnone : s.jobOfTin tin = none := by
    rw [State.jobOfTin, List.find?_eq_none]
    intro a ha
    cases hb : a.job with
    | none => simp
    | some b => simp [h a ha b hb]
  rw [State.resolveTin, hnone]

theorem State.jobOfTin_mem {s : State} {tin : TinId} {e : OrderEntry} (h : s.jobOfTin tin = some e) : e ∈ s.book :=
  List.mem_of_find?_eq_some h

/-- The tin resolved: the count of its job, a JOB STATUS, then R68. -/
theorem State.resolveTin_of_job {s : State} {tin : TinId} {e : OrderEntry} (h : s.jobOfTin tin = some e) (f : TinFate) :
    s.resolveTin tin f = ((s.modEntry e.id fun e => { e with job := e.job.map (fun j => j.resolve tin f) }).placeJobStatus
      e.id).settleJob e.id f := by
  rw [State.resolveTin, h]

/-! ## What follows a resolution (R68) -/

/-- The job still has tins to fill. -/
abbrev OrderEntry.filling (e : OrderEntry) : Prop := e.st = .ownActive ∨ e.st = .ownBlocked

section
variable {s : State} {id : OrderId} {e : OrderEntry} {j : Job}

theorem State.settleJob_of_done (he : s.entry id = some e) (hj : e.job = some j) (hst : e.filling) :
    s.settleJob id .done =
      if j.done = e.tinCount then (s.modEntry id fun e => e.finish .ownComplete).placeJobStatus id else s := by
  rcases hst with hst | hst <;> simp only [State.settleJob, he, hj, hst, beq_self_eq_true, if_true]

theorem State.settleJob_of_remake (he : s.entry id = some e) (hj : e.job = some j) (hst : e.filling) {f : TinFate}
    (hf : f ≠ .done) (hr : j.remakes < 3) : s.settleJob id f =
      (s.modEntry id fun e => { e with job := some { j with remakes := j.remakes + 1 } }).placeJobStatus id := by
  rcases hst with hst | hst <;> simp only [State.settleJob, he, hj, hst, beq_iff_eq, hf, if_false, hr, if_true]

theorem State.settleJob_of_fail (he : s.entry id = some e) (hj : e.job = some j) (hst : e.filling) {f : TinFate}
    (hf : f ≠ .done) (hr : ¬ j.remakes < 3) : s.settleJob id f =
      ((s.modEntry id fun e => e.finish .ownFailed).withdrawPrompt id).placeJobStatus id := by
  rcases hst with hst | hst <;> simp only [State.settleJob, he, hj, hst, beq_iff_eq, hf, hr, if_false]

theorem State.settleJob_of_cancelling (he : s.entry id = some e) (hj : e.job = some j) (hst : e.st = .ownCancelling)
    (f : TinFate) : s.settleJob id f =
      if j.unresolved = 0 then (s.modEntry id fun e => e.finish .cancelled).placeJobStatus id else s := by
  simp only [State.settleJob, he, hj, hst]

theorem State.settleJob_of_other (he : s.entry id = some e) (hj : e.job = some j) (hfill : ¬ e.filling)
    (hcan : e.st ≠ .ownCancelling) (f : TinFate) : s.settleJob id f = s := by
  simp only [State.settleJob, he, hj]
  split
  case h_1 h => exact absurd (.inl h) hfill
  case h_2 h => exact absurd (.inr h) hfill
  case h_3 h => exact absurd h hcan
  all_goals rfl

end

theorem State.actsOn_settleJob (s : State) (id : OrderId) (f : TinFate) : s.ActsOn id (s.settleJob id f) := by
  have told : ∀ g : OrderEntry → OrderEntry, (∀ e, (g e).id = e.id) → s.ActsOn id ((s.modEntry id g).placeJobStatus id) :=
    fun g hg => ((State.ActsOn.refl s id).modEntry hg).placeJobStatus
  have withdrawn : s.ActsOn id (((s.modEntry id fun e => e.finish .ownFailed).withdrawPrompt id).placeJobStatus id) :=
    ((State.ActsOn.refl s id).modEntry (f := fun e => e.finish .ownFailed) fun _ => rfl).withdrawPrompt.placeJobStatus
  unfold State.settleJob
  split
  · exact .refl s id
  · split
    · exact .refl s id
    · split
      case h_1 | h_2 =>
        split
        · split
          · exact told _ fun _ => rfl
          · exact .refl s id
        · split
          · exact told _ fun _ => rfl
          · exact withdrawn
      case h_3 =>
        split
        · exact told _ fun _ => rfl
        · exact .refl s id
      all_goals exact .refl s id

theorem State.actsOn_resolveTin {s : State} {tin : TinId} {e : OrderEntry} (h : s.jobOfTin tin = some e) (f : TinFate) :
    s.ActsOn e.id (s.resolveTin tin f) := by
  rw [State.resolveTin_of_job h]
  have counted := ((State.ActsOn.refl s e.id).modEntry
    (f := fun e => { e with job := e.job.map (fun j => j.resolve tin f) }) fun _ => rfl).placeJobStatus
  exact counted.trans (State.actsOn_settleJob _ e.id f)

/-! ## The state and the job a resolution leaves -/

/-- The state an entry is left in once a tin of its job is resolved with fate `f` and counted in `j` (R68). -/
def OrderEntry.settledSt (e : OrderEntry) (j : Job) (f : TinFate) : OrderState :=
  if e.filling then
    if f = .done then if j.done = e.tinCount then .ownComplete else e.st
    else if j.remakes < 3 then e.st else .ownFailed
  else if e.st = .ownCancelling ∧ j.unresolved = 0 then .cancelled
  else e.st

/-- The remakes its job is left with: a rejected or lost tin is remade three times (R68). -/
def OrderEntry.settledRemakes (e : OrderEntry) (j : Job) (f : TinFate) : Nat :=
  if e.filling ∧ f ≠ .done ∧ j.remakes < 3 then j.remakes + 1 else j.remakes

section
variable {e : OrderEntry} {j : Job} {f : TinFate}

theorem OrderEntry.settled_of_done (h : e.filling) :
    e.settledSt j .done = (if j.done = e.tinCount then .ownComplete else e.st) ∧ e.settledRemakes j .done = j.remakes :=
  ⟨by rw [OrderEntry.settledSt, if_pos h, if_pos rfl], if_neg fun hc => hc.2.1 rfl⟩

theorem OrderEntry.settled_of_remake (h : e.filling) (hf : f ≠ .done) (hr : j.remakes < 3) :
    e.settledSt j f = e.st ∧ e.settledRemakes j f = j.remakes + 1 :=
  ⟨by rw [OrderEntry.settledSt, if_pos h, if_neg hf, if_pos hr], if_pos ⟨h, hf, hr⟩⟩

theorem OrderEntry.settled_of_fail (h : e.filling) (hf : f ≠ .done) (hr : ¬ j.remakes < 3) :
    e.settledSt j f = .ownFailed ∧ e.settledRemakes j f = j.remakes :=
  ⟨by rw [OrderEntry.settledSt, if_pos h, if_neg hf, if_neg hr], if_neg fun hc => hr hc.2.2⟩

theorem OrderEntry.settled_of_cancelling (h : e.st = .ownCancelling) :
    e.settledSt j f = (if j.unresolved = 0 then .cancelled else .ownCancelling) ∧ e.settledRemakes j f = j.remakes := by
  simp [OrderEntry.settledSt, OrderEntry.settledRemakes, OrderEntry.filling, h]

theorem OrderEntry.settled_of_other (h : ¬ e.filling) (hc : e.st ≠ .ownCancelling) :
    e.settledSt j f = e.st ∧ e.settledRemakes j f = j.remakes :=
  ⟨by rw [OrderEntry.settledSt, if_neg h, if_neg fun h => hc h.1], if_neg fun hj => h hj.1⟩

end

/-- `t` holds for `id` the entry that a resolution leaves, up to the repeat timer of its job. -/
def State.SettledAt (t : State) (id : OrderId) (e : OrderEntry) (j : Job) (f : TinFate) : Prop :=
  ∃ e' r, t.entry id = some e' ∧ e'.st = e.settledSt j f ∧ e'.job = some { j with remakes := e.settledRemakes j f, repeatTime := r } ∧
    (e.filling → f ≠ .done → 3 ≤ j.remakes → e'.retention = some 0 ∧ t.seg.prompt.order ≠ some id)

/-- An entry just changed, with its JOB STATUS placed. -/
theorem State.entry_placeJobStatus_modEntry {s : State} {id : OrderId} {e : OrderEntry} (he : s.entry id = some e)
    {f : OrderEntry → OrderEntry} (hf : ∀ e, (f e).id = e.id) (ho : (f e).order = e.order) {j : Job}
    (hj : (f e).job = some j) (hst : (OrderState.jobState (f e).st).isSome) :
    ((s.modEntry id f).placeJobStatus id).entry id = some { f e with job := some { j with repeatTime := 0 } } := by
  obtain ⟨st, hst⟩ := Option.isSome_iff_exists.mp hst
  rw [State.placeJobStatus_modEntry he hf ho hj hst]
  obtain ⟨-, -, hentry⟩ := State.setsEntry_statusPlaced (s := s.place (.jobStatus (jobStatusMsg s.self e j st))) he hf hj
  exact hentry

/-- R68 leaves the entry in the state, and with the job, that `settledSt` and `settledRemakes` say. -/
theorem State.settleJob_settles {s : State} {id : OrderId} {e : OrderEntry} {j : Job} (he : s.entry id = some e)
    (hj : e.job = some j) (f : TinFate) : (s.settleJob id f).SettledAt id e j f := by
  have hkept : ¬ (e.filling ∧ f ≠ .done) → e.settledSt j f = e.st → e.settledRemakes j f = j.remakes → s.SettledAt id e j f :=
    fun hno hst hjob => ⟨e, j.repeatTime, he, hst.symm, by rw [hjob, hj], fun hfill hf _ => absurd ⟨hfill, hf⟩ hno⟩
  by_cases hfill : e.filling
  · by_cases hf : f = .done
    · subst hf
      obtain ⟨hst, hjob⟩ := OrderEntry.settled_of_done (j := j) hfill
      rw [State.settleJob_of_done he hj hfill]
      by_cases hlast : j.done = e.tinCount
      · rw [if_pos hlast] at hst ⊢
        exact ⟨_, 0, State.entry_placeJobStatus_modEntry he (f := fun e => e.finish .ownComplete) (fun _ => rfl) rfl hj rfl,
          hst.symm, by rw [hjob], fun _ h => absurd rfl h⟩
      · rw [if_neg hlast] at hst ⊢
        exact hkept (fun h => h.2 rfl) hst hjob
    · by_cases hr : j.remakes < 3
      · obtain ⟨hst, hjob⟩ := OrderEntry.settled_of_remake hfill hf hr
        rw [State.settleJob_of_remake he hj hfill hf hr]
        exact ⟨_, 0, State.entry_placeJobStatus_modEntry he
          (f := fun e => { e with job := some { j with remakes := j.remakes + 1 } }) (fun _ => rfl) rfl rfl
          (by rcases hfill with h | h <;> rw [h] <;> rfl), hst.symm, by rw [hjob], fun _ _ h => absurd h (Nat.not_le.mpr hr)⟩
      · obtain ⟨hst, hjob⟩ := OrderEntry.settled_of_fail hfill hf hr
        rw [State.settleJob_of_fail he hj hfill hf hr,
          State.placeJobStatus_withdrawn he (f := fun e => e.finish .ownFailed) (fun _ => rfl) rfl hj rfl]
        obtain ⟨-, -, hentry⟩ := State.setsEntry_statusPlaced
          (s := (s.withdrawPrompt id).place (.jobStatus (jobStatusMsg s.self e j .failed)))
          ((s.entry_withdrawPrompt id id).trans he) (f := fun e => e.finish .ownFailed) (fun _ => rfl) hj
        exact ⟨_, 0, hentry, hst.symm, by rw [hjob], fun _ _ _ => ⟨rfl, s.withdrawPrompt_order id⟩⟩
  · by_cases hcan : e.st = .ownCancelling
    · obtain ⟨hst, hjob⟩ := OrderEntry.settled_of_cancelling (j := j) (f := f) hcan
      rw [State.settleJob_of_cancelling he hj hcan]
      by_cases hall : j.unresolved = 0
      · rw [if_pos hall] at hst ⊢
        exact ⟨_, 0, State.entry_placeJobStatus_modEntry he (f := fun e => e.finish .cancelled) (fun _ => rfl) rfl hj rfl,
          hst.symm, by rw [hjob], fun h => absurd h hfill⟩
      · rw [if_neg hall] at hst ⊢
        exact hkept (fun h => hfill h.1) (hst.trans hcan.symm) hjob
    · obtain ⟨hst, hjob⟩ := OrderEntry.settled_of_other (j := j) (f := f) hfill hcan
      rw [State.settleJob_of_other he hj hfill hcan]
      exact hkept (fun h => hfill h.1) hst hjob

/-! ## A tin resolved (R67) -/

/-- A JOB STATUS placed changes of an own job the repeat timer alone. -/
theorem State.entry_placeJobStatus {s : State} {id : OrderId} {e : OrderEntry} {j : Job} (he : s.entry id = some e)
    (hj : e.job = some j) : ∃ r, (s.placeJobStatus id).entry id = some { e with job := some { j with repeatTime := r } } := by
  cases hst : OrderState.jobState e.st with
  | some st =>
    rw [State.placeJobStatus_eq he hj hst]
    obtain ⟨-, -, hentry⟩ := State.setsEntry_statusPlaced (s := s.place (.jobStatus (jobStatusMsg s.self e j st))) he
      (f := fun e => e) (fun _ => rfl) hj
    exact ⟨0, hentry⟩
  | none =>
    refine ⟨j.repeatTime, ?_⟩
    simp only [State.placeJobStatus, he, hj, hst]
    rw [← hj]

/-- The tin is counted in its job, and R68 follows. -/
theorem State.resolveTin_settles {s : State} (hnd : (s.book.map OrderEntry.id).Nodup) {tin : TinId} {e : OrderEntry} {j : Job}
    (h : s.jobOfTin tin = some e) (hj : e.job = some j) (f : TinFate) :
    (s.resolveTin tin f).SettledAt e.id e (j.resolve tin f) f := by
  have he := State.entry_modEntry (State.entry_of_mem hnd (State.jobOfTin_mem h))
    (f := fun e => { e with job := e.job.map (fun j => j.resolve tin f) }) fun _ => rfl
  obtain ⟨r, hplaced⟩ := State.entry_placeJobStatus (j := j.resolve tin f) he (by rw [hj, Option.map_some])
  rw [State.resolveTin_of_job h]
  obtain ⟨e', r', hentry, hst, hjob, hfail⟩ := State.settleJob_settles hplaced rfl f
  exact ⟨e', r', hentry, hst, hjob, hfail⟩

/-- Settles O28: the tin is counted in its job, and the entry goes where `settledSt` says for the fate reported, or for
OVERDUE. -/
theorem tinResolutionSettlesJob : Obligations.TinResolutionSettlesJob := by
  unfold Obligations.TinResolutionSettlesJob
  intro src m s e j h hs hcell hnd
  have hreport : exec (.tinReport src m) s = .next (s.resolveTin m.tin (ReportResult.fate m.result)) :=
    (h.act_booked hs _).trans (congrArg _ (if_pos hcell))
  have hoverdue : exec (.tinOverdue m.tin) s = .next (s.resolveTin m.tin .overdue) := by
    simp only [exec]
    exact State.act_live _ h.live
  refine ⟨fun hno => ?_, fun ht hj hlt => ?_⟩
  · rw [hreport, hoverdue, State.resolveTin_of_unlisted hno, State.resolveTin_of_unlisted hno]
    exact ⟨rfl, rfl⟩
  · have hacts := State.actsOn_resolveTin ht (ReportResult.fate m.result)
    have hactsO := State.actsOn_resolveTin ht .overdue
    obtain ⟨e', r, hentry, hst, hjob, hfail⟩ := State.resolveTin_settles hnd ht hj (ReportResult.fate m.result)
    obtain ⟨o, r', hentryO, hstO, hjobO, -⟩ := State.resolveTin_settles hnd ht hj .overdue
    refine ⟨_, _, e', o, _, _, hreport, hoverdue, hacts.frame, hactsO.frame,
      fun i hi => ⟨hacts.other hi, hactsO.other hi⟩, hentry, hjob, hentryO, hjobO, ?_⟩
    obtain ⟨hdone, hrejected, hlost⟩ := j.resolve_report m.tin m.result
    have hreported := ReportResult.fate_ne_inFlight m.result
    have hflown : TinFate.overdue ≠ .inFlight := TinFate.noConfusion
    have hundone : TinFate.overdue ≠ .done := TinFate.noConfusion
    have remake := fun f => OrderEntry.settled_of_remake (e := e) (j := j.resolve m.tin f) (f := f)
    have fail := fun f => OrderEntry.settled_of_fail (e := e) (j := j.resolve m.tin f) (f := f)
    have cancelling := fun f => OrderEntry.settled_of_cancelling (e := e) (j := j.resolve m.tin f) (f := f)
    have other := fun f => OrderEntry.settled_of_other (e := e) (j := j.resolve m.tin f) (f := f)
    refine ⟨j.inFlight_resolve m.tin hreported, j.inFlight_resolve m.tin hflown, hdone, hrejected, hlost,
      rfl, rfl, rfl, rfl, rfl, fun hfill => ⟨fun hd => ?_, fun hd hr => ?_, fun hd hr => ?_, fun hr => ?_, fun hr => ?_⟩,
      fun hcan => ?_, fun hfailed => ?_⟩
    · rw [hst, ReportResult.fate_eq_done.mpr hd]
      obtain ⟨hst', hrem⟩ := OrderEntry.settled_of_done (j := j.resolve m.tin .done) hfill
      exact ⟨hrem, hst'⟩
    · obtain ⟨hst', hrem⟩ := remake _ hfill (mt ReportResult.fate_eq_done.mp hd) hr
      exact ⟨hst.trans hst', hrem⟩
    · obtain ⟨hst', hrem⟩ := fail _ hfill (mt ReportResult.fate_eq_done.mp hd) (Nat.not_lt.mpr hr)
      exact ⟨hst.trans hst', hrem, hfail hfill (mt ReportResult.fate_eq_done.mp hd) hr⟩
    · obtain ⟨hst', hrem⟩ := remake _ hfill hundone hr
      exact ⟨hstO.trans hst', hrem⟩
    · obtain ⟨hst', hrem⟩ := fail _ hfill hundone (Nat.not_lt.mpr hr)
      exact ⟨hstO.trans hst', hrem⟩
    · obtain ⟨hst', hrem⟩ := cancelling (ReportResult.fate m.result) hcan
      obtain ⟨hstO', hremO⟩ := cancelling .overdue hcan
      simp only [j.unresolved_resolve m.tin hreported hlt] at hst'
      simp only [j.unresolved_resolve m.tin hflown hlt] at hstO'
      exact ⟨hrem, hremO, by rw [hst, hst', hstO, hstO'], hstO.trans hstO'⟩
    · have hno : ¬ e.filling := by rw [OrderEntry.filling, hfailed]; simp
      have hnot : e.st ≠ .ownCancelling := by rw [hfailed]; exact OrderState.noConfusion
      obtain ⟨hst', hrem⟩ := other (ReportResult.fate m.result) hno hnot
      obtain ⟨hstO', hremO⟩ := other .overdue hno hnot
      exact ⟨hst.trans (hst'.trans hfailed), hstO.trans (hstO'.trans hfailed), hrem, hremO⟩

end Sys2Proof.Machine
end

/-! # Proofs: the load gate (O29) -/

section
namespace Sys2Proof.Machine

/-! ## The jobs that ask for a load, in load order (R65) -/

theorem OrderEntry.asksLoad_iff (e : OrderEntry) : e.asksLoad = true ↔
    e.st = .ownActive ∧ ∃ j, e.job = some j ∧ j.loaded < e.tinCount + j.remakes := by
  cases hj : e.job with
  | none => simp [OrderEntry.asksLoad, hj]
  | some j => simp [OrderEntry.asksLoad, OrderEntry.toLoad, hj]

/-- `e` comes before `a` in load order, and not by the order of the book alone. -/
def OrderEntry.Leads (e a : OrderEntry) : Prop := e.before a = true ∧ a.before e = false

theorem OrderEntry.leads_of {e a : OrderEntry} (h : (e.urgent = true ∧ a.urgent = false) ∨
    (e.urgent = a.urgent ∧ e.claimedAt < a.claimedAt)) : e.Leads a := by
  rcases h with ⟨he, ha⟩ | ⟨hu, hlt⟩
  · simp [OrderEntry.Leads, OrderEntry.before, he, ha]
  · simp [OrderEntry.Leads, OrderEntry.before, hu, hlt, Nat.le_of_lt hlt]

/-- The jobs of a list in load order. -/
def loadSorted (l : List OrderEntry) : List OrderEntry := l.foldr insertLoad []

theorem State.loadOrder_eq (s : State) : s.loadOrder = loadSorted (s.book.filter OrderEntry.asksLoad) := rfl

theorem mem_loadSorted {l : List OrderEntry} {a : OrderEntry} : a ∈ loadSorted l ↔ a ∈ l := by
  induction l with
  | nil => exact Iff.rfl
  | cons b l ih => rw [loadSorted, List.foldr_cons, mem_insertLoad, ← loadSorted, ih, List.mem_cons]

theorem length_insertLoad (e : OrderEntry) (l : List OrderEntry) : (insertLoad e l).length = l.length + 1 := by
  induction l with
  | nil => rfl
  | cons a l ih =>
    unfold insertLoad
    split
    · rfl
    · rw [List.length_cons, ih, List.length_cons]

theorem length_loadSorted (l : List OrderEntry) : (loadSorted l).length = l.length := by
  induction l with
  | nil => rfl
  | cons b l ih => rw [loadSorted, List.foldr_cons, length_insertLoad, ← loadSorted, ih, List.length_cons]

theorem insertLoad_first {e : OrderEntry} {l : List OrderEntry} (h : ∀ a ∈ l, e.before a = true) :
    insertLoad e l = e :: l := by
  cases l with
  | nil => rfl
  | cons a l => exact if_pos (h a List.mem_cons_self)

theorem insertLoad_behind {e a : OrderEntry} (h : a.before e = false) (l : List OrderEntry) :
    insertLoad a (e :: l) = e :: insertLoad a l := if_neg (ne_true_of_eq_false h)

/-- A job that leads all the others comes first, and the others follow in their own order. -/
theorem loadSorted_leader {e : OrderEntry} {pre post : List OrderEntry} (h : ∀ a ∈ pre ++ post, e.Leads a) :
    loadSorted (pre ++ e :: post) = e :: loadSorted (pre ++ post) := by
  induction pre with
  | nil =>
    exact insertLoad_first fun a ha => (h a (mem_loadSorted.mp ha)).1
  | cons b pre ih =>
    have hrest := ih fun a ha => h a (List.mem_cons_of_mem b ha)
    rw [List.cons_append, loadSorted, List.foldr_cons, ← loadSorted, hrest,
      insertLoad_behind (h b List.mem_cons_self).2]
    rfl

/-- With the leader of the load order out of it, the rest of the order is what is left (R65). -/
theorem State.loadOrder_leader {s : State} (hnd : (s.book.map OrderEntry.id).Nodup) {e : OrderEntry} (he : e ∈ s.book)
    (hask : e.asksLoad = true) (hlead : ∀ a ∈ s.book, a.asksLoad = true → a.id ≠ e.id → e.Leads a)
    {f : OrderEntry → OrderEntry} (hf : (f e).asksLoad = false) :
    s.loadOrder = e :: (s.modEntry e.id f).loadOrder ∧
      ∀ a ∈ (s.modEntry e.id f).loadOrder, a ∈ s.book ∧ a.asksLoad = true ∧ a.id ≠ e.id := by
  obtain ⟨pre, post, hbook⟩ := List.append_of_mem he
  have hne : ∀ a ∈ pre ++ post, a.id ≠ e.id := by
    rw [hbook, List.map_append, List.map_cons, List.nodup_middle, ← List.map_append] at hnd
    exact fun a ha hid => (List.nodup_cons.mp hnd).1 (hid ▸ List.mem_map_of_mem ha)
  have hothers : ∀ a ∈ pre.filter OrderEntry.asksLoad ++ post.filter OrderEntry.asksLoad,
      a ∈ s.book ∧ a.asksLoad = true ∧ a.id ≠ e.id := by
    intro a ha
    rw [← List.filter_append, List.mem_filter] at ha
    obtain ⟨hmem, ha'⟩ := ha
    refine ⟨?_, ha', hne a hmem⟩
    rw [hbook]
    exact (List.mem_append.mp hmem).elim (List.mem_append_left _) fun h => List.mem_append_right _ (List.mem_cons_of_mem e h)
  have hsame : ∀ l : List OrderEntry, (∀ a ∈ l, a.id ≠ e.id) → l.map (fun a => if a.id == e.id then f a else a) = l :=
    fun l hl => (List.map_congr_left fun a ha => if_neg (mt beq_iff_eq.mp (hl a ha))).trans (List.map_id' l)
  have hafter : (s.modEntry e.id f).book = pre ++ f e :: post := by
    rw [State.modEntry, hbook, List.map_append, List.map_cons, hsame pre fun a ha => hne a (List.mem_append_left _ ha),
      hsame post fun a ha => hne a (List.mem_append_right _ ha), if_pos (beq_self_eq_true e.id)]
  have hrest : (s.modEntry e.id f).loadOrder =
      loadSorted (pre.filter OrderEntry.asksLoad ++ post.filter OrderEntry.asksLoad) := by
    rw [State.loadOrder_eq, hafter, List.filter_append, List.filter_cons_of_neg (ne_true_of_eq_false hf)]
  rw [hrest]
  refine ⟨?_, fun a ha => hothers a (mem_loadSorted.mp ha)⟩
  rw [State.loadOrder_eq, hbook, List.filter_append, List.filter_cons_of_pos hask]
  refine loadSorted_leader fun a ha => ?_
  obtain ⟨hmem, ha', hid⟩ := hothers a ha
  exact hlead a hmem ha' hid

/-! ## The gates tried (R65) -/

/-- A prompt judged stands for the order that it stood for. -/
theorem State.judgePrompt_order (s : State) : s.judgePrompt.seg.prompt.order = s.seg.prompt.order := by
  by_cases h : s.seg.prompt.isRequested = false ∨ s.mayStand = false
  · rw [State.judgePrompt_waits h]
  · simp only [not_or, Bool.not_eq_false, LoadPrompt.isRequested_iff] at h
    obtain ⟨⟨id, hp⟩, hm⟩ := h
    rw [State.judgePrompt_stands hp hm, hp]
    rfl

/-- `t` differs from `s` in the send queue, in the entries of `ids`, in the panel, and in a prompt, which is for one of
`ids` where it is new. -/
def State.GatesTried (s : State) (ids : List OrderId) (t : State) : Prop :=
  (∃ b k g n p, t = { s with bus := b, book := k, seg := { s.seg with prompt := g, serial := n }, panel := p }) ∧
  (∀ i, i ∉ ids → t.entry i = s.entry i) ∧
  ∀ i, t.seg.prompt.order = some i → i ∈ ids ∨ s.seg.prompt.order = some i

/-- The prompt requested for a job whose gate passes, and judged. -/
def State.request (s : State) (id : OrderId) : State :=
  State.judgePrompt { s with seg := { s.seg with prompt := .requested id } }

theorem State.request_change (s : State) (id : OrderId) :
    (∃ g n p, s.request id = { s with seg := { s.seg with prompt := g, serial := n }, panel := p }) ∧
    (s.request id).seg.prompt.order = some id := by
  obtain ⟨g, n, p, h⟩ := State.judgePrompt_change { s with seg := { s.seg with prompt := .requested id } }
  exact ⟨⟨g, n, p, h⟩, State.judgePrompt_order { s with seg := { s.seg with prompt := .requested id } }⟩

theorem State.tryGates_of_eligible {s : State} {e : OrderEntry} (h : s.eligibleEntry e = true) (l : List OrderEntry) :
    s.tryGates (e :: l) = s.request e.id := if_pos h

theorem State.tryGates_of_ineligible {s : State} {e : OrderEntry} (h : s.eligibleEntry e = false) (l : List OrderEntry) :
    s.tryGates (e :: l) = (s.blockJob e.id).tryGates l := if_neg (ne_true_of_eq_false h)

theorem State.gatesTried_tryGates (s : State) (l : List OrderEntry) : s.GatesTried (l.map OrderEntry.id) (s.tryGates l) := by
  induction l generalizing s with
  | nil => exact ⟨⟨_, _, _, _, _, rfl⟩, fun _ _ => rfl, fun _ => .inr⟩
  | cons e l ih =>
    cases hel : s.eligibleEntry e with
    | true =>
      rw [State.tryGates_of_eligible hel]
      obtain ⟨⟨g, n, p, h⟩, horder⟩ := s.request_change e.id
      refine ⟨⟨_, _, g, n, p, h⟩, fun i _ => by rw [h]; rfl, fun i hi => .inl ?_⟩
      rw [← Option.some.inj (horder.symm.trans hi)]
      exact List.mem_cons_self
    | false =>
      rw [State.tryGates_of_ineligible hel]
      obtain ⟨b, k, hblock, hother⟩ := s.toldOf_blockJob e.id
      obtain ⟨⟨b', k', g, n, p, h⟩, hkept, hprompt⟩ := ih (s.blockJob e.id)
      refine ⟨⟨b', k', g, n, p, by rw [h, hblock]⟩, fun i hi => ?_, fun i hi => ?_⟩
      · rw [List.map_cons, List.mem_cons, not_or] at hi
        exact (hkept i hi.2).trans (hother i hi.1)
      · rw [hblock] at hprompt
        exact (hprompt i (hblock ▸ hi)).imp_left (List.mem_cons_of_mem e.id)

/-- A job blocked places one notice at most. -/
theorem State.bus_blockJob (s : State) (id : OrderId) :
    (s.blockJob id).bus = s.bus ∨ ∃ n : Notice, (s.blockJob id).bus = s.bus.add n.queued := by
  unfold State.blockJob State.placeJobStatus
  split
  · exact .inl rfl
  · split
    · exact .inr ⟨_, rfl⟩
    · exact .inl rfl

/-- With room in the queue for a notice of each job, the gates drop none. -/
theorem State.queue_tryGates {l : List OrderEntry} {s : State} (h : s.bus.queue.length + l.length ≤ 16) :
    ∀ q ∈ s.bus.queue, q ∈ (s.tryGates l).bus.queue := by
  induction l generalizing s with
  | nil => exact fun q hq => hq
  | cons e l ih =>
    rw [List.length_cons] at h
    cases hel : s.eligibleEntry e with
    | true =>
      rw [State.tryGates_of_eligible hel]
      obtain ⟨⟨g, n, p, hreq⟩, -⟩ := s.request_change e.id
      rw [hreq]
      exact fun q hq => hq
    | false =>
      rw [State.tryGates_of_ineligible hel]
      rcases s.bus_blockJob e.id with hb | ⟨n, hb⟩
      · exact fun q hq => ih (by rw [hb]; omega) q (hb ▸ hq)
      · rw [Bus.add_of_room _ (by omega)] at hb
        refine fun q hq => ih ?_ q (by rw [hb]; exact mem_insertQueued.mpr (.inr hq))
        rw [hb, insertQueued_length]
        omega

/-! ## LOAD_GATE -/

/-- An entry whose load gate fails (R65). -/
def OrderEntry.blocked (e : OrderEntry) : OrderEntry := { e with st := .ownBlocked }

section
variable {s : State} {e : OrderEntry} {j : Job}

theorem State.blockJob_eq {id : OrderId} (he : s.entry id = some e) (hj : e.job = some j) : s.blockJob id =
    (s.place (.jobStatus (jobStatusMsg s.self e j .blocked))).modEntry id (OrderEntry.statusPlaced ∘ OrderEntry.blocked) :=
  State.placeJobStatus_modEntry he (f := OrderEntry.blocked) (fun _ => rfl) rfl hj rfl

/-- The entry whose gate failed is OWN_BLOCKED, and its JOB STATUS BLOCKED is placed. -/
theorem State.setsEntry_blockJob {id : OrderId} (he : s.entry id = some e) (hj : e.job = some j) :
    (s.place (.jobStatus (jobStatusMsg s.self e j .blocked))).SetsEntry id
      { e with st := .ownBlocked, job := some { j with repeatTime := 0 } } (s.blockJob id) := by
  rw [State.blockJob_eq he hj]
  exact State.setsEntry_statusPlaced (s := s.place (.jobStatus (jobStatusMsg s.self e j .blocked))) he
    (f := OrderEntry.blocked) (fun _ => rfl) hj

/-- The sample read at the gate and the failure of the gate do not touch one another. -/
theorem State.blockJob_latch {id : OrderId} (he : s.entry id = some e) (hj : e.job = some j) (x : Sample) :
    (s.latch x).blockJob id = (s.blockJob id).latch x := by
  rw [State.blockJob_eq (s := s.latch x) he hj, State.blockJob_eq he hj]
  rfl

/-- The first job blocked leaves the load order with the others in it. -/
theorem State.loadOrder_blockJob (hnd : (s.book.map OrderEntry.id).Nodup) (he : e ∈ s.book) (hj : e.job = some j)
    (hask : e.asksLoad = true) (hlead : ∀ a ∈ s.book, a.asksLoad = true → a.id ≠ e.id → e.Leads a) :
    s.loadOrder = e :: (s.blockJob e.id).loadOrder ∧
      ∀ a ∈ (s.blockJob e.id).loadOrder, a ∈ s.book ∧ a.asksLoad = true ∧ a.id ≠ e.id := by
  rw [State.blockJob_eq (State.entry_of_mem hnd he) hj]
  exact State.loadOrder_leader (s := s.place (.jobStatus (jobStatusMsg s.self e j .blocked))) hnd he hask hlead
    (f := OrderEntry.statusPlaced ∘ OrderEntry.blocked) rfl

/-- With room for a notice of each job asked, the JOB STATUS BLOCKED of the first is still queued after the gates of the
others. -/
theorem State.placed_blockJob {id : OrderId} (he : s.entry id = some e) (hj : e.job = some j) (x : Sample)
    {l : List OrderEntry} (h : s.bus.queue.length + (l.length + 1) ≤ 16) :
    .jobStatus (jobStatusMsg s.self e j .blocked) ∈ (((s.blockJob id).latch x).tryGates l).bus.queue.map Queued.notice := by
  have hbus : ((s.blockJob id).latch x).bus =
      s.bus.add (Notice.jobStatus (jobStatusMsg s.self e j .blocked)).queued := by
    rw [State.blockJob_eq he hj]
    rfl
  rw [Bus.add_of_room _ (by omega)] at hbus
  refine List.mem_map_of_mem (f := Queued.notice) (State.queue_tryGates ?_
    (Notice.jobStatus (jobStatusMsg s.self e j .blocked)).queued ?_)
  · rw [hbus, insertQueued_length]
    omega
  · rw [hbus]
    exact mem_insertQueued.mpr (.inl rfl)

end

theorem LoadPrompt.isSet_eq_false {p : LoadPrompt} : p.isSet = false ↔ p = .none := by
  cases p <;> simp [LoadPrompt.isSet]

theorem exec_loadGate {s : State} (h : s.Live) (x : Sample) : exec (.loadGate x) s =
    .next (if s.dck.cell = .run ∧ s.seg.prompt = .none then (s.latch x).tryGates s.loadOrder else s.latch x) := by
  simp only [exec]
  refine State.act_next h (if_congr ?_ rfl rfl)
  rw [Bool.and_eq_true, Bool.not_eq_true', LoadPrompt.isSet_eq_false, State.running, beq_iff_eq]
  exact Iff.rfl

/-- Nothing is asked where no job asks for a load. -/
theorem State.loadOrder_eq_nil {s : State} (h : ∀ e ∈ s.book, e.asksLoad = false) : s.loadOrder = [] :=
  List.eq_nil_iff_forall_not_mem.mpr fun e he => by
    obtain ⟨hmem, hask⟩ := s.mem_loadOrder.mp he
    exact Bool.false_ne_true ((h e hmem).symm.trans hask)

theorem State.length_loadOrder_le (s : State) : s.loadOrder.length ≤ s.book.length := by
  rw [State.loadOrder_eq, length_loadSorted]
  exact List.length_filter_le ..

/-- Settles O29: the jobs that ask stand in load order with the first one in front; where its gate fails the blocked job
is out of the order, and what follows is the gate of the state that holds it blocked. -/
theorem loadGateTakesFirstJob : Obligations.LoadGateTakesFirstJob := by
  unfold Obligations.LoadGateTakesFirstJob
  refine fun x s h => ⟨fun hno => ?_, fun hrun hnone hnd e j he hst hj hmore hfirst => ?_⟩
  · rw [exec_loadGate h]
    rcases hno with hrun | hset | hfull
    · rw [if_neg fun hc => hrun hc.1]
    · rw [if_neg fun hc => hset hc.2]
    · have hnil : s.loadOrder = [] := State.loadOrder_eq_nil fun e he => by
        rw [← Bool.not_eq_true, OrderEntry.asksLoad_iff]
        rintro ⟨hst, j, hj, hlt⟩
        exact absurd (hfull e he hst j hj) (Nat.not_le.mpr hlt)
      rw [hnil, State.tryGates, ite_self]
  · have hask : e.asksLoad = true := e.asksLoad_iff.mpr ⟨hst, j, hj, hmore⟩
    have hlead : ∀ a ∈ s.book, a.asksLoad = true → a.id ≠ e.id → e.Leads a := fun a ha haask hid => by
      obtain ⟨hast, b, hb, hlt⟩ := a.asksLoad_iff.mp haask
      refine OrderEntry.leads_of (((hfirst a ha hast b hb hlt).resolve_left hid).imp_right fun hc => ?_)
      simpa [OrderEntry.claimedAt, hj, hb] using hc
    have hentry := State.entry_of_mem hnd he
    obtain ⟨hframe, hother, hblocked⟩ := State.setsEntry_blockJob hentry hj
    obtain ⟨horder, hrest⟩ := State.loadOrder_blockJob hnd he hj hask hlead
    have hgate : exec (.loadGate x) s = .next ((s.latch x).tryGates (e :: (s.blockJob e.id).loadOrder)) := by
      rw [exec_loadGate h, if_pos ⟨hrun, hnone⟩, ← horder]
    rw [hgate]
    refine ⟨_, rfl, fun hel => ?_, fun hel => ?_⟩
    · rw [State.tryGates_of_eligible (s := s.latch x) hel]
      obtain ⟨⟨g, n, p, hreq⟩, hprompt⟩ := (s.latch x).request_change e.id
      exact ⟨hprompt, by rw [hreq]; rfl⟩
    · rw [State.tryGates_of_ineligible (s := s.latch x) hel, State.blockJob_latch hentry hj]
      obtain ⟨⟨k, l, g, n, p, ht⟩, hkept, hprompt⟩ :=
        ((s.blockJob e.id).latch x).gatesTried_tryGates (s.blockJob e.id).loadOrder
      have hnot : e.id ∉ (s.blockJob e.id).loadOrder.map OrderEntry.id := fun hmem => by
        obtain ⟨a, ha, hid⟩ := List.mem_map.mp hmem
        obtain ⟨-, -, hne⟩ := hrest a ha
        exact hne hid
      refine ⟨?_, fun hp => ?_, (hkept _ hnot).trans hblocked, fun i hi => ?_, fun hroom => ?_,
        _, hframe, (hkept _ hnot).symm, hother, ?_⟩
      · rw [ht, hframe]
        rfl
      · have hbare : ((s.blockJob e.id).latch x).seg.prompt = .none := by rw [hframe]; exact hnone
        rcases hprompt _ hp with hmem | hstood
        · exact hnot hmem
        · rw [hbare] at hstood
          exact Option.some_ne_none e.id hstood.symm
      · have hactive : ∀ a ∈ s.book, a.asksLoad = true → i ≠ a.id := by
          rintro a ha haask rfl
          exact hi a (State.entry_of_mem hnd ha) (a.asksLoad_iff.mp haask).1
        refine (hkept i fun hmem => ?_).trans (hother i (hactive e he hask))
        obtain ⟨a, ha, hid⟩ := List.mem_map.mp hmem
        obtain ⟨hmema, haask, -⟩ := hrest a ha
        exact hactive a hmema haask hid.symm
      · have hlen := s.length_loadOrder_le
        rw [horder, List.length_cons] at hlen
        exact State.placed_blockJob hentry hj x (by omega)
      · have hlive : (s.blockJob e.id).Live := by rw [hframe]; exact h
        have hgate' : (s.blockJob e.id).dck.cell = .run ∧ (s.blockJob e.id).seg.prompt = .none := by
          rw [hframe]
          exact ⟨hrun, hnone⟩
        rw [exec_loadGate hlive, if_pos hgate']

end Sys2Proof.Machine
end

/-! # Proofs: steps and strokes (O31) -/

section
namespace Sys2Proof.Machine

/-! ## The nearest integer (R77) -/

/-- The nearest integer to `a / b` is no more than a half above it, and less than a half below it. -/
theorem nearest_bounds (a : Nat) {b : Nat} (h : 0 < b) :
    2 * (nearest a b * b) ≤ 2 * a + b ∧ 2 * a < 2 * (nearest a b * b) + b := by
  have hdiv := Nat.div_add_mod (2 * a + b) (2 * b)
  have hmod := Nat.mod_lt (2 * a + b) (show 0 < 2 * b by omega)
  have hmul : 2 * b * nearest a b = 2 * (nearest a b * b) := by ring
  rw [← nearest, hmul] at hdiv
  omega

theorem State.rawSteps_eq (s : State) (n nominal : Nat) : s.rawSteps n nominal =
    (2 * nominal * 1000 + (s.canister n).strength * (s.pumpCfg n).d) / (2 * (s.canister n).strength * (s.pumpCfg n).d) := by
  rw [State.rawSteps, stepsFor, nearest, ← Nat.mul_assoc, ← Nat.mul_assoc]

/-! ## The trace rule (R78) -/

@[simp] theorem traceSteps_zero (m : Nat) : traceSteps 0 m = 0 := rfl

theorem traceSteps_of_pos {n : Nat} (h : 1 ≤ n) (m : Nat) : traceSteps n m = max n m := if_neg (by omega)

theorem traceSteps_of_le {n m : Nat} (h : m ≤ n) : traceSteps n m = n := by
  obtain rfl | hn := Nat.eq_zero_or_pos n
  · rfl
  · rw [traceSteps_of_pos hn, Nat.max_eq_left h]

theorem raisedBy_iff (n m : Nat) : raisedBy n m = true ↔ 1 ≤ n ∧ n < m := by
  simp [raisedBy, Nat.one_le_iff_ne_zero]

/-! ## The strokes (R79) -/

/-- `ceilDiv n d` is the least number of parts of `d` that hold `n`. -/
theorem ceilDiv_bounds (n : Nat) {d : Nat} (h : 1 ≤ d) : ceilDiv n d * d < n + d ∧ n ≤ ceilDiv n d * d := by
  have hdiv := Nat.div_add_mod (n + d - 1) d
  have hmod := Nat.mod_lt (n + d - 1) h
  rw [← ceilDiv, Nat.mul_comm] at hdiv
  omega

theorem eq_ceilDiv {n d c : Nat} (hle : n ≤ c * d) (hlt : c * d < n + d) : ceilDiv n d = c := by
  obtain rfl | hd := Nat.eq_zero_or_pos d
  · omega
  obtain ⟨hlt', hle'⟩ := ceilDiv_bounds n hd
  have hup : ceilDiv n d < c + 1 := Nat.lt_of_mul_lt_mul_right (a := d) (by rw [Nat.succ_mul]; omega)
  have hdown : c < ceilDiv n d + 1 := Nat.lt_of_mul_lt_mul_right (a := d) (by rw [Nat.succ_mul]; omega)
  omega

theorem strokeCount_pos {n d : Nat} (hn : 1 ≤ n) (hd : 1 ≤ d) : 1 ≤ strokeCount n d := by
  have hle := (ceilDiv_bounds n hd).2
  rw [← strokeCount] at hle
  by_contra h
  obtain h0 : strokeCount n d = 0 := by omega
  rw [h0, Nat.zero_mul] at hle
  omega

section
variable {n k : Nat}

theorem length_strokesOf (h : 1 ≤ k) : (strokesOf n k).length = k := by
  have hmod := Nat.mod_lt n h
  simp only [strokesOf, List.length_append, List.length_replicate]
  omega

theorem sum_strokesOf (h : 1 ≤ k) : (strokesOf n k).sum = n := by
  have hmod := Nat.mod_lt n h
  obtain ⟨j, hj⟩ : ∃ j, k = n % k + j := ⟨k - n % k, by omega⟩
  have hsum : n % k * (n / k + 1) + j * (n / k) = n := by
    calc n % k * (n / k + 1) + j * (n / k) = (n % k + j) * (n / k) + n % k := by ring
      _ = k * (n / k) + n % k := by rw [← hj]
      _ = n := Nat.div_add_mod n k
  simp only [strokesOf, List.sum_append, List.sum_replicate, smul_eq_mul]
  rwa [show k - n % k = j by omega]

/-- A stroke is of the quotient's steps, or of one more where the steps do not divide evenly. -/
theorem mem_strokesOf {c : Nat} (h : c ∈ strokesOf n k) : c = n / k + 1 ∧ n % k ≠ 0 ∨ c = n / k := by
  simp only [strokesOf, List.mem_append, List.mem_replicate] at h
  obtain ⟨hr, rfl⟩ | ⟨-, rfl⟩ := h
  · exact .inl ⟨rfl, hr⟩
  · exact .inr rfl

theorem le_of_mem_strokesOf {c d : Nat} (hn : n ≤ k * d) (h : c ∈ strokesOf n k) : c ≤ d := by
  have hdiv : n / k ≤ d := Nat.div_le_of_le_mul hn
  obtain ⟨rfl, hr⟩ | rfl := mem_strokesOf h
  · have hsum := Nat.div_add_mod n k
    have hlt : n / k < d := Nat.lt_of_mul_lt_mul_left (a := k) (by omega)
    exact hlt
  · exact hdiv

theorem strokesOf_near {a b : Nat} (ha : a ∈ strokesOf n k) (hb : b ∈ strokesOf n k) : a ≤ b + 1 := by
  obtain ⟨rfl, -⟩ | rfl := mem_strokesOf ha <;> obtain ⟨rfl, -⟩ | rfl := mem_strokesOf hb <;> omega

theorem getElem?_strokesOf {i : Nat} (h : i < k) :
    (strokesOf n k)[i]? = some (if i < n % k then n / k + 1 else n / k) := by
  rw [strokesOf, List.getElem?_append, List.length_replicate]
  split
  · next hi => rw [List.getElem?_replicate_of_lt hi]
  · rw [List.getElem?_replicate_of_lt (by omega)]

end

/-! ## Candidates and reach (R79, R82) -/

theorem State.levelClass_of_unknown {s : State} {n : Nat} (h : (s.canister n).stock = none) :
    s.levelClass n = .notFitted ∨ s.levelClass n = .unknown := by
  unfold State.levelClass
  cases s.fitted n with
  | none => exact .inl rfl
  | some c => exact .inr (by simp [Canister.known, h])

theorem State.candidate_iff (s : State) (n colorant : Nat) : s.candidate n colorant = true ↔
    s.usable n = true ∧ ∃ c, s.fitted n = some c ∧ c.colorant = colorant := by
  unfold State.candidate
  cases s.fitted n with
  | none => simp
  | some c => simp [and_comm]

theorem State.usable_iff (s : State) (n : Nat) : s.usable n = true ↔
    (s.levelClass n = .full ∨ s.levelClass n = .ok ∨ s.levelClass n = .low) ∧ (s.canister n).pendingLock = false := by
  rw [State.usable, Bool.and_eq_true, LevelClass.drawable_iff, Bool.not_eq_true']

theorem State.canTake_iff (s : State) (n nominal : Nat) : s.canTake n nominal = true ↔ s.stepsAt n nominal = 0 ∨
    s.strokesAt n (s.stepsAt n nominal) ≤ 32 ∧ s.stepsAt n nominal * (s.pumpCfg n).d ≤ s.available n := by
  simp [State.canTake]

/-- Settles O31: the bounds of `nearest` and `ceilDiv`, and the strokes as two runs of equal ones. -/
theorem stepsAndStrokes : Obligations.StepsAndStrokes := by
  unfold Obligations.StepsAndStrokes
  refine ⟨?_, fun steps minShot S hS => ⟨rfl, fun h1 hlt => ?_, traceSteps_of_le, raisedBy_iff _ _, fun h1 => ?_,
    fun s n nominal hk h0 => ?_, fun k d h1 hk => ?_⟩⟩
  · rintro s n nominal str d colorant rfl rfl
    refine ⟨fun hstr hd => ⟨s.rawSteps_eq n nominal, nearest_bounds _ (Nat.mul_pos hstr hd)⟩, rfl, fun hstock => ?_⟩
    rw [← Bool.not_eq_true, State.candidate_iff, State.usable_iff]
    obtain h | h := State.levelClass_of_unknown hstock <;> simp [h]
  · rw [traceSteps_of_pos h1, Nat.max_eq_right hlt.le]
  · have hk := strokeCount_pos h1 hS
    obtain ⟨hlt, hle⟩ := ceilDiv_bounds steps hS
    exact ⟨_, rfl, hlt, hle, hk, length_strokesOf hk, sum_strokesOf hk, fun c => le_of_mem_strokesOf hle,
      fun a ha b hb => strokesOf_near ha hb, fun i => getElem?_strokesOf⟩
  · rw [← Bool.not_eq_true, State.canTake_iff]
    omega
  · rw [List.sum_map_mul_right, List.map_id', sum_strokesOf (hk ▸ strokeCount_pos h1 hS)]

end Sys2Proof.Machine
end

/-! # Proofs: the mix time (O33) -/

section
namespace Sys2Proof.Machine

/-- The figures of a size are those of its row (R39). -/
theorem shakeTimeOf_eq {size : Nat} {r : SizeRow} (h : sizeRow size = some r) : shakeTimeOf size = r.shakeTime := by
  rw [shakeTimeOf, h]
  rfl

/-- The base shake time of no size reaches the cap (R39, R95). -/
theorem shakeTime_le {size : Nat} {r : SizeRow} (h : sizeRow size = some r) : r.shakeTime ≤ 300 := by
  unfold sizeRow at h
  split at h <;> cases h <;> decide

theorem mixTime_of_normal (size total : Nat) :
    mixTime size total (some .normal) = min 300 (shakeTimeOf size + 3 * ceilDiv total 2000000) := rfl

theorem mixTime_of_gentle (size total : Nat) :
    mixTime size total (some .gentle) = min 300 (shakeTimeOf size + 3 * ceilDiv total 2000000 * 2 / 3) := rfl

theorem mixTime_of_empty (size : Nat) (shake : Option ShakeClass) : mixTime size 0 shake = min 300 (shakeTimeOf size) := by
  rcases shake with - | - | - <;> rfl

theorem Tin.finish_mix (t : Tin) : t.finish.mix = some (mixTime t.size t.total t.shake) := rfl

/-- The bay runs a tin for the mix time of its record (R196). -/
theorem Shaker.mixMs_of_known {k : Shaker} {t : Tin} {m : Nat} (h : k.tin = some (.known t)) (hm : t.mix = some m) :
    k.mixMs = m * 1000 := by
  simp [Shaker.mixMs, h, knownTin, hm]

/-- Settles O33: the increment by the volume begun, for each shake class. -/
theorem mixTimeFromTotal : Obligations.MixTimeFromTotal := by
  unfold Obligations.MixTimeFromTotal
  intro t r c hr hle hlt
  have hceil : ceilDiv t.total 2000000 = c := eq_ceilDiv hle hlt
  have htime := shakeTimeOf_eq hr
  refine ⟨rfl, rfl, fun h => ?_, fun h => ?_, fun h => ?_, fun k hk => ?_⟩
  · rw [Tin.finish_mix, h, mixTime_of_normal, hceil, htime]
  · rw [Tin.finish_mix, h, mixTime_of_gentle, hceil, htime]
  · rw [Tin.finish_mix, h, mixTime_of_empty, htime, Nat.min_eq_right (shakeTime_le hr)]
  · rw [Shaker.mixMs_of_known hk t.finish_mix, Tin.finish_mix]
    rfl

end Sys2Proof.Machine
end

/-! # Proofs: level classes and the choice of a canister (O32) -/

section
namespace Sys2Proof.Machine

variable (s : State)

/-! ## The level class (R101) -/

theorem State.available_eq {s : State} {n : Nat} {c : CanisterCfg} {k : Stock} (hc : s.fitted n = some c)
    (hk : (s.canister n).stock = some k) : s.available n = k.level - c.dead * 1000 - (s.canister n).reserved := by
  simp only [State.available, hc, Canister.level, hk, Option.map_some, Option.getD_some]

section
variable {s} {n : Nat} {c : CanisterCfg}

theorem State.levelClass_of_no_stock (hc : s.fitted n = some c) (h : (s.canister n).stock = none) :
    s.levelClass n = .unknown := by
  simp [State.levelClass, hc, Canister.known, h]

/-- The class of a canister with a known level: the lock comes first, then the volume available. -/
theorem State.levelClass_of_stock {k : Stock} (hc : s.fitted n = some c) (hk : (s.canister n).stock = some k) :
    s.levelClass n =
      if (s.canister n).lock = true ∨ (s.pump n).st = .locked ∨ (s.pump n).st = .unusable then .locked
      else if s.available n < (s.pumpCfg n).minShot * (s.pumpCfg n).d then .empty
      else if s.available n < c.lowMark * 1000 then .low
      else if c.capacity * 500 ≤ k.level then .full
      else .ok := by
  simp [State.levelClass, hc, Canister.known, Canister.level, hk, or_assoc]

end

/-! ## The choice (R82) -/

/-- Canister `n` comes before `m` in the choice: the larger available volume, then the lower index. -/
def State.Beats (s : State) (n m : Nat) : Prop := s.available m < s.available n ∨ s.available m = s.available n ∧ n ≤ m

variable {s} in
theorem State.Beats.trans {a b c : Nat} (h : s.Beats a b) (h' : s.Beats b c) : s.Beats a c := by
  unfold State.Beats at *
  omega

variable {s} in
theorem State.Beats.antisymm {a b : Nat} (h : s.Beats a b) (h' : s.Beats b a) : a = b := by
  unfold State.Beats at *
  omega

/-- Of a canister and one of a higher index, the better one beats both. -/
theorem State.betterOf_some {b n : Nat} (h : b < n) :
    ∃ r, s.betterOf (some b) n = some r ∧ (r = b ∨ r = n) ∧ s.Beats r b ∧ s.Beats r n := by
  unfold State.Beats
  by_cases hlt : s.available b < s.available n
  · exact ⟨n, if_pos hlt, .inr rfl, .inl hlt, .inr ⟨rfl, le_rfl⟩⟩
  · exact ⟨b, if_neg hlt, .inl rfl, .inr ⟨rfl, le_rfl⟩, by omega⟩

theorem State.foldl_betterOf {l : List Nat} (hsort : l.Pairwise (· < ·)) {b : Nat} (hb : ∀ m ∈ l, b < m) :
    ∃ r, l.foldl s.betterOf (some b) = some r ∧ r ∈ b :: l ∧ ∀ m ∈ b :: l, s.Beats r m := by
  induction l generalizing b with
  | nil => exact ⟨b, rfl, by simp, fun m hm => by obtain rfl := List.mem_singleton.mp hm; exact .inr ⟨rfl, le_rfl⟩⟩
  | cons n l ih =>
    obtain ⟨hn, hl⟩ := List.pairwise_cons.mp hsort
    obtain ⟨hbn, hbl⟩ := List.forall_mem_cons.mp hb
    obtain ⟨q, hq, hmem, hqb, hqn⟩ := s.betterOf_some hbn
    obtain ⟨r, hr, hrmem, hbeats⟩ := ih hl (b := q) (by rcases hmem with rfl | rfl; exacts [hbl, hn])
    have hrq := hbeats q List.mem_cons_self
    refine ⟨r, by rw [List.foldl_cons, hq, hr], ?_, fun m hm => ?_⟩
    · rcases List.mem_cons.mp hrmem with rfl | hrl
      · rcases hmem with rfl | rfl <;> simp
      · simp [hrl]
    · simp only [List.mem_cons] at hm
      rcases hm with rfl | rfl | hm
      · exact hrq.trans hqb
      · exact hrq.trans hqn
      · exact hbeats m (List.mem_cons_of_mem _ hm)

/-- The canisters among which the choice is made (R82). -/
def State.choices (s : State) (colorant nominal : Nat) : List Nat :=
  (List.range 16).filter (fun n => s.candidate n colorant && s.canTake n nominal)

theorem State.choose_eq (colorant nominal : Nat) :
    s.choose colorant nominal = (s.choices colorant nominal).foldl s.betterOf none := rfl

theorem State.mem_choices {colorant nominal n : Nat} : n ∈ s.choices colorant nominal ↔
    n < 16 ∧ s.candidate n colorant = true ∧ s.canTake n nominal = true := by
  simp [State.choices]

/-- No canister is chosen where there is none to choose, and else the one that beats them all. -/
theorem State.choose_cases (colorant nominal : Nat) :
    s.choices colorant nominal = [] ∧ s.choose colorant nominal = none ∨
    ∃ r, s.choose colorant nominal = some r ∧ r ∈ s.choices colorant nominal ∧
      ∀ m ∈ s.choices colorant nominal, s.Beats r m := by
  have hsort : (s.choices colorant nominal).Pairwise (· < ·) := List.pairwise_lt_range.filter _
  rw [State.choose_eq]
  generalize s.choices colorant nominal = l at hsort
  cases l with
  | nil => exact .inl ⟨rfl, rfl⟩
  | cons b l =>
    obtain ⟨hb, hl⟩ := List.pairwise_cons.mp hsort
    exact .inr (s.foldl_betterOf hl hb)

theorem State.choose_eq_none (colorant nominal : Nat) :
    s.choose colorant nominal = none ↔ ∀ n, n ∉ s.choices colorant nominal := by
  rw [← List.eq_nil_iff_forall_not_mem]
  obtain ⟨hl, hnone⟩ | ⟨r, hr, hmem, -⟩ := s.choose_cases colorant nominal
  · simp [hl, hnone]
  · simp [hr, List.ne_nil_of_mem hmem]

theorem State.choose_eq_some (colorant nominal n : Nat) : s.choose colorant nominal = some n ↔
    n ∈ s.choices colorant nominal ∧ ∀ m ∈ s.choices colorant nominal, s.Beats n m := by
  obtain ⟨hl, hnone⟩ | ⟨r, hr, hmem, hbeats⟩ := s.choose_cases colorant nominal
  · simp [hl, hnone]
  · rw [hr, Option.some.injEq]
    exact ⟨by rintro rfl; exact ⟨hmem, hbeats⟩, fun ⟨hn, hall⟩ => (hbeats n hn).antisymm (hall r hmem)⟩

/-- Settles O32: the class by the order of the rule, the choice as the one that beats every other. -/
theorem canisterClassesAndChoice : Obligations.CanisterClassesAndChoice := by
  unfold Obligations.CanisterClassesAndChoice
  refine ⟨?_, fun s colorant nominal ok hok => ?_⟩
  · rintro s n c k hc rfl
    refine ⟨⟨fun h => ?_, State.levelClass_of_no_stock hc⟩, fun stock hstock => ?_, s.usable_iff n⟩
    · cases hk : (s.canister n).stock with
      | none => rfl
      | some k =>
        rw [State.levelClass_of_stock hc hk] at h
        split_ifs at h
    · rw [State.levelClass_of_stock hc hstock]
      refine ⟨⟨fun h => ?_, fun h => if_pos h⟩, fun hlock h1 h2 => ?_⟩
      · by_contra hn
        rw [if_neg hn] at h
        split_ifs at h
      · have hopen : ¬ ((s.canister n).lock = true ∨ (s.pump n).st = .locked ∨ (s.pump n).st = .unusable) := by
          simp [hlock, h1, h2]
        rw [if_neg hopen]
        refine ⟨State.available_eq hc hstock, ?_, fun hmin => ?_⟩
        · split_ifs <;> simp_all
        · rw [if_neg (Nat.not_lt.mpr hmin)]
          refine ⟨by split_ifs <;> simp_all, fun hlow => ?_⟩
          rw [if_neg (Nat.not_lt.mpr hlow)]
          exact ⟨by split_ifs <;> simp_all, fun hfull => if_neg (Nat.not_le.mpr hfull)⟩
  · have hmem : ∀ n, n ∈ s.choices colorant nominal ↔ ok n := fun n => by
      rw [hok, s.mem_choices, s.candidate_iff, s.usable_iff, s.canTake_iff]
      tauto
    rw [s.choose_eq_none]
    refine ⟨forall_congr' fun n => not_congr (hmem n), fun n => ?_⟩
    rw [s.choose_eq_some, hmem]
    exact and_congr_right fun _ => forall_congr' fun m => by rw [hmem]; rfl

end Sys2Proof.Machine
end

/-! # Proofs: what dosing reads and changes (O39, O41, O42)

The commands of a channel change one pump, the canister of the same index, the channel and the tin at slot 2.
`State.Touches s n t` says so of the way from `s` to `t`: a preorder with one lemma per operation. Beside it stand the
rules of each operation for what it changes. -/

section
namespace Sys2Proof.Machine

variable (s : State)

/-! ## The tin -/

theorem State.tinAt_modTinAt {s : State} {n : Nat} {a : Tin} (h : s.tinAt n = some a) (f : Tin → Tin) :
    (s.modTinAt n f).tinAt n = some (f a) :=
  State.tinAt_eq_some.mpr (State.slot_modTinAt_self h f)

@[simp] theorem State.modTinAt_shots (n : Nat) (f : Tin → Tin) : (s.modTinAt n f).shots = s.shots := by
  obtain ⟨l, h⟩ := s.modTinAt_change n f
  rw [h]

@[simp] theorem State.modTinAt_canisters (n : Nat) (f : Tin → Tin) : (s.modTinAt n f).canisters = s.canisters := by
  obtain ⟨l, h⟩ := s.modTinAt_change n f
  rw [h]

@[simp] theorem State.modTinAt_dck (n : Nat) (f : Tin → Tin) : (s.modTinAt n f).dck = s.dck := by
  obtain ⟨l, h⟩ := s.modTinAt_change n f
  rw [h]

@[simp] theorem State.modTinAt_cfg (n : Nat) (f : Tin → Tin) : (s.modTinAt n f).cfg = s.cfg := by
  obtain ⟨l, h⟩ := s.modTinAt_change n f
  rw [h]

@[simp] theorem State.modTinAt_pins (n : Nat) (f : Tin → Tin) : (s.modTinAt n f).pins = s.pins := by
  obtain ⟨l, h⟩ := s.modTinAt_change n f
  rw [h]

theorem State.modTinAt_pump (n m : Nat) (f : Tin → Tin) : (s.modTinAt n f).pump m = s.pump m := by
  rw [State.pump, State.modTinAt_shots, State.pump]

theorem State.modTinAt_canister (n m : Nat) (f : Tin → Tin) : (s.modTinAt n f).canister m = s.canister m := by
  rw [State.canister, State.modTinAt_canisters, State.canister]

theorem State.modTinAt_channel (n ch : Nat) (f : Tin → Tin) : (s.modTinAt n f).channel ch = s.channel ch := by
  rw [State.channel, State.modTinAt_shots, State.channel]

section
variable {a : Tin} {i : Nat}

/-- A changed entry is found where it stood, and the others are as they were. -/
theorem Tin.entry_modEntry (a : Tin) (i j : Nat) {f : DoseEntry → DoseEntry} (hf : ∀ e, (f e).index = e.index) :
    (a.modEntry j f).entry i = (a.entry i).map (fun e => if i = j then f e else e) := by
  have hkey : (fun e : DoseEntry => e.index == i) ∘ (fun e => if e.index == j then f e else e) = fun e => e.index == i := by
    funext e
    by_cases h : e.index = j <;> simp [h, hf]
  rw [Tin.modEntry, Tin.entry, List.find?_map, hkey, Tin.entry]
  cases he : a.entries.find? (fun e => e.index == i) with
  | none => rfl
  | some e =>
    have hi : e.index = i := by simpa using List.find?_some he
    simp only [Option.map_some, hi, beq_iff_eq]

theorem Tin.entry_modEntry_self {e : DoseEntry} (he : a.entry i = some e) {f : DoseEntry → DoseEntry}
    (hf : ∀ e, (f e).index = e.index) : (a.modEntry i f).entry i = some (f e) := by
  rw [Tin.entry_modEntry a i i hf, he, Option.map_some, if_pos rfl]

theorem Tin.entry_modEntry_ne {j : Nat} (h : i ≠ j) {f : DoseEntry → DoseEntry} (hf : ∀ e, (f e).index = e.index) :
    (a.modEntry j f).entry i = a.entry i := by
  rw [Tin.entry_modEntry a i j hf]
  simp [h]

/-- An entry of a changed tin is a changed one of the index, or one of another index as it was. -/
theorem Tin.mem_modEntry {f : DoseEntry → DoseEntry} {x : DoseEntry} (h : x ∈ (a.modEntry i f).entries) :
    (∃ y ∈ a.entries, y.index = i ∧ x = f y) ∨ x ∈ a.entries ∧ x.index ≠ i := by
  obtain ⟨y, hy, rfl⟩ := List.mem_map.mp h
  by_cases hi : y.index = i
  · exact .inl ⟨y, hy, hi, by simp [hi]⟩
  · exact .inr (by simpa [hi] using hy)

theorem Tin.hasActive_of_entry {e : DoseEntry} {p : Plan} (he : a.entry i = some e) (hp : e.st = .active p) :
    a.hasActive = true :=
  List.any_eq_true.mpr ⟨e, List.mem_of_find?_eq_some he, by rw [hp]; rfl⟩

/-! ## The tin settled (R93) -/

/-- Settling a tin changes its state and its mix time. -/
theorem Tin.settleDosing_change (a : Tin) : ∃ st mix, a.settleDosing = { a with st := st, mix := mix } := by
  unfold Tin.settleDosing Tin.settled
  split_ifs <;> exact ⟨_, _, rfl⟩

theorem Tin.settleDosing_of_active (h : a.hasActive = true) : a.settleDosing = a :=
  if_neg (by simp [Tin.dosingOver, h])

/-- A DOSING tin with no entry ACTIVE and none to dose goes on by its cause and its deferral list. -/
theorem Tin.settleDosing_of_over (hst : a.st = .dosing) (h : ∀ x ∈ a.entries, x.st.isToDose = false ∧ x.st.isActive = false) :
    a.settleDosing.st = if a.cause ≠ none then .reject else if a.deferral = [] then .finishing else .deferred := by
  have hactive : a.hasActive = false := List.any_eq_false.mpr fun x hx => by simp [(h x hx).2]
  have hlocal : a.hasLocal = false := List.any_eq_false.mpr fun x hx => by simp [(h x hx).1]
  rw [Tin.settleDosing, if_pos (by simp [hst, Tin.dosingOver, hactive, hlocal])]
  unfold Tin.settled Tin.finish
  cases a.cause <;> cases a.deferral <;> rfl

end

/-! ## Canisters, pumps and channels -/

theorem State.canister_modCanister_self {s : State} {n : Nat} (h : n < s.canisters.length) (f : Canister → Canister) :
    (s.modCanister n f).canister n = f (s.canister n) := by
  rw [State.canister_modCanister_eq, if_pos ⟨rfl, h⟩]

theorem State.canister_modCanister_ne {n m : Nat} (h : m ≠ n) (f : Canister → Canister) :
    (s.modCanister n f).canister m = s.canister m := by
  rw [State.canister_modCanister_eq, if_neg fun hc => h hc.1.symm]

theorem State.pump_modPump_self {s : State} {n : Nat} (h : n < s.shots.pumps.length) (f : Pump → Pump) :
    (s.modPump n f).pump n = f (s.pump n) := by
  rw [State.pump_modPump_eq, if_pos ⟨rfl, h⟩]

theorem State.pump_modPump_ne {n m : Nat} (h : m ≠ n) (f : Pump → Pump) : (s.modPump n f).pump m = s.pump m := by
  rw [State.pump_modPump_eq, if_neg fun hc => h hc.1.symm]

theorem State.channel_setChannel_self {s : State} {ch : Nat} (h : ch < s.shots.channels.length) (e : Option Nat) :
    (s.setChannel ch e).channel ch = e := by
  simp [State.channel, State.setChannel, List.getD_eq_getElem?_getD, h]

theorem State.channel_setChannel_ne {ch c : Nat} (h : c ≠ ch) (e : Option Nat) :
    (s.setChannel ch e).channel c = s.channel c := by
  simp [State.channel, State.setChannel, List.getD_eq_getElem?_getD, List.getElem?_set_ne (Ne.symm h)]

/-- The end of a hold reaches the canister's own record alone. -/
theorem State.holdEnd_canister_ne {n m : Nat} (h : m ≠ n) : (s.holdEnd n).canister m = s.canister m := by
  rw [State.holdEnd_eq, State.modStir, State.canister_modCanister_ne _ h, State.canister_modCanister_ne _ h]

@[simp] theorem State.freeChannel_shots (ch n : Nat) :
    (s.freeChannel ch n).shots = { s.shots with channels := s.shots.channels.set ch none } := by
  rw [State.freeChannel, State.holdEnd_eq]
  rfl

@[simp] theorem State.freeChannel_seg (ch n : Nat) : (s.freeChannel ch n).seg = s.seg := by
  rw [State.freeChannel, State.holdEnd_eq]
  rfl

@[simp] theorem State.freeChannel_cfg (ch n : Nat) : (s.freeChannel ch n).cfg = s.cfg := by
  rw [State.freeChannel, State.holdEnd_eq]
  rfl

@[simp] theorem State.freeChannel_pins (ch n : Nat) : (s.freeChannel ch n).pins = s.pins := by
  rw [State.freeChannel, State.holdEnd_eq]
  rfl

theorem State.freeChannel_channel (ch n c : Nat) :
    (s.freeChannel ch n).channel c = if c = ch then none else s.channel c := by
  rw [State.channel, State.freeChannel_shots]
  exact s.channel_freed ch c

theorem State.freeChannel_pump (ch n m : Nat) : (s.freeChannel ch n).pump m = s.pump m := by
  rw [State.pump, State.freeChannel_shots, State.pump]

theorem State.freeChannel_canister (ch n m : Nat) : ((s.freeChannel ch n).canister m).stock = (s.canister m).stock ∧
    ((s.freeChannel ch n).canister m).reserved = (s.canister m).reserved :=
  ⟨((s.setChannel ch none).holdEnd_canister n m).1, ((s.setChannel ch none).holdEnd_canister n m).2.1⟩

theorem State.freeChannel_tinAt (ch n m : Nat) : (s.freeChannel ch n).tinAt m = s.tinAt m := by
  rw [State.tinAt, State.slot, State.freeChannel_seg, State.tinAt, State.slot]

/-! ## The next movement (R125) -/

/-- What the next movement of `c` steps makes of a pump, or its rest where the cell state permits none. -/
def State.moveOn (s : State) (n c : Nat) (u : Pump) : Pump :=
  if s.dosingState then u.begin (s.pumpCfg n).strokeSteps c else u.rest

theorem State.nextMove_of_active {s : State} {ch i : Nat} {a : Tin} {e : DoseEntry} {p : Plan} {c : Nat}
    (hi : s.channel ch = some i) (ha : s.tinAt 2 = some a) (he : a.entry i = some e) (hp : e.st = .active p)
    (hc : nextStroke p.strokes p.emitted = some c) : s.nextMove ch = s.modPump p.canister (s.moveOn p.canister c) := by
  have hheld : s.heldEntry ch = some e := by simp only [State.heldEntry, hi, ha, he]
  unfold State.nextMove State.moveOn
  simp only [hheld, Option.map_some, hp, hc]
  split <;> rfl

theorem State.moveOn_content (n c : Nat) (u : Pump) : (s.moveOn n c u).content = u.content := by
  unfold State.moveOn
  split
  · exact u.begin_content _ _
  · rfl

section
variable {s} {n c : Nat} {u : Pump}

theorem State.moveOn_of_not_dosing (h : s.dosingState = false) : (s.moveOn n c u).st = .idle := by
  simp [State.moveOn, h, Pump.rest]

/-- A chamber that holds the stroke: the stroke, or the switch to the outlet for it. -/
theorem State.moveOn_of_content (h : s.dosingState = true) (hc : c ≤ u.content) :
    (u.valve = .outlet → (s.moveOn n c u).st = .stroking ∧ (s.moveOn n c u).steps = c) ∧
    (u.valve ≠ .outlet → (s.moveOn n c u).st = .switching ∧ (s.moveOn n c u).target = .outlet) := by
  unfold State.moveOn
  rw [if_pos h, Pump.begin, if_pos hc]
  exact ⟨fun hv => by simp [hv], fun hv => by simp [hv]⟩

/-- A chamber that does not hold the stroke: the refill, or the switch to the inlet for it. -/
theorem State.moveOn_of_short (h : s.dosingState = true) (hc : u.content < c) :
    (u.valve = .inlet → (s.moveOn n c u).st = .refilling ∧
      (s.moveOn n c u).steps = (s.pumpCfg n).strokeSteps - u.content) ∧
    (u.valve ≠ .inlet → (s.moveOn n c u).st = .switching ∧ (s.moveOn n c u).target = .inlet) := by
  unfold State.moveOn
  rw [if_pos h, Pump.begin, if_neg (Nat.not_le.mpr hc)]
  exact ⟨fun hv => by simp [hv], fun hv => by simp [hv]⟩

end

/-! ## After the dosing (R93, R101) -/

section
variable (before : List CoverItem)

/-- The tin settled and the order book told change the tin at slot 2, the queue and the book. -/
theorem State.afterDosing_change : ∃ b o, s.afterDosing before = { s.settleSlot2 with bus := b, book := o } :=
  s.settleSlot2.tellCover_frame before

@[simp] theorem State.afterDosing_shots : (s.afterDosing before).shots = s.shots := by
  obtain ⟨b, o, h⟩ := s.afterDosing_change before
  rw [h]
  exact s.modTinAt_shots 2 _

@[simp] theorem State.afterDosing_canisters : (s.afterDosing before).canisters = s.canisters := by
  obtain ⟨b, o, h⟩ := s.afterDosing_change before
  rw [h]
  exact s.modTinAt_canisters 2 _

@[simp] theorem State.afterDosing_cfg : (s.afterDosing before).cfg = s.cfg := by
  obtain ⟨b, o, h⟩ := s.afterDosing_change before
  rw [h]
  exact s.modTinAt_cfg 2 _

@[simp] theorem State.afterDosing_pins : (s.afterDosing before).pins = s.pins := by
  obtain ⟨b, o, h⟩ := s.afterDosing_change before
  rw [h]
  exact s.modTinAt_pins 2 _

theorem State.afterDosing_pump (m : Nat) : (s.afterDosing before).pump m = s.pump m := by
  rw [State.pump, State.afterDosing_shots, State.pump]

theorem State.afterDosing_channel (ch : Nat) : (s.afterDosing before).channel ch = s.channel ch := by
  rw [State.channel, State.afterDosing_shots, State.channel]

theorem State.afterDosing_canister (m : Nat) : (s.afterDosing before).canister m = s.canister m := by
  rw [State.canister, State.afterDosing_canisters, State.canister]

theorem State.afterDosing_tinAt {s : State} {a : Tin} (h : s.tinAt 2 = some a) (before : List CoverItem) :
    (s.afterDosing before).tinAt 2 = some a.settleDosing := by
  obtain ⟨b, o, hd⟩ := s.afterDosing_change before
  rw [hd]
  exact State.tinAt_modTinAt h _

end

/-! ## What a command of a channel can reach -/

/-- From `s` to `t` no pump or canister but `n`, no slot but slot 2, and no block beside the shots, the register, the
canisters, the order book, the queue and the pins has changed. -/
structure State.Touches (s : State) (n : Nat) (t : State) : Prop where
  frame : t = { s with
    shots := t.shots, seg := { s.seg with slots := t.seg.slots }, canisters := t.canisters, book := t.book, bus := t.bus
    pins := t.pins }
  other : ∀ m, m ≠ n → t.canister m = s.canister m ∧ t.pump m = s.pump m
  slot : ∀ m, m ≠ 2 → t.slot m = s.slot m

section
variable {s} {t u : State} {n : Nat}

theorem State.Touches.trans (h : s.Touches n t) (h' : t.Touches n u) : s.Touches n u where
  frame := h'.frame.trans (by rw [h.frame])
  other m hm := ⟨(h'.other m hm).1.trans (h.other m hm).1, (h'.other m hm).2.trans (h.other m hm).2⟩
  slot m hm := (h'.slot m hm).trans (h.slot m hm)

/-- Where the pins stand too, they are no part of the change. -/
theorem State.Touches.frame_of_pins (h : s.Touches n t) (hp : t.pins = s.pins) : t = { s with
    shots := t.shots, seg := { s.seg with slots := t.seg.slots }, canisters := t.canisters, book := t.book, bus := t.bus } :=
  h.frame.trans (by rw [hp])

end

section
variable (n : Nat)

theorem State.touches_shots {k : Shots} (h : k.pumps = s.shots.pumps) : s.Touches n { s with shots := k } where
  frame := rfl
  other m _ := ⟨rfl, by rw [State.pump, State.pump, h]⟩
  slot _ _ := rfl

theorem State.touches_setChannel (ch : Nat) (e : Option Nat) : s.Touches n (s.setChannel ch e) := s.touches_shots n rfl

theorem State.touches_leaveWaiting (i : Nat) : s.Touches n (s.leaveWaiting i) := s.touches_shots n rfl

theorem State.touches_pins (p : Pins) : s.Touches n { s with pins := p } := ⟨rfl, fun _ _ => ⟨rfl, rfl⟩, fun _ _ => rfl⟩

theorem State.touches_modCanister (f : Canister → Canister) : s.Touches n (s.modCanister n f) :=
  ⟨rfl, fun _ hm => ⟨s.canister_modCanister_ne hm f, rfl⟩, fun _ _ => rfl⟩

theorem State.touches_modPump (f : Pump → Pump) : s.Touches n (s.modPump n f) :=
  ⟨rfl, fun _ hm => ⟨rfl, s.pump_modPump_ne hm f⟩, fun _ _ => rfl⟩

theorem State.touches_modTinAt (f : Tin → Tin) : s.Touches n (s.modTinAt 2 f) where
  frame := by
    obtain ⟨l, h⟩ := s.modTinAt_change 2 f
    rw [h]
  other m _ := ⟨s.modTinAt_canister 2 m f, s.modTinAt_pump 2 m f⟩
  slot _ hm := s.slot_modTinAt_ne f (Ne.symm hm)

theorem State.touches_freeChannel (ch : Nat) : s.Touches n (s.freeChannel ch n) := by
  rw [State.freeChannel, State.holdEnd_eq]
  exact ((s.touches_setChannel n ch none).trans (State.touches_modCanister _ n _)).trans (State.touches_modCanister _ n _)

theorem State.touches_afterDosing (before : List CoverItem) : s.Touches n (s.afterDosing before) := by
  obtain ⟨b, o, h⟩ := s.afterDosing_change before
  rw [h]
  exact (s.touches_modTinAt n Tin.settleDosing).trans ⟨rfl, fun _ _ => ⟨rfl, rfl⟩, fun _ _ => rfl⟩

end

end Sys2Proof.Machine
end

/-! # Proofs: a movement that ends in a fault (O42) -/

section
namespace Sys2Proof.Machine

variable (s : State)

/-! ## The entry cut short (R90, R100, R132) -/

/-- What the end of entry `i` with a cause other than COMPLETE makes of the state, `n` being its canister and `m` the
steps emitted. -/
def State.cutEntry (s : State) (ch i n m : Nat) (st : PumpState) (g : Gray) : State :=
  ((((s.modTinAt 2 (fun t => t.failEntry i m (m * (s.pumpCfg n).d))).chargeAbort n (m * (s.pumpCfg n).d)).modPump n
    (fun u => u.cut (s.pumpCfg n) g st)).freeChannel ch n)

theorem State.heldEntry_eq {s : State} {ch i : Nat} {a : Tin} {e : DoseEntry} (hi : s.channel ch = some i)
    (ha : s.tinAt 2 = some a) (he : a.entry i = some e) : s.heldEntry ch = some e := by
  simp only [State.heldEntry, hi, ha, he]

theorem State.abortEntry_of_active {s : State} {ch i : Nat} {a : Tin} {e : DoseEntry} {p : Plan}
    (hi : s.channel ch = some i) (ha : s.tinAt 2 = some a) (he : a.entry i = some e) (hp : e.st = .active p) (m : Nat)
    (st : PumpState) (g : Gray) : s.abortEntry ch m st g = s.cutEntry ch i p.canister m st g := by
  unfold State.abortEntry
  simp only [State.heldEntry_eq hi ha he, hp, DoseState.plan, Tin.entry_index he]
  rfl

section
variable (ch i n m : Nat) (st : PumpState) (g : Gray)

theorem State.touches_cutEntry : s.Touches n (s.cutEntry ch i n m st g) :=
  (((s.touches_modTinAt n _).trans (State.touches_modCanister _ n _)).trans (State.touches_modPump _ n _)).trans
    (State.touches_freeChannel _ n ch)

@[simp] theorem State.cutEntry_cfg : (s.cutEntry ch i n m st g).cfg = s.cfg :=
  (State.freeChannel_cfg _ ch n).trans (s.modTinAt_cfg 2 _)

@[simp] theorem State.cutEntry_pins : (s.cutEntry ch i n m st g).pins = s.pins :=
  (State.freeChannel_pins _ ch n).trans (s.modTinAt_pins 2 _)

theorem State.cutEntry_channel : (s.cutEntry ch i n m st g).channel ch = none :=
  (State.freeChannel_channel _ ch n ch).trans (if_pos rfl)

theorem State.cutEntry_tinAt {s : State} {a : Tin} (h : s.tinAt 2 = some a) :
    (s.cutEntry ch i n m st g).tinAt 2 = some (a.failEntry i m (m * (s.pumpCfg n).d)) :=
  (State.freeChannel_tinAt _ ch n 2).trans (State.tinAt_modTinAt h _)

theorem State.cutEntry_pump {s : State} {n : Nat} (h : n < s.shots.pumps.length) :
    (s.cutEntry ch i n m st g).pump n = (s.pump n).cut (s.pumpCfg n) g st := by
  rw [State.cutEntry, State.freeChannel_pump, State.pump_modPump_self]
  · exact congrArg (fun u : Pump => u.cut (s.pumpCfg n) g st) (s.modTinAt_pump 2 n _)
  · rwa [show (State.chargeAbort _ n _).shots = _ from s.modTinAt_shots 2 _]

theorem State.cutEntry_canister {s : State} {n : Nat} (h : n < s.canisters.length) :
    ((s.cutEntry ch i n m st g).canister n).stock =
      (s.canister n).stock.map (fun k => { k with level := k.level - m * (s.pumpCfg n).d }) ∧
    ((s.cutEntry ch i n m st g).canister n).reserved = 0 := by
  have hcharged : ((s.modTinAt 2 (fun t => t.failEntry i m (m * (s.pumpCfg n).d))).chargeAbort n
      (m * (s.pumpCfg n).d)).canister n = { (s.canister n).draw (m * (s.pumpCfg n).d) with reserved := 0 } := by
    rw [State.chargeAbort, State.canister_modCanister_self (by rwa [State.modTinAt_canisters]), State.modTinAt_canister]
  obtain ⟨hstock, hreserved⟩ := State.freeChannel_canister
    (((s.modTinAt 2 (fun t => t.failEntry i m (m * (s.pumpCfg n).d))).chargeAbort n (m * (s.pumpCfg n).d)).modPump n
      (fun u => u.cut (s.pumpCfg n) g st)) ch n n
  exact ⟨hstock.trans (congrArg Canister.stock hcharged), hreserved.trans (congrArg Canister.reserved hcharged)⟩

end

/-! ## The tin with the entry FAILED (R90, R91) -/

section
variable {a : Tin} {i m v : Nat}

theorem Tin.entry_failEntry_self {e : DoseEntry} {p : Plan} (he : a.entry i = some e) (hp : e.st = .active p) :
    (a.failEntry i m v).entry i = some { e with st := .failed { p with emitted := p.emitted + m } } := by
  rw [Tin.entry_failEntry, he, Option.map_some, if_pos rfl, DoseEntry.fail_of_active hp]

theorem Tin.entry_failEntry_ne {j : Nat} (h : j ≠ i) : (a.failEntry i m v).entry j = a.entry j := by
  rw [Tin.entry_failEntry]
  simp [h]

/-- A DOSING tin whose only ACTIVE entry fails is REJECT (R91, R93). -/
theorem Tin.settleDosing_failEntry (hst : a.st = .dosing)
    (h : ∀ x ∈ a.entries, x.index ≠ i → DoseState.isActive x.st = false) :
    (a.failEntry i m v).settleDosing.st = .reject := by
  have hactive : (a.failEntry i m v).hasActive = false := List.any_eq_false.mpr fun x hx => by
    obtain ⟨y, -, -, rfl⟩ | ⟨hx, hi⟩ := Tin.mem_modEntry (a := Tin.withCause { a with total := a.total + v } .doseFault) hx
    · exact Bool.eq_false_iff.mp (y.fail_not_active m)
    · exact Bool.eq_false_iff.mp (h x hx hi)
  have hst' : (a.failEntry i m v).st = .dosing := hst
  rw [Tin.settleDosing_of_cause rfl, if_pos ⟨hst', hactive⟩]

end

/-! ## The commands -/

section
variable {s} {ch : Fin 4} {e : DoseEntry} {p : Plan}

theorem exec_strokeEnd (h : s.Live) (he : s.heldEntry ch = some e) (hp : e.st = .active p)
    (hst : (s.pump p.canister).st = .stroking) (g : Gray) : exec (.strokeEnd ch g) s = .next (State.afterDosing
      (if encoderOk (s.pumpCfg p.canister) ((s.pump p.canister).content - (s.pump p.canister).steps) g = true
        then (s.latchGray p.canister g).strokeComplete ch e p
        else (s.latchGray p.canister g).abortEntry ch (s.pump p.canister).steps .locked g) s.cover) := by
  simp only [exec, execStrokeEnd]
  refine State.act_next h ?_
  simp only [he, hp, hst, beq_self_eq_true, if_true]

theorem exec_refillEnd_failed (h : s.Live) {n : Nat} (hn : s.heldCanister ch = some n)
    (hst : (s.pump n).st = .refilling) {g : Gray} (hg : encoderOk (s.pumpCfg n) (s.pumpCfg n).strokeSteps g = false) :
    exec (.refillEnd ch g) s = .next (((s.latchGray n g).abortEntry ch 0 .locked g).afterDosing s.cover) := by
  simp only [exec, execRefillEnd]
  refine State.act_next h ?_
  simp only [hn, hst, hg, beq_self_eq_true, if_true, Bool.false_eq_true, if_false]

theorem exec_driveFault_held (h : s.Live) {n : Nat} (hn : s.heldCanister ch = some n) (g : Gray) :
    exec (.driveFault ch g) s = .next
      ((((s.setFault ch true).latchGray n g).abortEntry ch (s.emittedSoFar n) .locked g).afterDosing s.cover) := by
  simp only [exec, execDriveFault]
  refine State.act_next h ?_
  simp only [hn]

end

/-- A channel's fault input, once set, is low (R121). -/
theorem State.setFault_low (ch : Fin 4) : (s.setFault ch true).pins.driveFault.getLsbD ch = true := by
  simp [State.setFault, ch.isLt]

theorem State.levelClass_of_locked {s : State} {n : Nat} {k : Stock} (hk : (s.canister n).stock = some k)
    (hst : (s.pump n).st = .locked) : s.levelClass n = if s.fitted n = none then .notFitted else .locked := by
  cases hc : s.fitted n with
  | none => simp [State.levelClass, hc]
  | some c => rw [State.levelClass_of_stock hc hk, if_pos (.inr (.inl hst)), if_neg (by simp)]

/-- Each command that ends a movement in a fault latches its pins and cuts the entry short. -/
theorem exec_movementFault {s : State} {ch : Fin 4} {g : Gray} {i emitted : Nat} {a : Tin} {e : DoseEntry} {p : Plan}
    {cmd : Instr} (h : s.Live) (hi : s.channel ch = some i) (ha : s.tinAt 2 = some a) (he : a.entry i = some e)
    (hp : e.st = .active p)
    (hcmd : cmd = .strokeEnd ch g ∧ (s.pump p.canister).st = .stroking ∧ emitted = (s.pump p.canister).steps ∧
        encoderOk (s.pumpCfg p.canister) ((s.pump p.canister).content - emitted) g = false ∨
      cmd = .refillEnd ch g ∧ (s.pump p.canister).st = .refilling ∧ emitted = 0 ∧
        encoderOk (s.pumpCfg p.canister) (s.pumpCfg p.canister).strokeSteps g = false ∨
      cmd = .driveFault ch g ∧ emitted = (if (s.pump p.canister).st = .stroking then s.driven p.canister else 0)) :
    ∃ pins : Pins, exec cmd s = .next ((State.cutEntry { s with pins := pins } ch i p.canister emitted .locked g).afterDosing
      s.cover) ∧ (cmd = .driveFault ch g → pins.driveFault.getLsbD ch = true) := by
  have hheld := State.heldEntry_eq hi ha he
  have hcanister := State.heldCanister_of_active hheld hp
  rcases hcmd with ⟨rfl, hst, rfl, hg⟩ | ⟨rfl, hst, rfl, hg⟩ | ⟨rfl, rfl⟩
  · refine ⟨(s.latchGray p.canister g).pins, ?_, fun hc => by cases hc⟩
    rw [exec_strokeEnd h hheld hp hst, if_neg (by simp [hg]),
      State.abortEntry_of_active (s := s.latchGray p.canister g) hi ha he hp]
    rfl
  · refine ⟨(s.latchGray p.canister g).pins, ?_, fun hc => by cases hc⟩
    rw [exec_refillEnd_failed h hcanister hst hg, State.abortEntry_of_active (s := s.latchGray p.canister g) hi ha he hp]
    rfl
  · refine ⟨((s.setFault ch true).latchGray p.canister g).pins, ?_, fun _ => s.setFault_low ch⟩
    rw [exec_driveFault_held h hcanister, s.emittedSoFar_eq,
      State.abortEntry_of_active (s := (s.setFault ch true).latchGray p.canister g) hi ha he hp]
    rfl

/-- Settles O42: each of the commands latches its pins and cuts the entry short. -/
theorem movementEndsInFault : Obligations.MovementEndsInFault := by
  unfold Obligations.MovementEndsInFault
  rintro ch g s i n emitted vol a e p k cmd h ⟨hcan, hpumps, -⟩ hi ha he hp rfl hn hk rfl hcmd
  obtain ⟨pins, hexec, hfault⟩ := exec_movementFault h hi ha he hp hcmd
  have htouch := ((s.touches_pins p.canister pins).trans (State.touches_cutEntry _ ch i p.canister emitted .locked g)).trans
    (State.touches_afterDosing _ p.canister s.cover)
  have hpump : (State.cutEntry { s with pins := pins } ch i p.canister emitted .locked g).pump p.canister =
      (s.pump p.canister).cut (s.pumpCfg p.canister) g .locked := State.cutEntry_pump _ _ _ _ _ (hn.trans_eq hpumps.symm)
  obtain ⟨hstock, hreserved⟩ := State.cutEntry_canister ch i emitted .locked g (s := { s with pins := pins })
    (hn.trans_eq hcan.symm)
  replace hstock := hstock.trans (congrArg (Option.map _) hk)
  have htin : (State.cutEntry { s with pins := pins } ch i p.canister emitted .locked g).tinAt 2 =
      some (a.failEntry i emitted (emitted * (s.pumpCfg p.canister).d)) := State.cutEntry_tinAt _ _ _ _ _ _ ha
  have hfitted : (State.cutEntry { s with pins := pins } ch i p.canister emitted .locked g).fitted p.canister =
      s.fitted p.canister := by rw [State.fitted, State.cutEntry_cfg, State.fitted]
  have hpins := State.cutEntry_pins { s with pins := pins } ch i p.canister emitted .locked g
  have hchannel := State.cutEntry_channel { s with pins := pins } ch i p.canister emitted .locked g
  generalize State.cutEntry { s with pins := pins } ch i p.canister emitted .locked g = v at *
  obtain ⟨st, mix, hsettle⟩ := (a.failEntry i emitted (emitted * (s.pumpCfg p.canister).d)).settleDosing_change
  refine ⟨_, _, hexec, State.afterDosing_tinAt htin _, ?_⟩
  rw [State.afterDosing_pump, State.afterDosing_channel, State.afterDosing_canister, hpump, hstock]
  refine ⟨hchannel, rfl, rfl, fun hst => if_pos (by simp [hst]), fun hst => if_neg (by simp [hst]), rfl, hreserved, ?_,
    by rw [hsettle]; rfl, by rw [hsettle]; rfl, by rw [hsettle]; rfl, by rw [hsettle]; rfl, fun m hm => ?_, ?_,
    fun hst hall => Tin.settleDosing_failEntry hst hall, fun hc => ?_, htouch.other, htouch.slot, htouch.frame⟩
  · rw [State.levelClass_of_locked (by rw [State.afterDosing_canister, hstock]; rfl)
      (by rw [State.afterDosing_pump, hpump]; rfl), State.fitted, State.afterDosing_cfg, ← State.fitted, hfitted]
  · rw [hsettle]
    exact Tin.entry_failEntry_ne hm
  · rw [hsettle]
    exact Tin.entry_failEntry_self he hp
  · rw [State.afterDosing_pins, hpins]
    exact hfault hc

end Sys2Proof.Machine
end

/-! # Proofs: a stroke that ends COMPLETE (O41) -/

section
namespace Sys2Proof.Machine

variable (s : State)

/-! ## The tin with the stroke counted, and with the entry DOSED (R89) -/

/-- An entry with `m` more steps emitted (R89). -/
def DoseEntry.emit (e : DoseEntry) (m : Nat) : DoseEntry :=
  { e with st :=
      match e.st with
      | .active p => .active { p with emitted := p.emitted + m }
      | .deferred => .deferred
      | .omitted => .omitted
      | .toDose p => .toDose p
      | .dosed p => .dosed p
      | .failed p => .failed p }

theorem DoseEntry.emit_of_active {e : DoseEntry} {p : Plan} (h : e.st = .active p) (m : Nat) :
    e.emit m = { e with st := .active { p with emitted := p.emitted + m } } := by
  simp only [DoseEntry.emit, h]

theorem Tin.countStroke_eq (a : Tin) (i m v : Nat) :
    a.countStroke i m v = Tin.modEntry { a with total := a.total + v } i (fun e => e.emit m) := rfl

section
variable {a : Tin} {i c v : Nat} {e : DoseEntry} {p : Plan}

theorem Tin.entry_countStroke (he : a.entry i = some e) (hp : e.st = .active p) :
    (a.countStroke i c v).entry i = some { e with st := .active { p with emitted := p.emitted + c } } := by
  rw [Tin.countStroke_eq, ← DoseEntry.emit_of_active hp]
  exact Tin.entry_modEntry_self (a := { a with total := a.total + v }) he (f := fun e => e.emit c) fun _ => rfl

theorem Tin.entry_countStroke_ne {j : Nat} (h : j ≠ i) : (a.countStroke i c v).entry j = a.entry j :=
  Tin.entry_modEntry_ne (a := { a with total := a.total + v }) h (f := fun e => e.emit c) fun _ => rfl

theorem Tin.entry_doseEntry {e' : DoseEntry} (he : a.entry i = some e) (hi : e'.index = i) (d self : Nat) :
    (a.doseEntry e' p d self).entry i = some { e with st := .dosed p } := by
  subst hi
  exact Tin.entry_modEntry_self (a := { a with dosed := _ }) he fun _ => rfl

theorem Tin.entry_doseEntry_ne {j : Nat} (h : j ≠ e.index) (d self : Nat) :
    (a.doseEntry e p d self).entry j = a.entry j :=
  Tin.entry_modEntry_ne (a := { a with dosed := _ }) h fun _ => rfl

/-- Once the last stroke of an entry is counted and the entry is DOSED, an entry to dose or ACTIVE is another one. -/
theorem Tin.doseEntry_over (h : ∀ x ∈ a.entries, x.index ≠ e.index → x.st.isToDose = false ∧ x.st.isActive = false)
    (d self : Nat) : ∀ x ∈ ((a.countStroke e.index c v).doseEntry e p d self).entries,
      x.st.isToDose = false ∧ x.st.isActive = false := by
  intro x hx
  obtain ⟨y, -, -, rfl⟩ | ⟨hx, hi⟩ := Tin.mem_modEntry (a := { a.countStroke e.index c v with dosed := _ }) hx
  · exact ⟨rfl, rfl⟩
  · obtain ⟨y, -, hy, rfl⟩ | ⟨hx, -⟩ := Tin.mem_modEntry (a := { a with total := a.total + v }) hx
    · exact absurd hy hi
    · exact h x hx hi

/-- The tin of the last stroke, settled: the stroke counted, the entry DOSED, its item on the dosed list (R89, R93). -/
theorem Tin.settleDosing_doseEntry (he : a.entry e.index = some e) (hp : e.st = .active p) (d self : Nat) {q : Plan}
    {b : Tin} (hb : b = ((a.countStroke e.index c v).doseEntry e q d self).settleDosing) :
    b.total = a.total + v ∧ b.cause = a.cause ∧ b.deferral = a.deferral ∧ (∀ m, m ≠ e.index → b.entry m = a.entry m) ∧
    b.entry e.index = some { e with st := .dosed q } ∧
    b.dosed = a.dosed ++ [{ colorant := e.colorant, delivered := q.steps * d, station := self }] ∧
    (a.st = .dosing → (∀ x ∈ a.entries, x.index ≠ e.index → x.st.isToDose = false ∧ x.st.isActive = false) →
      b.st = if a.cause ≠ none then .reject else if a.deferral = [] then .finishing else .deferred) := by
  obtain ⟨st, mix, hsettle⟩ := ((a.countStroke e.index c v).doseEntry e q d self).settleDosing_change
  refine ⟨?_, ?_, ?_, fun m hm => ?_, ?_, ?_, fun hst hall => ?_⟩
  · rw [hb, hsettle]
    rfl
  · rw [hb, hsettle]
    rfl
  · rw [hb, hsettle]
    rfl
  · rw [hb, hsettle]
    exact (Tin.entry_doseEntry_ne hm d self).trans (Tin.entry_countStroke_ne hm)
  · rw [hb, hsettle]
    exact Tin.entry_doseEntry (Tin.entry_countStroke he hp) rfl d self
  · rw [hb, hsettle]
    rfl
  · rw [hb]
    exact Tin.settleDosing_of_over (a := (a.countStroke e.index c v).doseEntry e q d self) hst
      (Tin.doseEntry_over hall d self)

end

/-! ## The stroke taken from the chamber and the canister (R100, R127) -/

/-- A stroke of `c` steps by pump `n` counted: the chamber, the tin and the canister (R89, R100, R127). -/
def State.stroked (s : State) (i n c : Nat) : State :=
  ((s.modPump n (fun u => u.moved (u.content - c))).modTinAt 2
    (fun t => t.countStroke i c (c * (s.pumpCfg n).d))).chargeStroke n (c * (s.pumpCfg n).d)

section
variable (i n c : Nat)

theorem State.touches_stroked : s.Touches n (s.stroked i n c) :=
  ((s.touches_modPump n _).trans (State.touches_modTinAt _ n _)).trans (State.touches_modCanister _ n _)

@[simp] theorem State.stroked_cfg : (s.stroked i n c).cfg = s.cfg :=
  (s.modPump n (fun u => u.moved (u.content - c))).modTinAt_cfg 2 _

@[simp] theorem State.stroked_dck : (s.stroked i n c).dck = s.dck :=
  (s.modPump n (fun u => u.moved (u.content - c))).modTinAt_dck 2 _

theorem State.stroked_shots : (s.stroked i n c).shots = (s.modPump n (fun u => u.moved (u.content - c))).shots :=
  (s.modPump n (fun u => u.moved (u.content - c))).modTinAt_shots 2 _

theorem State.stroked_channel (ch : Nat) : (s.stroked i n c).channel ch = s.channel ch := by
  rw [State.channel, State.stroked_shots]
  rfl

variable {s n}

theorem State.stroked_tinAt {a : Tin} (h : s.tinAt 2 = some a) :
    (s.stroked i n c).tinAt 2 = some (a.countStroke i c (c * (s.pumpCfg n).d)) :=
  State.tinAt_modTinAt (s := s.modPump n (fun u => u.moved (u.content - c))) h _

theorem State.stroked_pump (h : n < s.shots.pumps.length) :
    (s.stroked i n c).pump n = (s.pump n).moved ((s.pump n).content - c) := by
  rw [State.pump, State.stroked_shots, ← State.pump, State.pump_modPump_self h]

theorem State.stroked_canister (h : n < s.canisters.length) : (s.stroked i n c).canister n =
    { (s.canister n).draw (c * (s.pumpCfg n).d) with reserved := (s.canister n).reserved - c * (s.pumpCfg n).d } := by
  rw [State.stroked, State.chargeStroke, State.canister_modCanister_self, State.modTinAt_canister]
  · rfl
  · rwa [State.modTinAt_canisters]

end

/-! ## What follows the stroke (R131) -/

section
variable {s} {ch i n : Nat} {a : Tin} {e : DoseEntry} {p : Plan}

/-- The strokes left go on with the next movement. -/
theorem State.strokeComplete_of_more (hi : s.channel ch = some i) (ha : s.tinAt 2 = some a) (he : a.entry i = some e)
    (hp : e.st = .active p) {d : Nat} (hd : nextStroke p.strokes (p.emitted + (s.pump p.canister).steps) = some d) :
    s.strokeComplete ch e p =
      (s.stroked i p.canister (s.pump p.canister).steps).modPump p.canister (s.moveOn p.canister d) := by
  have hmove : (s.stroked i p.canister (s.pump p.canister).steps).nextMove ch = (s.stroked i p.canister
      (s.pump p.canister).steps).modPump p.canister (State.moveOn (s.stroked i p.canister (s.pump p.canister).steps) p.canister d) :=
    State.nextMove_of_active (p := { p with emitted := p.emitted + (s.pump p.canister).steps }) ((s.stroked_channel i _ _ ch).trans hi) (State.stroked_tinAt i _ ha)
      (Tin.entry_countStroke he hp) rfl hd
  unfold State.strokeComplete
  simp only [hd, Tin.entry_index he]
  refine hmove.trans (congrArg _ ?_)
  unfold State.moveOn State.dosingState State.pumpCfg
  rw [State.stroked_dck, State.stroked_cfg]

/-- After the last stroke the entry is DOSED and its channel free. -/
theorem State.strokeComplete_of_last (he : a.entry i = some e)
    (hd : nextStroke p.strokes (p.emitted + (s.pump p.canister).steps) = none) : s.strokeComplete ch e p =
      ((s.stroked i p.canister (s.pump p.canister).steps).modTinAt 2 (fun t => t.doseEntry e
        { p with emitted := p.emitted + (s.pump p.canister).steps } (s.pumpCfg p.canister).d s.self)).freeChannel ch p.canister := by
  unfold State.strokeComplete
  simp only [hd, Tin.entry_index he]
  rfl

end

theorem Canister.draw_stock {c : Canister} {k : Stock} (h : c.stock = some k) (v : Nat) :
    (c.draw v).stock = some { k with level := k.level - v } := by
  rw [Canister.draw, h]
  rfl

/-- The state `v` is that of `s` with a stroke of `c` steps by pump `n` counted for entry `i`. -/
structure State.StrokeTaken (s : State) (i n c : Nat) (v : State) : Prop where
  touches : s.Touches n v
  channel : ∀ ch, v.channel ch = s.channel ch
  pumps : v.shots.pumps.length = s.shots.pumps.length
  pump : v.pump n = (s.pump n).moved ((s.pump n).content - c)
  stock : ∀ k, (s.canister n).stock = some k → (v.canister n).stock =
    some { k with level := k.level - c * (s.pumpCfg n).d }
  reserved : (v.canister n).reserved = (s.canister n).reserved - c * (s.pumpCfg n).d
  tin : ∀ a, s.tinAt 2 = some a → v.tinAt 2 = some (a.countStroke i c (c * (s.pumpCfg n).d))

theorem State.strokeTaken_stroked {s : State} {n : Nat} (hp : n < s.shots.pumps.length) (hc : n < s.canisters.length)
    (i c : Nat) : s.StrokeTaken i n c (s.stroked i n c) where
  touches := s.touches_stroked i n c
  channel := s.stroked_channel i n c
  pumps := by
    rw [State.stroked_shots]
    exact List.length_modify ..
  pump := State.stroked_pump i c hp
  stock k hk := by
    rw [State.stroked_canister i c hc]
    exact Canister.draw_stock hk _
  reserved := by rw [State.stroked_canister i c hc]
  tin a ha := State.stroked_tinAt i c ha

/-- The pins latched are no part of what a stroke is counted by. -/
theorem State.StrokeTaken.of_latch {s v : State} {i n c m : Nat} {g : Gray} (h : (s.latchGray m g).StrokeTaken i n c v) :
    s.StrokeTaken i n c v :=
  ⟨(s.touches_pins n (s.latchGray m g).pins).trans h.touches, h.channel, h.pumps, h.pump, h.stock, h.reserved, h.tin⟩

/-- A STROKE_END COMPLETE counts the stroke, and then the pump moves on or the entry is DOSED. -/
theorem exec_strokeEnd_complete {s : State} {ch : Fin 4} {g : Gray} {i c : Nat} {a : Tin} {e : DoseEntry} {p : Plan}
    (h : s.Live) (hs : s.Shaped) (hi : s.channel ch = some i) (ha : s.tinAt 2 = some a) (he : a.entry i = some e)
    (hp : e.st = .active p) (hn : p.canister < 16) (hst : (s.pump p.canister).st = .stroking)
    (hc : c = (s.pump p.canister).steps)
    (hg : encoderOk (s.pumpCfg p.canister) ((s.pump p.canister).content - c) g = true) :
    ∃ v, s.StrokeTaken i p.canister c v ∧
      (∀ d, nextStroke p.strokes (p.emitted + c) = some d → exec (.strokeEnd ch g) s =
        .next ((v.modPump p.canister (s.moveOn p.canister d)).afterDosing s.cover)) ∧
      (nextStroke p.strokes (p.emitted + c) = none → exec (.strokeEnd ch g) s =
        .next (((v.modTinAt 2 (fun t => t.doseEntry e { p with emitted := p.emitted + c } (s.pumpCfg p.canister).d
          s.self)).freeChannel ch p.canister).afterDosing s.cover)) := by
  subst hc
  obtain ⟨hcan, hpumps, -⟩ := hs
  have hexec := exec_strokeEnd h (State.heldEntry_eq hi ha he) hp hst g
  rw [if_pos hg] at hexec
  refine ⟨_, State.StrokeTaken.of_latch (m := p.canister) (g := g) (State.strokeTaken_stroked
    (s := s.latchGray p.canister g) (hn.trans_eq hpumps.symm) (hn.trans_eq hcan.symm) i (s.pump p.canister).steps),
    fun d hd => ?_, fun hd => ?_⟩
  · rw [hexec, State.strokeComplete_of_more (s := s.latchGray p.canister g) hi ha he hp hd]
    rfl
  · rw [hexec, State.strokeComplete_of_last (s := s.latchGray p.canister g) he hd]
    rfl

/-- Settles O41: the stroke is counted, and the entry goes on to its next movement or is DOSED. -/
theorem strokeEndsComplete : Obligations.StrokeEndsComplete := by
  unfold Obligations.StrokeEndsComplete
  rintro ch g s i n c vol a e p k h hs hi ha he hp rfl hn hst hc - rfl hk hg
  obtain rfl : e.index = i := Tin.entry_index he
  obtain ⟨v, hv, hmore, hlast⟩ := exec_strokeEnd_complete h hs hi ha he hp hn hst hc hg
  have htin := hv.tin a ha
  cases hd : nextStroke p.strokes (p.emitted + c) with
  | some d =>
    have htouch := (hv.touches.trans (State.touches_modPump v p.canister (s.moveOn p.canister d))).trans
      (State.touches_afterDosing _ p.canister s.cover)
    have hpump := State.pump_modPump_self (s := v) (by rw [hv.pumps, hs.2.1]; exact hn) (s.moveOn p.canister d)
    have hentry := Tin.entry_countStroke (c := c) (v := c * (s.pumpCfg p.canister).d) he hp
    refine ⟨_, _, hmore d hd, State.afterDosing_tinAt (s := v.modPump p.canister (s.moveOn p.canister d)) htin _, ?_⟩
    rw [State.afterDosing_pump, State.afterDosing_channel, State.afterDosing_canister, hpump, hv.pump,
      Tin.settleDosing_of_active (Tin.hasActive_of_entry hentry rfl)]
    exact ⟨State.moveOn_content _ _ _ _, hv.stock k hk, hv.reserved, rfl, rfl, rfl,
      fun m hm => Tin.entry_countStroke_ne hm,
      fun _ => ⟨(hv.channel ch).trans hi, rfl, rfl, hentry, State.moveOn_of_not_dosing⟩,
      fun hc => absurd hc (Option.some_ne_none d), htouch.other, htouch.slot, htouch.frame⟩
  | none =>
    specialize hlast hd
    generalize hf : (fun t : Tin => t.doseEntry e { p with emitted := p.emitted + c } (s.pumpCfg p.canister).d s.self) = f
      at hlast
    have htouch := ((hv.touches.trans (v.touches_modTinAt p.canister f)).trans
      (State.touches_freeChannel _ p.canister ch)).trans (State.touches_afterDosing _ p.canister s.cover)
    obtain ⟨hstock, hreserved⟩ := (v.modTinAt 2 f).freeChannel_canister ch p.canister p.canister
    rw [State.modTinAt_canister] at hstock hreserved
    refine ⟨_, _, hlast, State.afterDosing_tinAt ((State.freeChannel_tinAt _ ch p.canister 2).trans
      (State.tinAt_modTinAt htin f)) _, ?_⟩
    rw [State.afterDosing_pump, State.afterDosing_channel, State.afterDosing_canister, State.freeChannel_pump,
      State.freeChannel_channel, State.modTinAt_pump, hv.pump, hstock, hreserved]
    obtain ⟨htotal, hcause, hdeferral, hother, hentry, hdosed, hst'⟩ := Tin.settleDosing_doseEntry he hp (c := c)
      (v := c * (s.pumpCfg p.canister).d) (s.pumpCfg p.canister).d s.self (q := { p with emitted := p.emitted + c })
      (b := (f (a.countStroke e.index c (c * (s.pumpCfg p.canister).d))).settleDosing) (by rw [← hf])
    refine ⟨rfl, hv.stock k hk, hv.reserved, htotal, hcause, hdeferral, hother, fun hc => absurd rfl hc,
      fun _ => ⟨if_pos rfl, rfl, hentry, hdosed, fun hst hall => ?_⟩, htouch.other, htouch.slot, htouch.frame⟩
    rw [hst' hst hall]
    exact ⟨fun hc => if_pos hc, fun hc hd => by rw [if_neg (not_not.mpr hc), if_pos hd],
      fun hc hd => by rw [if_neg (not_not.mpr hc), if_neg hd]⟩

end Sys2Proof.Machine
end

/-! # Proofs: CHANNEL_GRANT (O39) -/

section
namespace Sys2Proof.Machine

variable (s : State)

/-! ## The grant (R122, R123) -/

/-- The state in which a granted entry is checked: it has left the waiting set, and the channel is its own. -/
def State.granted (s : State) (ch i : Nat) : State := (s.leaveWaiting i).setChannel ch (some i)

theorem State.grant_some {s : State} {ch i : Nat} (h : s.grant = some (ch, i)) : ch < 4 ∧ s.dosingState = true := by
  unfold State.grant at h
  split at h
  · next hc =>
    simp only [Bool.and_eq_true] at hc
    split at h
    · next c j hfree _ =>
      cases h
      exact ⟨List.mem_range.mp (List.mem_of_find?_eq_some hfree), hc.1.1.1⟩
    · cases h
  · cases h

theorem exec_channelGrant {s : State} {ch i : Nat} {a : Tin} {e : DoseEntry} {p : Plan} (h : s.Live)
    (hg : s.grant = some (ch, i)) (ha : s.tinAt 2 = some a) (he : a.entry i = some e) (hp : e.st = .toDose p) :
    exec .channelGrant s = .next (((s.granted ch i).actOnCheck ch a e p).afterDosing s.cover) := by
  simp only [exec, execChannelGrant]
  refine State.act_next h ?_
  simp only [hg, State.grantTo, ha, he, hp]
  rfl

theorem State.mem_leaveWaiting (i m : Nat) : m ∈ (s.leaveWaiting i).shots.waiting ↔ m ∈ s.shots.waiting ∧ m ≠ i := by
  simp [State.leaveWaiting]

/-! ## The start check (R85) -/

section
variable {s} {a : Tin} {e : DoseEntry} {p : Plan}

theorem State.startCheck_of_cause (h : a.cause ≠ none) : s.startCheck a e p = .refused :=
  if_pos (Option.isSome_iff_ne_none.mpr h)

/-- Test by test: no candidate, 0 steps, more strokes than 32, too little in the canister, no headroom (R85). -/
theorem State.startCheck_of_no_cause (h : a.cause = none) {steps : Nat} (hs : steps = s.stepsAt p.canister e.nominal) :
    s.startCheck a e p =
      if ¬ s.candidate p.canister e.colorant = true then .deferred
      else if steps = 0 then .omitted
      else if 32 < s.strokesAt p.canister steps ∨ s.available p.canister < steps * (s.pumpCfg p.canister).d then .deferred
      else if headroomNl a.size < a.total + s.outstanding a + steps * (s.pumpCfg p.canister).d then .overload
      else .start { canister := p.canister, steps := steps, strokes := strokesOf steps (s.strokesAt p.canister steps)
                    emitted := 0 } (raisedBy (s.rawSteps p.canister e.nominal) (s.pumpCfg p.canister).minShot) := by
  subst hs
  unfold State.startCheck
  simp only [h, Option.isSome_none, Bool.false_eq_true, if_false, Bool.not_eq_true', Bool.not_eq_true, ite_or]

end

/-- The start check of a granted entry reads what the state before the grant held. -/
theorem State.startCheck_granted (ch i : Nat) (a : Tin) (e : DoseEntry) (p : Plan) :
    (s.granted ch i).startCheck a e p = s.startCheck a e p := rfl

/-! ## The entry not started (R85, R87, R88, R91) -/

/-- The tin whose entry the start check does not start. -/
def Tin.unstarted (a : Tin) (e : DoseEntry) (p : Plan) (self : Nat) : StartOutcome → Tin
  | .refused | .start _ _ => a
  | .deferred => a.deferEntry e self
  | .omitted => a.omitEntry e
  | .overload => a.overloadEntry e p

/-- An entry that does not start gives its channel back. -/
theorem State.actOnCheck_of_not_start {a : Tin} {e : DoseEntry} {p : Plan} (ch : Nat)
    (h : ∀ q r, s.startCheck a e p ≠ .start q r) : s.actOnCheck ch a e p =
      (s.modTinAt 2 (fun t => t.unstarted e p s.self (s.startCheck a e p))).freeChannel ch p.canister := by
  unfold State.actOnCheck
  cases hc : s.startCheck a e p with
  | refused => exact congrArg (fun u : State => u.freeChannel ch p.canister) (State.modTinAt_id fun _ _ => rfl).symm
  | deferred | omitted | overload => rfl
  | start q r => exact absurd hc (h q r)

section
variable (a : Tin) (e : DoseEntry) (p : Plan) (self : Nat) (o : StartOutcome)

theorem Tin.unstarted_keeps : (a.unstarted e p self o).total = a.total ∧ (a.unstarted e p self o).dosed = a.dosed ∧
    (a.unstarted e p self o).raised = a.raised := by
  cases o <;> exact ⟨rfl, rfl, rfl⟩

theorem Tin.entry_unstarted_ne {m : Nat} (hm : m ≠ e.index) : (a.unstarted e p self o).entry m = a.entry m := by
  cases o with
  | refused | start => rfl
  | deferred => exact Tin.entry_modEntry_ne hm (f := fun e => { e with st := .deferred }) fun _ => rfl
  | omitted => exact Tin.entry_modEntry_ne hm (f := fun e => { e with st := .omitted }) fun _ => rfl
  | overload => exact Tin.entry_modEntry_ne hm (f := fun e => { e with st := .failed p }) fun _ => rfl

end

theorem mem_insertDefer (d : DeferItem) (l : List DeferItem) : d ∈ insertDefer d l := by
  induction l with
  | nil => exact List.mem_cons_self
  | cons b l ih =>
    unfold insertDefer
    split
    · exact List.mem_cons_of_mem _ ih
    · exact List.mem_cons_self

/-! ## The entry started (R86, R99, R125) -/

/-- The first stroke of an entry with steps to dose is one not yet driven (R79, R125). -/
theorem nextStroke_strokesOf {n k : Nat} (hk : 1 ≤ k) (hkn : k ≤ n) :
    ∃ f l, strokesOf n k = f :: l ∧ nextStroke (strokesOf n k) 0 = some f := by
  cases hl : strokesOf n k with
  | nil =>
    have hlen := length_strokesOf (n := n) hk
    rw [hl, List.length_nil] at hlen
    omega
  | cons f l =>
    have hq : 1 ≤ n / k := (Nat.one_le_div_iff hk).mpr hkn
    have hf : ¬ f ≤ 0 := by
      obtain ⟨rfl, -⟩ | rfl := mem_strokesOf (hl ▸ List.mem_cons_self : f ∈ strokesOf n k) <;> omega
    exact ⟨f, l, rfl, if_neg hf⟩

theorem strokeCount_le {n d : Nat} (hd : 1 ≤ d) : strokeCount n d ≤ n := by
  have hlt := (ceilDiv_bounds n hd).1
  by_contra hk
  have hmul := Nat.mul_le_mul_right d (Nat.lt_of_not_le hk)
  have hle := Nat.le_mul_of_pos_right n hd
  rw [Nat.succ_mul] at hmul
  rw [← strokeCount] at hlt
  omega

theorem Tin.entry_startEntry {a : Tin} {e : DoseEntry} (he : a.entry e.index = some e) (q : Plan) (r : Bool) :
    (a.startEntry e q r).entry e.index = some { e with st := .active q } :=
  Tin.entry_modEntry_self he (f := fun e => { e with st := .active q }) fun _ => rfl

theorem Tin.entry_startEntry_ne {a : Tin} {e : DoseEntry} {m : Nat} (hm : m ≠ e.index) (q : Plan) (r : Bool) :
    (a.startEntry e q r).entry m = a.entry m :=
  Tin.entry_modEntry_ne hm (f := fun e => { e with st := .active q }) fun _ => rfl

/-- What a granted entry that starts makes of the state. -/
def State.started (s : State) (e : DoseEntry) (q : Plan) (r : Bool) (f : Nat) : State :=
  (((s.reserve q.canister (q.steps * (s.pumpCfg q.canister).d)).modTinAt 2 (fun t => t.startEntry e q r)).modPump
    q.canister (s.moveOn q.canister f))

theorem State.actOnCheck_of_start {s : State} {ch f : Nat} {a : Tin} {e : DoseEntry} {p q : Plan} {r : Bool}
    (hi : s.channel ch = some e.index) (ha : s.tinAt 2 = some a) (he : a.entry e.index = some e)
    (hc : s.startCheck a e p = .start q r) (hf : nextStroke q.strokes q.emitted = some f) :
    s.actOnCheck ch a e p = s.started e q r f := by
  have hmove := State.nextMove_of_active (ch := ch)
    (s := (s.reserve q.canister (q.steps * (s.pumpCfg q.canister).d)).modTinAt 2 (fun t => t.startEntry e q r))
    ((State.modTinAt_channel _ 2 ch _).trans hi)
    (State.tinAt_modTinAt (s := s.reserve q.canister (q.steps * (s.pumpCfg q.canister).d)) ha _)
    (Tin.entry_startEntry he q r) rfl hf
  unfold State.actOnCheck
  simp only [hc]
  refine hmove.trans (congrArg (State.modPump _ q.canister) ?_)
  unfold State.moveOn State.dosingState State.pumpCfg
  rw [State.modTinAt_dck, State.modTinAt_cfg]
  rfl

section
variable (e : DoseEntry) (q : Plan) (r : Bool) (f : Nat)

theorem State.touches_started : s.Touches q.canister (s.started e q r f) :=
  ((s.touches_modCanister q.canister _).trans (State.touches_modTinAt _ q.canister _)).trans
    (State.touches_modPump _ q.canister _)

theorem State.started_pins : (s.started e q r f).pins = s.pins :=
  (s.reserve q.canister (q.steps * (s.pumpCfg q.canister).d)).modTinAt_pins 2 _

theorem State.started_shots : (s.started e q r f).shots = (s.modPump q.canister (s.moveOn q.canister f)).shots :=
  congrArg (fun k : Shots => { k with pumps := k.pumps.modify q.canister (s.moveOn q.canister f) })
    ((s.reserve q.canister (q.steps * (s.pumpCfg q.canister).d)).modTinAt_shots 2 _)

theorem State.started_tinAt {s : State} {a : Tin} (ha : s.tinAt 2 = some a) :
    (s.started e q r f).tinAt 2 = some (a.startEntry e q r) :=
  State.tinAt_modTinAt (s := s.reserve q.canister (q.steps * (s.pumpCfg q.canister).d)) ha _

theorem State.started_pump {s : State} (hn : q.canister < s.shots.pumps.length) :
    (s.started e q r f).pump q.canister = s.moveOn q.canister f (s.pump q.canister) := by
  rw [State.pump, State.started_shots, ← State.pump, State.pump_modPump_self hn]

theorem State.started_canister {s : State} (hn : q.canister < s.canisters.length) :
    (s.started e q r f).canister q.canister = { s.canister q.canister with
      reserved := (s.canister q.canister).reserved + q.steps * (s.pumpCfg q.canister).d } :=
  (State.modTinAt_canister _ 2 q.canister _).trans (State.canister_modCanister_self hn _)

end

/-! ## CHANNEL_GRANT -/

theorem State.touches_granted (n ch i : Nat) : s.Touches n (s.granted ch i) :=
  (s.touches_leaveWaiting n i).trans (State.touches_setChannel _ n ch (some i))

/-- A grant whose start check passes (R86, R99, R123, R125). -/
theorem grantTaken_starts {s : State} {ch i n steps vol : Nat} {a : Tin} {e : DoseEntry} {p : Plan} {c : CanisterCfg}
    (h : s.Live) (hs : s.Shaped) (hg : s.grant = some (ch, i)) (ha : s.tinAt 2 = some a) (he : a.entry i = some e)
    (hp : e.st = .toDose p) (hn : n = p.canister) (h16 : n < 16) (hc : s.fitted n = some c) (hcol : c.colorant = e.colorant)
    (hu : s.usable n = true) (hcause : a.cause = none) (hsteps : steps = s.stepsAt n e.nominal)
    (hvol : vol = steps * (s.pumpCfg n).d) (h1 : 1 ≤ steps) (hstroke : 1 ≤ (s.pumpCfg n).strokeSteps)
    (hreach : s.strokesAt n steps ≤ 32) (havail : vol ≤ s.available n)
    (hroom : a.total + s.outstanding a + vol ≤ headroomNl a.size) : ∃ f l,
    strokesOf steps (s.strokesAt n steps) = f :: l ∧ exec .channelGrant s = .next (((s.granted ch i).started e
      { canister := n, steps := steps, strokes := strokesOf steps (s.strokesAt n steps), emitted := 0 }
      (raisedBy (s.rawSteps n e.nominal) (s.pumpCfg n).minShot) f).afterDosing s.cover) := by
  subst hn hvol
  obtain rfl : e.index = i := Tin.entry_index he
  obtain ⟨-, -, hchannels, -⟩ := hs
  obtain ⟨f, l, hl, hnext⟩ := nextStroke_strokesOf (strokeCount_pos h1 hstroke) (strokeCount_le hstroke)
  have hcheck : s.startCheck a e p = .start
      { canister := p.canister, steps := steps, strokes := strokesOf steps (s.strokesAt p.canister steps), emitted := 0 }
      (raisedBy (s.rawSteps p.canister e.nominal) (s.pumpCfg p.canister).minShot) := by
    rw [State.startCheck_of_no_cause hcause hsteps, if_neg (not_not.mpr ((s.candidate_iff _ _).mpr ⟨hu, c, hc, hcol⟩)),
      if_neg (by omega), if_neg (by omega), if_neg (by omega)]
  have hch : (s.granted ch e.index).channel ch = some e.index :=
    State.channel_setChannel_self (s := s.leaveWaiting e.index) ((State.grant_some hg).1.trans_eq hchannels.symm) _
  refine ⟨f, l, hl, ?_⟩
  rw [exec_channelGrant h hg ha he hp, State.actOnCheck_of_start (s := s.granted ch e.index) hch ha he hcheck hnext]

/-- What the entry that starts leaves of the tin. -/
theorem Tin.startEntry_raised (a : Tin) (e : DoseEntry) (q : Plan) {n m : Nat} :
    (a.startEntry e q (raisedBy n m)).raised = true ↔ a.raised = true ∨ 1 ≤ n ∧ n < m := by
  rw [← raisedBy_iff]
  exact Bool.or_eq_true_iff ..

/-- A grant whose start check fails one of its tests (R85, R87, R88, R91). -/
theorem State.startCheck_not_start {s : State} {a : Tin} {e : DoseEntry} {p : Plan} {steps : Nat}
    (hs : steps = s.stepsAt p.canister e.nominal)
    (h : a.cause ≠ none ∨ ¬ s.candidate p.canister e.colorant = true ∨ steps = 0 ∨ 32 < s.strokesAt p.canister steps ∨
      s.available p.canister < steps * (s.pumpCfg p.canister).d ∨
      headroomNl a.size < a.total + s.outstanding a + steps * (s.pumpCfg p.canister).d) (q : Plan) (r : Bool) :
    s.startCheck a e p ≠ .start q r := by
  intro hstart
  by_cases hc : a.cause = none
  · rw [State.startCheck_of_no_cause hc hs] at hstart
    split_ifs at hstart
    tauto
  · rw [State.startCheck_of_cause hc] at hstart
    cases hstart

section
variable {s} {a : Tin} {e : DoseEntry} {p : Plan} {steps : Nat}

/-- The outcomes of the start check that start nothing, each by its tests (R85). -/
theorem State.startCheck_deferred (hcause : a.cause = none) (hs : steps = s.stepsAt p.canister e.nominal)
    (h : ¬ s.candidate p.canister e.colorant = true ∨ steps ≠ 0 ∧
      (32 < s.strokesAt p.canister steps ∨ s.available p.canister < steps * (s.pumpCfg p.canister).d)) :
    s.startCheck a e p = .deferred := by
  rw [State.startCheck_of_no_cause hcause hs]
  by_cases hc : s.candidate p.canister e.colorant = true
  · obtain hc' | ⟨h0, hshort⟩ := h
    · exact absurd hc hc'
    · rw [if_neg (not_not.mpr hc), if_neg h0, if_pos hshort]
  · exact if_pos hc

theorem State.startCheck_omitted (hcause : a.cause = none) (hs : steps = s.stepsAt p.canister e.nominal)
    (hc : s.candidate p.canister e.colorant = true) (h0 : steps = 0) : s.startCheck a e p = .omitted := by
  rw [State.startCheck_of_no_cause hcause hs, if_neg (not_not.mpr hc), if_pos h0]

theorem State.startCheck_overload (hcause : a.cause = none) (hs : steps = s.stepsAt p.canister e.nominal)
    (hc : s.candidate p.canister e.colorant = true) (h0 : steps ≠ 0) (hreach : s.strokesAt p.canister steps ≤ 32)
    (havail : steps * (s.pumpCfg p.canister).d ≤ s.available p.canister)
    (hroom : headroomNl a.size < a.total + s.outstanding a + steps * (s.pumpCfg p.canister).d) :
    s.startCheck a e p = .overload := by
  rw [State.startCheck_of_no_cause hcause hs, if_neg (not_not.mpr hc), if_neg h0, if_neg (by omega), if_pos hroom]

/-- What the entry not started leaves of the tin, by the outcome. -/
theorem Tin.settleDosing_unstarted (he : a.entry e.index = some e) (self : Nat) {o : StartOutcome} {b : Tin}
    (hb : b = (a.unstarted e p self o).settleDosing) :
    b.total = a.total ∧ b.dosed = a.dosed ∧ b.raised = a.raised ∧ (∀ m, m ≠ e.index → b.entry m = a.entry m) ∧
    (o = .refused → b.entry e.index = some e ∧ b.cause = a.cause ∧ b.deferral = a.deferral) ∧
    (o = .deferred → b.entry e.index = some { e with st := .deferred } ∧ b.cause = a.cause ∧
      DeferItem.mk e.colorant e.nominal e.index self ∈ b.deferral) ∧
    (o = .omitted → b.entry e.index = some { e with st := .omitted } ∧ b.omitted = true ∧ b.deferral = a.deferral ∧
      b.cause = a.cause) ∧
    (o = .overload → a.cause = none → b.entry e.index = some { e with st := .failed p } ∧ b.cause = some .overload ∧
      b.deferral = a.deferral) := by
  obtain ⟨st, mix, hsettle⟩ := (a.unstarted e p self o).settleDosing_change
  obtain ⟨htotal, hdosed, hraised⟩ := a.unstarted_keeps e p self o
  rw [hb, hsettle]
  refine ⟨htotal, hdosed, hraised, fun m hm => a.entry_unstarted_ne e p self o hm, ?_, ?_, ?_, ?_⟩
  · rintro rfl
    exact ⟨he, rfl, rfl⟩
  · rintro rfl
    exact ⟨Tin.entry_modEntry_self he (f := fun e => { e with st := .deferred }) fun _ => rfl, rfl,
      mem_insertDefer _ _⟩
  · rintro rfl
    exact ⟨Tin.entry_modEntry_self he (f := fun e => { e with st := .omitted }) fun _ => rfl, rfl, rfl, rfl⟩
  · rintro rfl hc
    refine ⟨Tin.entry_modEntry_self he (f := fun e => { e with st := .failed p }) fun _ => rfl, ?_, rfl⟩
    exact congrArg (fun c : Option Cause => some (c.getD .overload)) hc

end

/-- Settles O39: a granted entry starts where every test of the start check passes, and gives its channel back where one
fails. -/
theorem grantTaken : Obligations.GrantTaken := by
  unfold Obligations.GrantTaken
  constructor
  · rintro s ch i n steps vol a e p c h hs hg ha he hp hn h16 hc hcol hu hcause hsteps hvol h1 hstroke hreach havail hroom
    obtain ⟨f, l, hl, hexec⟩ := grantTaken_starts h hs hg ha he hp hn h16 hc hcol hu hcause hsteps hvol h1 hstroke hreach
      havail hroom
    obtain rfl : e.index = i := Tin.entry_index he
    obtain ⟨hch, hdosing⟩ := State.grant_some hg
    obtain ⟨hcan, hpumps, hchannels, -⟩ := hs
    generalize hq : ({ canister := n, steps := steps, strokes := strokesOf steps (s.strokesAt n steps), emitted := 0 } :
      Plan) = q at hexec
    obtain rfl : q.canister = n := by rw [← hq]
    generalize hr : raisedBy (s.rawSteps q.canister e.nominal) (s.pumpCfg q.canister).minShot = r at hexec
    have htouch := ((s.touches_granted q.canister ch e.index).trans (State.touches_started _ e q r f)).trans
      (State.touches_afterDosing _ q.canister s.cover)
    have htin := State.afterDosing_tinAt (State.started_tinAt (s := s.granted ch e.index) e q r f ha) s.cover
    rw [Tin.settleDosing_of_active (Tin.hasActive_of_entry (Tin.entry_startEntry he q r) rfl)] at htin
    refine ⟨_, _, q, hexec, htouch.frame_of_pins ((State.afterDosing_pins ..).trans (State.started_pins ..)), htouch.slot,
      ?_, fun m hm => ?_, fun m => ?_, ?_, htouch.other, htin, rfl, ?_, rfl, Tin.entry_startEntry he q r,
      fun m hm => Tin.entry_startEntry_ne hm q r, fun f' l' hl' => ?_⟩
    · rw [State.afterDosing_channel, State.channel, State.started_shots]
      exact State.channel_setChannel_self (s := s.leaveWaiting e.index) (hch.trans_eq hchannels.symm) _
    · rw [State.afterDosing_channel, State.channel, State.started_shots]
      exact (s.leaveWaiting e.index).channel_setChannel_ne hm _
    · rw [State.afterDosing_shots, State.started_shots]
      exact s.mem_leaveWaiting e.index m
    · rw [State.afterDosing_canister, State.started_canister (s := s.granted ch e.index) e q r f (h16.trans_eq hcan.symm),
        hvol, ← hq]
      rfl
    · rw [← hr]
      exact a.startEntry_raised e q
    · rw [← hq, hl] at hl'
      obtain ⟨rfl, rfl⟩ := List.cons.inj hl'
      rw [State.afterDosing_pump, State.started_pump (s := s.granted ch e.index) e q r f (h16.trans_eq hpumps.symm)]
      have hdosing' : (s.granted ch e.index).dosingState = true := hdosing
      exact ⟨fun hf => (State.moveOn_of_content hdosing' hf).1, fun hf => (State.moveOn_of_content hdosing' hf).2,
        fun hf => (State.moveOn_of_short hdosing' hf).1, fun hf => (State.moveOn_of_short hdosing' hf).2⟩
  · rintro s ch i n steps a e p cand h hs hg ha he hp rfl hsteps hcand htest
    obtain rfl : e.index = i := Tin.entry_index he
    rw [← State.candidate_iff] at hcand
    rw [hcand] at htest
    obtain ⟨hch, -⟩ := State.grant_some hg
    have hexec := exec_channelGrant h hg ha he hp
    rw [State.actOnCheck_of_not_start (s := s.granted ch e.index) ch (State.startCheck_not_start hsteps htest),
      State.startCheck_granted] at hexec
    generalize hf : (fun t : Tin => t.unstarted e p (s.granted ch e.index).self (s.startCheck a e p)) = f at hexec
    have htouch := (((s.touches_granted p.canister ch e.index).trans (State.touches_modTinAt _ p.canister f)).trans
      (State.touches_freeChannel _ p.canister ch)).trans (State.touches_afterDosing _ p.canister s.cover)
    have hpins : (((s.granted ch e.index).modTinAt 2 f).freeChannel ch p.canister).pins = s.pins :=
      (State.freeChannel_pins ..).trans (State.modTinAt_pins ..)
    have hshots : (((s.granted ch e.index).modTinAt 2 f).freeChannel ch p.canister).shots =
        { (s.leaveWaiting e.index).shots with channels := (s.shots.channels.set ch (some e.index)).set ch none } := by
      rw [State.freeChannel_shots, State.modTinAt_shots]
      rfl
    obtain ⟨htotal, hdosed, hraised, hother, hrefused, hdeferred, homitted, hoverload⟩ :=
      Tin.settleDosing_unstarted he s.self (p := p) (o := s.startCheck a e p) (b := (f a).settleDosing)
        (by rw [← hf]; rfl)
    have htin := (State.freeChannel_tinAt _ ch p.canister 2).trans
      (State.tinAt_modTinAt (s := s.granted ch e.index) ha f)
    refine ⟨_, _, hexec, ?_, ?_, fun m => ?_, fun m => ?_, State.afterDosing_tinAt htin _, htotal, hdosed, hraised, hother,
      fun hc => hrefused (State.startCheck_of_cause hc), fun hc ht => ?_, fun hc hcd h0 => ?_,
      fun hc hcd h0 hreach havail => ?_, htouch.frame_of_pins ((State.afterDosing_pins ..).trans hpins)⟩
    · rw [State.afterDosing_channel, State.freeChannel_channel, if_pos rfl]
    · rw [State.afterDosing_shots, hshots]
      rfl
    · rw [State.afterDosing_shots, hshots]
      exact s.mem_leaveWaiting e.index m
    · obtain ⟨hstock, hreserved⟩ := ((s.granted ch e.index).modTinAt 2 f).freeChannel_canister ch p.canister m
      rw [State.modTinAt_canister] at hstock hreserved
      rw [State.afterDosing_canister]
      exact ⟨hreserved, hstock⟩
    · rw [← hc]
      rw [hcand] at ht
      exact hdeferred (State.startCheck_deferred hc hsteps ht)
    · rw [← hc]
      exact homitted (State.startCheck_omitted hc hsteps (hcand.mp hcd) h0)
    · refine hoverload (State.startCheck_overload hc hsteps (hcand.mp hcd) h0 hreach havail ?_) hc
      obtain hc' | hcd' | h0' | hreach' | havail' | hroom := htest
      · exact absurd hc hc'
      · exact absurd (hcand.mp hcd) hcd'
      · exact absurd h0' h0
      · exact absurd hreach (Nat.not_le.mpr hreach')
      · exact absurd havail (Nat.not_le.mpr havail')
      · exact hroom

end Sys2Proof.Machine
end

/-! # Proofs: the pulled tin (O52) -/

section
namespace Sys2Proof.Machine

variable (s : State)

/-! ## The tin table (R142) -/

theorem knownTin_eq_some {r : Option TinRecord} {a : Tin} : knownTin r = some a ↔ r = some (.known a) := by
  rcases r with - | - | t <;> simp [knownTin]

theorem State.mem_tinTable {s : State} {a : Tin} : a ∈ s.tinTable ↔
    some (.known a) ∈ s.seg.slots ∨ s.shaker.tin = some (.known a) ∨ ∃ v ∈ s.xfr.inTransit, v.tin = a := by
  simp [State.tinTable, knownTin_eq_some]

theorem State.mem_slots_of_tinAt {s : State} {n : Nat} {a : Tin} (h : s.tinAt n = some a) :
    some (.known a) ∈ s.seg.slots := by
  have hslot := State.tinAt_eq_some.mp h
  rw [State.slot, List.getD_eq_getElem?_getD] at hslot
  cases hn : s.seg.slots[n]? with
  | none => simp [hn] at hslot
  | some r =>
    rw [hn, Option.getD_some] at hslot
    exact hslot ▸ List.mem_of_getElem? hn

theorem State.tinHeld_iff {s : State} {id : TinId} : s.tinHeld id = true ↔ ∃ a ∈ s.tinTable, a.id = id := by
  simp [State.tinHeld]

/-! ## The departure (R146, R156, R164) -/

/-- From `s` to `t` the tin at slot 7 has left: slot 7 is free, a tin on the lane is the one that stood there, and beside
the chute's count, the prompt and the reports nothing else has changed. -/
structure State.Departed (s t : State) : Prop where
  frame : t = { s with
    bus := t.bus, book := t.book, panel := t.panel
    seg := { s.seg with slots := s.seg.slots.set 7 none, chute := t.seg.chute, prompt := t.seg.prompt }
    xfr := { s.xfr with inTransit := t.xfr.inTransit, release := t.xfr.release } }
  stays : ∀ v ∈ s.xfr.inTransit, v ∈ t.xfr.inTransit
  came : ∀ v ∈ t.xfr.inTransit, v ∈ s.xfr.inTransit ∨ s.tinAt 7 = some v.tin

theorem State.departed_setSlot : s.Departed (s.setSlot 7 none) := ⟨rfl, fun _ h => h, fun _ => .inl⟩

theorem State.Departed.report {s t : State} (h : s.Departed t) (m : TinReportMsg) : s.Departed (t.report m) := by
  obtain ⟨b, k, g, p, hreport⟩ := t.report_change m
  rw [hreport]
  exact ⟨by rw [h.frame], h.stays, h.came⟩

theorem State.departed_intoChute (r : TinRecord) : s.Departed ((s.setSlot 7 none).intoChute r) := by
  have hcount : s.Departed { s.setSlot 7 none with
      seg := { (s.setSlot 7 none).seg with chute := min chuteMax (s.seg.chute + 1) } } :=
    ⟨rfl, fun _ h => h, fun _ => .inl⟩
  cases r with
  | unknown => exact hcount
  | known a => exact hcount.report _

theorem State.departed_releaseTin {s : State} {a : Tin} (h : s.tinAt 7 = some a) :
    s.Departed ((s.setSlot 7 none).releaseTin a) where
  frame := rfl
  stays v hv := List.mem_append_left _ hv
  came v hv := (List.mem_append.mp hv).imp id fun hv => by rw [List.mem_singleton.mp hv, h]

theorem State.departed_depart (d : Destination) : s.Departed (s.depart d) := by
  cases hr : s.slot 7 with
  | none =>
    have hdepart : s.depart d = s := by simp only [State.depart, hr]
    have hset : s.setSlot 7 none = s := hr ▸ s.setSlot_slot 7
    have hleft := s.departed_setSlot
    rw [hset] at hleft
    rwa [hdepart]
  | some r =>
    unfold State.depart
    rw [hr]
    cases d with
    | chute => exact s.departed_intoChute r
    | dispatch => exact s.departed_setSlot
    | lane =>
      cases r with
      | unknown => exact s.departed_setSlot
      | known a => exact State.departed_releaseTin (State.tinAt_eq_some.mpr hr)

section
variable {s} {t : State}

theorem State.Departed.tinAt (h : s.Departed t) {n : Nat} (hn : n ≠ 7) : t.tinAt n = s.tinAt n := by
  rw [State.tinAt, State.tinAt, State.slot, State.slot, h.frame, List.getD_eq_getElem?_getD, List.getD_eq_getElem?_getD,
    List.getElem?_set_ne (Ne.symm hn)]

theorem State.Departed.shaker (h : s.Departed t) : t.shaker = s.shaker := by rw [h.frame]

theorem State.Departed.item (h : s.Departed t) (q : Nat) : t.item q = s.item q := by
  rw [h.frame]
  rfl

/-- What the pull reads of the state, a departure leaves. -/
theorem State.Departed.reads (h : s.Departed t) : t.self = s.self ∧ t.inService = s.inService ∧ t.pins = s.pins ∧
    t.windows = s.windows ∧ t.xfr.intake = s.xfr.intake ∧ t.xfr.pointer = s.xfr.pointer ∧
    t.xfr.expected = s.xfr.expected := by
  rw [h.frame]
  exact ⟨rfl, rfl, rfl, rfl, rfl, rfl, rfl⟩

/-- A tin of the cell after a departure was one before it: that of slot 7 now stands on the lane. -/
theorem State.Departed.mem_tinTable (h : s.Departed t) {a : Tin} (ha : a ∈ t.tinTable) : a ∈ s.tinTable := by
  have hslots : t.seg.slots = s.seg.slots.set 7 none := congrArg (fun t : State => t.seg.slots) h.frame
  obtain hslot | hshaker | ⟨v, hv, rfl⟩ := State.mem_tinTable.mp ha
  · rw [hslots] at hslot
    exact State.mem_tinTable.mpr (.inl ((List.mem_or_eq_of_mem_set hslot).resolve_right (by simp)))
  · exact State.mem_tinTable.mpr (.inr (.inl (h.shaker ▸ hshaker)))
  · obtain hv | hseven := h.came v hv
    · exact State.mem_tinTable.mpr (.inr (.inr ⟨v, hv, rfl⟩))
    · exact State.mem_tinTable.mpr (.inl (State.mem_slots_of_tinAt hseven))

/-- A tin that no departure moves is held after it. -/
theorem State.Departed.tinHeld (h : s.Departed t) {id : TinId}
    (hid : (∃ n < 7, ∃ a, s.tinAt n = some a ∧ a.id = id) ∨ (∃ a, s.shaker.tin = some (.known a) ∧ a.id = id) ∨
      ∃ v ∈ s.xfr.inTransit, v.tin.id = id) : t.tinHeld id = true := by
  refine State.tinHeld_iff.mpr ?_
  obtain ⟨n, hn, a, ha, hid⟩ | ⟨a, ha, hid⟩ | ⟨v, hv, hid⟩ := hid
  · exact ⟨a, State.mem_tinTable.mpr (.inl (State.mem_slots_of_tinAt ((h.tinAt (Nat.ne_of_lt hn)).trans ha))), hid⟩
  · exact ⟨a, State.mem_tinTable.mpr (.inr (.inl (h.shaker ▸ ha))), hid⟩
  · exact ⟨v.tin, State.mem_tinTable.mpr (.inr (.inr ⟨v, h.stays v hv, rfl⟩)), hid⟩

theorem State.Departed.tinHeld_of_new (h : s.Departed t) {id : TinId} (hid : ∀ a ∈ s.tinTable, a.id ≠ id) :
    t.tinHeld id = false := by
  rw [← Bool.not_eq_true, State.tinHeld_iff]
  rintro ⟨a, ha, ha'⟩
  exact hid a (h.mem_tinTable ha) ha'

end

/-! ## The record of the pulled tin (R92, R177) -/

theorem rejectedRecord_of_no_size {m : ConsignMsg} (h : m.size = 0 ∨ 5 < m.size) (c : Cause) :
    rejectedRecord m c = .unknown :=
  if_pos (Option.isNone_iff_eq_none.mpr ((sizeRow_eq_none m.size).mpr h))

theorem rejectedRecord_of_size {m : ConsignMsg} (h : 1 ≤ m.size ∧ m.size ≤ 5) (c : Cause) :
    rejectedRecord m c = .known (carriedTin m .reject (some c) (min m.total (headroomNl m.size))) := by
  refine if_neg fun hnone => ?_
  have hsize := (sizeRow_eq_none m.size).mp (Option.isNone_iff_eq_none.mp hnone)
  omega

section
variable (m : ConsignMsg)

/-- What a DEFERRED tin taken in keeps of its CONSIGN, whatever becomes of its deferral list. -/
theorem State.intakeTin_change : ∃ st entries deferral omitted, s.intakeTin m = { carriedTin m .pass none m.total with
    st := st, entries := entries, deferral := deferral, omitted := omitted } := by
  unfold State.intakeTin
  dsimp only
  split <;> exact ⟨_, _, _, _, rfl⟩

theorem State.intakeTin_of_denied {s : State} (h : permits s.windows m.base = false) : s.intakeTin m =
    { carriedTin m .pass none m.total with entries := carriedEntries m.deferral } :=
  if_neg (by simp [h])

theorem hasLocal_carriedEntries (l : List DeferItem) :
    (carriedEntries l).any (fun e => DoseState.isToDose e.st) = false := by
  simp [carriedEntries, DoseState.isToDose]

/-- A DEFERRED tin taken in is DOSING where an entry of it is LOCAL, and PASS otherwise. -/
theorem State.intakeTin_st : ((s.intakeTin m).st = .dosing ↔ (s.intakeTin m).hasLocal = true) ∧
    ((s.intakeTin m).st = .dosing ∨ (s.intakeTin m).st = .pass) := by
  have hst : (s.intakeTin m).st = if (s.intakeTin m).hasLocal = true then .dosing else .pass := by
    unfold State.intakeTin
    dsimp only
    split
    · rfl
    · exact (if_neg (by simp [Tin.hasLocal, hasLocal_carriedEntries])).symm
  rw [hst]
  split_ifs with hlocal <;> simp [hlocal]

/-- Planning an entry leaves its index, its colorant and its nominal volume. -/
theorem State.intakeTin_entries : (s.intakeTin m).entries.map (fun v => (v.index, v.colorant, v.nominal)) =
    m.deferral.map (fun v => (v.index, v.colorant, v.nominal)) := by
  unfold State.intakeTin
  dsimp only
  split <;> simp [carriedEntries, Function.comp_def, State.planEntry]

end

/-- The record of a tin pulled against an item, no record of the table holding its tin id. -/
def State.recordBy (s : State) (e : Expected) : Disposition → TinRecord
  | .normal _ =>
    match e.msg.status with
    | .done => .known (carriedTin e.msg .done none e.msg.total)
    | .deferred => .known (s.intakeTin e.msg)
  | .marked _ => rejectedRecord e.msg (e.mark.getD .unidentified)
  | .presumed _ => rejectedRecord e.msg .unidentified
  | .unknown => .unknown

section
variable {s} {c : Disposition} {q : Nat} {e : Expected}

theorem State.recordBy_done (h : e.msg.status = .done) :
    s.recordBy e (.normal q) = .known (carriedTin e.msg .done none e.msg.total) := by
  simp only [State.recordBy, h]

theorem State.recordBy_deferred (h : e.msg.status = .deferred) :
    s.recordBy e (.normal q) = .known (s.intakeTin e.msg) := by
  simp only [State.recordBy, h]

theorem State.pulledRecord_of_unknown (h : s.xfr.intake = .cleared .unknown) : s.pulledRecord = .unknown := by
  simp only [State.pulledRecord, h, Disposition.seq, Option.bind_none]

theorem State.pulledRecord_of_no_item (h : s.xfr.intake = .cleared c) (hq : Disposition.seq c = some q)
    (he : s.item q = none) : s.pulledRecord = .unknown := by
  simp only [State.pulledRecord, h, hq, Option.bind_some, he]

theorem State.pulledRecord_of_item (h : s.xfr.intake = .cleared c) (hq : Disposition.seq c = some q)
    (he : s.item q = some e) :
    s.pulledRecord = if s.tinHeld e.msg.tin = true then .unknown else s.recordBy e c := by
  simp only [State.pulledRecord, h, hq, Option.bind_some, he]
  rfl

theorem State.afterPull_of_unknown (h : s.xfr.intake = .cleared .unknown) : s.afterPull = s := by
  simp only [State.afterPull, h, Disposition.seq]

theorem State.afterPull_of_seq (h : s.xfr.intake = .cleared c) (hq : Disposition.seq c = some q) :
    s.afterPull = (s.dropItem q).setPointer q := by
  simp only [State.afterPull, h, hq]

/-- The items left are those after the pulled one. -/
theorem State.mem_expected_pulled (i : Expected) : i ∈ ((s.dropItem q).setPointer q).xfr.expected ↔
    i ∈ s.xfr.expected ∧ i.msg.seq ≠ q ∧ isAfter i.msg.seq q = true := by
  simp only [State.setPointer, State.dropItem, List.mem_filter, bne_iff_ne, and_assoc]

theorem State.afterPull_change (s : State) : ∃ x, s.afterPull = { s with xfr := x } := by
  unfold State.afterPull
  split
  · split <;> exact ⟨_, rfl⟩
  · exact ⟨_, rfl⟩
  · exact ⟨_, rfl⟩

end

/-! ## The intake after the pull (R172) -/

theorem State.openIntake_reads {s : State} (hself : 2 ≤ s.self) (hserv : s.inService = true)
    (hhead : s.pins.sample.laneHead = true) : s.openIntake.xfr.intake ≠ .opened := by
  rw [State.openIntake, if_pos hhead, State.firstRead_eq (s := s.setIntake .opened) hself hserv]
  split
  · next e _ =>
    split
    · unfold clearedBy
      split <;> exact Intake.noConfusion
    · exact Intake.noConfusion
  · exact Intake.noConfusion

/-! ## The completion -/

theorem exec_indexComplete {s : State} (h : s.Live) {d : Destination} {pull : Bool} {k : Nat}
    (hi : s.seg.index = .running d pull k) (x : Sample) : exec (.indexComplete x) s =
      .next ((s.latch { x with offIndex := false }).indexMoves d pull).checkCompletion := by
  simp only [exec, execIndexComplete]
  refine State.act_next h ?_
  simp only [hi]

/-- The look at the sensors after an index leaves slot 0 and the transfer unit. -/
theorem State.checkCompletion_leaves : s.checkCompletion.slot 0 = s.slot 0 ∧ s.checkCompletion.xfr = s.xfr := by
  unfold State.checkCompletion
  split
  · obtain ⟨-, -, -, hxfr, -⟩ := s.tellBays_leaves
    exact ⟨by simp [State.tellBays_slot], hxfr⟩
  · exact ⟨by rw [State.jamCell, State.slot, State.enter_slots, State.slot], by rw [State.jamCell, State.enter_xfr]⟩

/-- A pull changes the transfer unit and slot 0; its intake is then opened, and a tin that stands at the gate is read. -/
theorem State.pullIn_leaves : s.pullIn.slot 0 = some s.pulledRecord ∧ s.pullIn.xfr.pointer = s.afterPull.xfr.pointer ∧
    s.pullIn.xfr.expected = s.afterPull.xfr.expected := by
  obtain ⟨i, hopen⟩ := (s.afterPull.shift (some s.pulledRecord)).openIntake_setIntake
  rw [State.pullIn, hopen]
  exact ⟨rfl, rfl, rfl⟩

theorem State.pullIn_intake : (s.pins.sample.laneHead = false → s.pullIn.xfr.intake = .opened) ∧
    (s.pins.sample.laneHead = true → 2 ≤ s.self → s.inService = true → s.pullIn.xfr.intake ≠ .opened) := by
  rw [State.pullIn]
  obtain ⟨y, hy⟩ := s.afterPull_change
  rw [hy]
  refine ⟨fun hhead => ?_, fun hhead hself hserv => ?_⟩
  · rw [State.openIntake_of_clear (s := State.shift { s with xfr := y } (some s.pulledRecord)) hhead]
    rfl
  · exact State.openIntake_reads hself hserv hhead

/-- An index with a pull leaves slot 0 and the transfer unit as the pull from the departed state `u` gives them. -/
theorem indexComplete_pulls {s : State} (h : s.Live) {d : Destination} {k : Nat} (hi : s.seg.index = .running d true k)
    (x : Sample) : ∃ t u, exec (.indexComplete x) s = .next t ∧ (s.latch { x with offIndex := false }).Departed u ∧
      t.slot 0 = u.pullIn.slot 0 ∧ t.xfr = u.pullIn.xfr := by
  obtain ⟨hslot, hxfr⟩ := ((s.latch { x with offIndex := false }).indexMoves d true).checkCompletion_leaves
  exact ⟨_, _, exec_indexComplete h hi x, State.departed_depart _ d, hslot, hxfr⟩

/-- Settles O52: the record, the pointer and the list by the disposition at the completion, and the intake opened. -/
theorem pulledTinEntersSlotZero : Obligations.PulledTinEntersSlotZero := by
  unfold Obligations.PulledTinEntersSlotZero
  rintro x s d k c h - hserv hi hc
  obtain ⟨t, u, hexec, hu, hslot, hxfr⟩ := indexComplete_pulls h hi x
  obtain ⟨hself, hservice, hpins, hwindows, hintake, hpointer, hexpected⟩ := hu.reads
  replace hintake : u.xfr.intake = .cleared c := hintake.trans hc
  obtain ⟨hrecord, htpointer, htexpected⟩ := u.pullIn_leaves
  obtain ⟨hopened, hread⟩ := u.pullIn_intake
  rw [hpins] at hopened hread
  rw [← hxfr] at htpointer htexpected hopened hread
  refine ⟨t, _, hexec, hslot.trans hrecord, hopened,
    fun hx h2 => hread hx (h2.trans_eq hself.symm) (hservice.trans hserv), ?_, fun q hq => ?_⟩
  · rintro rfl
    rw [htpointer, htexpected, State.afterPull_of_unknown hintake]
    exact ⟨State.pulledRecord_of_unknown hintake, hpointer, hexpected⟩
  · rw [State.afterPull_of_seq hintake hq] at htpointer htexpected
    refine ⟨htpointer, fun i => ?_, fun he => State.pulledRecord_of_no_item hintake hq ((hu.item q).trans he),
      fun e he => ?_⟩
    · rw [htexpected, State.mem_expected_pulled, hexpected]
      rfl
    · rw [State.pulledRecord_of_item hintake hq ((hu.item q).trans he)]
      refine ⟨fun hheld => if_pos (hu.tinHeld hheld), fun hnew => ?_⟩
      rw [if_neg (by simp [hu.tinHeld_of_new hnew])]
      cases c with
      | unknown => cases hq
      | normal q' =>
        obtain rfl : q' = q := Option.some.inj hq
        refine ⟨fun hc => by simp at hc, fun _ => ?_⟩
        cases hstatus : e.msg.status with
        | done =>
          exact ⟨_, State.recordBy_done hstatus, rfl, rfl, rfl, rfl, rfl, rfl, rfl, rfl, rfl,
            fun _ _ => ⟨rfl, rfl, rfl, rfl, rfl, rfl⟩, nofun, fun hc => by simp at hc⟩
        | deferred =>
          have hst := u.intakeTin_st e.msg
          have hentries := u.intakeTin_entries e.msg
          have hdenied := fun hp => State.intakeTin_of_denied (s := u) (m := e.msg) (hwindows ▸ hp)
          obtain ⟨st, entries, deferral, omitted, hintaken⟩ := u.intakeTin_change e.msg
          refine ⟨_, State.recordBy_deferred hstatus, ?_⟩
          generalize u.intakeTin e.msg = a at *
          subst hintaken
          exact ⟨rfl, rfl, rfl, rfl, rfl, rfl, rfl, rfl, rfl, fun _ => nofun, fun _ _ => ⟨rfl, rfl, hst.1, hst.2,
            hentries, fun hp => by rw [hdenied hp]; exact ⟨rfl, rfl⟩⟩, fun hc => by simp at hc⟩
      | marked q' =>
        obtain rfl : q' = q := Option.some.inj hq
        refine ⟨fun _ hsize => rejectedRecord_of_no_size hsize _, fun hsize => ⟨_,
          rejectedRecord_of_size (hsize.resolve_left nofun) _, rfl, rfl, rfl, rfl, rfl, rfl, rfl, rfl, rfl, nofun, nofun,
          fun _ => ⟨rfl, rfl, rfl, rfl, nofun, fun v _ hv => ?_⟩⟩⟩
        exact congrArg (fun m : Option Cause => some (m.getD .unidentified)) hv
      | presumed q' =>
        obtain rfl : q' = q := Option.some.inj hq
        exact ⟨fun _ hsize => rejectedRecord_of_no_size hsize _, fun hsize => ⟨_,
          rejectedRecord_of_size (hsize.resolve_left nofun) _, rfl, rfl, rfl, rfl, rfl, rfl, rfl, rfl, rfl, nofun, nofun,
          fun _ => ⟨rfl, rfl, rfl, rfl, fun _ => rfl, nofun⟩⟩⟩

end Sys2Proof.Machine
end

/-! # Proofs: a STOCK taken and answered (O34, O35)

A STOCK in service does something to its canister, places one STOCK REPLY and tells the order book. The rules here bring
every one of them to that form; the statements then read what was done to the canister. -/

section
namespace Sys2Proof.Machine

/-! ## The order book told (R65, R101) -/

theorem State.tellCover_of_cover {s : State} {before : List CoverItem} (h : s.cover = before) :
    s.tellCover before = s :=
  if_pos (by simp [h])

/-- A queued notice stays while the order book is told, where every job's JOB STATUS finds room. -/
theorem State.mem_queue_tellCover {s : State} (h : s.bus.queue.length + s.book.length ≤ 16) (before : List CoverItem)
    {q : Queued} (hq : q ∈ s.bus.queue) : q ∈ (s.tellCover before).bus.queue := by
  have hblocked : s.blockedIds.length ≤ s.book.length := by
    rw [State.blockedIds, List.length_map]
    exact List.length_filter_le _ _
  unfold State.tellCover
  split
  · exact hq
  · rw [State.retestBlocked_eq]
    exact State.queue_foldl_retestJob (by omega) q hq

/-- A reply placed and the order book told: the queue and the book alone change, and the reply is queued. -/
theorem State.tellCover_stockReply (s : State) (r : StockReplyMsg) (before : List CoverItem) :
    ∃ b k, (s.place (.stockReply r)).tellCover before = { s with bus := b, book := k } ∧
      (s.bus.queue.length + s.book.length < 16 → .stockReply r ∈ b.queue.map Queued.notice) := by
  obtain ⟨b, k, h⟩ := (s.place (.stockReply r)).tellCover_frame before
  refine ⟨b, k, h, fun hroom => List.mem_map.mpr ⟨(Notice.stockReply r).queued, ?_, rfl⟩⟩
  have hadd : (s.place (.stockReply r)).bus.queue = insertQueued (Notice.stockReply r).queued s.bus.queue :=
    congrArg Bus.queue (Bus.add_of_room _ (by omega))
  have hlen : (s.place (.stockReply r)).bus.queue.length = s.bus.queue.length + 1 := by rw [hadd, insertQueued_length]
  have hmem := State.mem_queue_tellCover (s := s.place (.stockReply r)) (by rw [hlen, State.place_book]; omega) before
    (hadd ▸ mem_insertQueued.mpr (.inl rfl))
  rwa [h] at hmem

/-! ## A STOCK taken (R97, R102) -/

section
variable {s s1 : State} {src target : Nat}

/-- A STOCK addressed to this cell in service is taken, its terminal's entry refreshed, and the order book told. -/
theorem State.act_stock (h : s.Hears .terminal src) (hin : s.inService = true) (ht : target = s.self ∨ target = 31)
    (hs1 : s1 = s.refresh src none) (take : State → State) :
    s.act (fun s => s.stock src target take) = .next ((take s1).tellCover s1.cover) := by
  subst hs1
  have haddressed : (s.refresh src none).addressed target = true := by
    simpa [State.addressed, s.self_refresh] using ht
  rw [State.act_live _ h.live, State.stock, h.hear_terminal, State.inService_refresh, haddressed, hin]
  rfl

/-- A STOCK that leaves the cover as it was is its own effect and nothing more. -/
theorem State.act_stock_of_cover (h : s.Hears .terminal src) (hin : s.inService = true)
    (ht : target = s.self ∨ target = 31) (hs1 : s1 = s.refresh src none) {take : State → State} {t : State}
    (htake : take s1 = t) (hcover : t.cover = s1.cover) : s.act (fun s => s.stock src target take) = .next t := by
  rw [State.act_stock h hin ht hs1, htake, State.tellCover_of_cover hcover]

/-- An accepted STOCK: `w` is the state with the canister changed; a reply is placed and the order book told. -/
theorem State.act_stock_replied (h : s.Hears .terminal src) (hin : s.inService = true)
    (ht : target = s.self ∨ target = 31) (hs1 : s1 = s.refresh src none) (take : State → State) (w : State)
    {r : StockReplyMsg} (htake : take s1 = w.place (.stockReply r)) (hbus : w.bus = s1.bus) (hbook : w.book = s1.book) :
    ∃ b k, s.act (fun s => s.stock src target take) = .next { w with bus := b, book := k } ∧
      (s1.bus.queue.length + s.book.length < 16 → .stockReply r ∈ b.queue.map Queued.notice) := by
  obtain ⟨b, k, htold, hplaced⟩ := w.tellCover_stockReply r s1.cover
  refine ⟨b, k, by rw [State.act_stock h hin ht hs1, htake, htold], fun hroom => hplaced ?_⟩
  rwa [hbus, hbook, hs1, ← State.length_ids, State.ids_refresh, State.length_ids, ← hs1]

end

/-! ## What a terminal's refresh leaves (R21) -/

/-- All that the canister table finds in `s` it finds in `t` too. -/
structure State.SameStock (s t : State) : Prop where
  canisters : t.canisters = s.canisters
  shots : t.shots = s.shots
  cfg : t.cfg = s.cfg
  working : t.working = s.working
  canister : ∀ n, t.canister n = s.canister n
  pump : ∀ n, t.pump n = s.pump n
  fitted : ∀ n, t.fitted n = s.fitted n
  pumpCfg : ∀ n, t.pumpCfg n = s.pumpCfg n
  levelClass : ∀ n, t.levelClass n = s.levelClass n
  canisterHeld : ∀ n, t.canisterHeld n = s.canisterHeld n

theorem State.sameStock_refresh (s : State) (src : Nat) : s.SameStock (s.refresh src none) := by
  obtain ⟨t, b, k, h⟩ := s.refresh_frame src none
  rw [h]
  exact ⟨rfl, rfl, rfl, rfl, fun _ => rfl, fun _ => rfl, fun _ => rfl, fun _ => rfl, fun _ => rfl, fun _ => rfl⟩

/-! ## The tests every STOCK meets (R102) -/

section
variable {s : State} {n : Nat}

theorem State.stockTarget_of_range (h : 15 < n) : s.stockTarget n = .error .range := if_pos h

theorem State.stockTarget_of_not_fitted (hn : n ≤ 15) (h : s.fitted n = none) :
    s.stockTarget n = .error .notFitted := by
  rw [State.stockTarget, if_neg (Nat.not_lt.mpr hn), h]

theorem State.stockTarget_of_fitted {c : CanisterCfg} (hn : n ≤ 15) (h : s.fitted n = some c) :
    s.stockTarget n = .ok c := by
  rw [State.stockTarget, if_neg (Nat.not_lt.mpr hn), h]

theorem State.stockRefuse_of_le (hn : n ≤ 15) (a : StockAction) (code : StockCode) : s.stockRefuse n a code =
    s.place (.stockReply (StockReplyMsg.mk n a .refused (some code) (s.levelClass n) 0)) := by
  rw [State.stockRefuse, if_neg (Nat.not_lt.mpr hn), State.stockReply]

/-- The code and the class with which the first two tests refuse a STOCK. -/
def State.Unstockable (s : State) (n : Nat) (code : StockCode) (cls : LevelClass) : Prop :=
  15 < n ∧ code = .range ∧ cls = .unknown ∨ n ≤ 15 ∧ s.fitted n = none ∧ code = .notFitted ∧ cls = .notFitted

variable {code : StockCode} {cls : LevelClass}

theorem State.Unstockable.stockTarget (h : s.Unstockable n code cls) : s.stockTarget n = .error code := by
  obtain ⟨hn, rfl, -⟩ | ⟨hn, hfit, rfl, -⟩ := h
  · exact State.stockTarget_of_range hn
  · exact State.stockTarget_of_not_fitted hn hfit

theorem State.Unstockable.stockRefuse (h : s.Unstockable n code cls) (a : StockAction) : s.stockRefuse n a code =
    s.place (.stockReply (StockReplyMsg.mk n a .refused (some code) cls 0)) := by
  obtain ⟨hn, -, rfl⟩ | ⟨hn, hfit, -, rfl⟩ := h
  · rw [State.stockRefuse, if_pos hn, State.stockReply]
  · rw [State.stockRefuse_of_le hn, State.levelClass, hfit]

/-- Each of the four actions meets the tests first. -/
theorem State.Unstockable.take (h : s.Unstockable n code cls) (v k b : Nat) (g : Gray) :
    s.takeRefill n v k b = s.stockRefuse n .refill code ∧ s.takeSetLevel n v k b = s.stockRefuse n .setLevel code ∧
    s.takeLock n = s.stockRefuse n .lock code ∧ s.takeRelease n g = s.stockRefuse n .release code := by
  simp only [State.takeRefill, State.takeSetLevel, State.takeLock, State.takeRelease, h.stockTarget, and_self]

end

/-! ## LOCK and RELEASE (R105, R106, R138) -/

section
variable {s : State} {n : Nat} {c : CanisterCfg}

/-- The canister taken out of use. -/
def State.lockedOut (s : State) (n : Nat) : State := s.modCanister n (fun k => k.takeOut (s.canisterHeld n))

theorem State.takeLock_of_fitted (hn : n ≤ 15) (h : s.fitted n = some c) : s.takeLock n = (s.lockedOut n).place
    (.stockReply (StockReplyMsg.mk n .lock .accepted none ((s.lockedOut n).levelClass n) 0)) := by
  rw [State.takeLock, State.stockTarget_of_fitted hn h]
  rfl

theorem State.canister_lockedOut (h : n < s.canisters.length) :
    (s.lockedOut n).canister n = (s.canister n).takeOut (s.canisterHeld n) :=
  State.canister_modCanister_self h _

theorem Canister.takeOut_of_out {k : Canister} (h : k.lock = true ∨ k.pendingLock = true) (held : Bool) :
    k.takeOut held = k :=
  if_pos (by simpa using h)

/-- A canister in use that no entry holds is locked at once (R105). -/
theorem Canister.takeOut_of_free {k : Canister} (hl : k.lock = false) (hp : k.pendingLock = false) :
    k.takeOut false = { k with lock := true } := by
  simp [Canister.takeOut, hl, hp]

/-- The lock of a canister in use that an entry holds is left pending (R105). -/
theorem Canister.takeOut_of_held {k : Canister} (hl : k.lock = false) (hp : k.pendingLock = false) :
    k.takeOut true = { k with pendingLock := true } := by
  simp [Canister.takeOut, hl, hp]

/-- The canister back in use, and its pump, where it was LOCKED, cleared. -/
def State.released (s : State) (n : Nat) (g : Gray) : State :=
  (s.modCanister n (fun k => { k with lock := false, pendingLock := false })).modPump n
    (fun p => p.clearLock (s.pumpCfg n) g)

theorem State.takeRelease_of_fitted (hn : n ≤ 15) (h : s.fitted n = some c) (g : Gray) :
    s.takeRelease n g = (s.released n g).place
      (.stockReply (StockReplyMsg.mk n .release .accepted none ((s.released n g).levelClass n) 0)) := by
  rw [State.takeRelease, State.stockTarget_of_fitted hn h]
  rfl

theorem State.canister_released (h : n < s.canisters.length) (g : Gray) :
    (s.released n g).canister n = { s.canister n with lock := false, pendingLock := false } :=
  State.canister_modCanister_self h _

theorem State.pump_released (h : n < s.shots.pumps.length) (g : Gray) :
    (s.released n g).pump n = (s.pump n).clearLock (s.pumpCfg n) g :=
  State.pump_modPump_self h _

theorem Pump.clearLock_of_locked {p : Pump} (h : p.st = .locked) (cfg : PumpCfg) (g : Gray) :
    p.clearLock cfg g = { p with st := .idle, content := rederive cfg g } :=
  if_pos (by simp [h])

theorem Pump.clearLock_of_ne {p : Pump} (h : p.st ≠ .locked) (cfg : PumpCfg) (g : Gray) : p.clearLock cfg g = p :=
  if_neg (by simp [h])

/-- The level class reads nothing of a pending lock (R101). -/
theorem State.levelClass_of_pendingLock {t : State} {p : Bool} (hcfg : t.cfg = s.cfg) (hshots : t.shots = s.shots)
    (hcan : t.canister n = { s.canister n with pendingLock := p }) : t.levelClass n = s.levelClass n := by
  have hfit : t.fitted n = s.fitted n := by rw [State.fitted, hcfg, State.fitted]
  have hpump : t.pump n = s.pump n := by rw [State.pump, hshots, State.pump]
  have hpumpCfg : t.pumpCfg n = s.pumpCfg n := by rw [State.pumpCfg, hcfg, State.pumpCfg]
  unfold State.levelClass State.available
  rw [hfit, hpump, hpumpCfg, hcan]
  rfl

theorem State.usable_of_pendingLock (h : (s.canister n).pendingLock = true) : s.usable n = false := by
  simp [State.usable, h]

end

/-- Settles O35: the refusals by the two tests, which leave the cover; then what `Canister.takeOut` and `Pump.clearLock`
make of the canister and its pump. -/
theorem stockRefusedLockedReleased : Obligations.StockRefusedLockedReleased := by
  unfold Obligations.StockRefusedLockedReleased
  refine ⟨fun src target n v k b g s s1 code cls hs hin ht hs1 hcode => ?_,
    fun src target n g s s1 c hs hin ht hn hc hshape hs1 => ?_⟩
  · have hbad : s1.Unstockable n code cls := by
      rwa [State.Unstockable, hs1, (s.sameStock_refresh src).fitted]
    have hbadGray : (s1.latchGray n g).Unstockable n code cls := hbad
    obtain ⟨hrefill, hset, hlock, -⟩ := hbad.take v k b g
    obtain ⟨-, -, -, hrelease⟩ := hbadGray.take v k b g
    rw [hbad.stockRefuse] at hrefill hset hlock
    rw [hbadGray.stockRefuse] at hrelease
    exact ⟨State.act_stock_of_cover hs hin ht hs1 hrefill rfl, State.act_stock_of_cover hs hin ht hs1 hset rfl,
      State.act_stock_of_cover hs hin ht hs1 hlock rfl, State.act_stock_of_cover hs hin ht hs1 hrelease rfl⟩
  · obtain ⟨hcans, hpumps, -⟩ := hshape
    have same := s.sameStock_refresh src
    rw [← hs1] at same
    have hfit := (same.fitted n).trans hc
    have hlen : n < s1.canisters.length := by rw [same.canisters]; omega
    have hplen : n < s1.shots.pumps.length := by rw [same.shots]; omega
    constructor
    · obtain ⟨b, k, hexec, hplaced⟩ := State.act_stock_replied hs hin ht hs1 (fun s => s.takeLock n) (s1.lockedOut n)
        (State.takeLock_of_fitted hn hfit) rfl rfl
      have hself := State.canister_lockedOut hlen
      rw [same.canister, same.canisterHeld] at hself
      refine ⟨_, hexec, rfl, fun m hm => (s1.canister_modCanister_ne hm _).trans (same.canister m),
        fun hout => hself.trans (Canister.takeOut_of_out hout _), fun hl hp hheld => ?_, fun hl hp hheld => ?_, hplaced⟩
      · rw [hheld, Canister.takeOut_of_free hl hp] at hself
        exact hself
      · rw [hheld, Canister.takeOut_of_held hl hp] at hself
        exact ⟨hself, State.levelClass_of_pendingLock same.cfg same.shots hself,
          State.usable_of_pendingLock (congrArg Canister.pendingLock hself :)⟩
    · obtain ⟨b, k, hexec, hplaced⟩ := State.act_stock_replied hs hin ht hs1
        (fun s => (s.latchGray n g).takeRelease n g) ((s1.latchGray n g).released n g)
        (State.takeRelease_of_fitted (s := s1.latchGray n g) hn hfit g) rfl rfl
      have hself := State.pump_released (s := s1.latchGray n g) hplen g
      have hpump : ∀ m, (s1.latchGray n g).pump m = s.pump m := same.pump
      have hpumpCfg : (s1.latchGray n g).pumpCfg n = s.pumpCfg n := same.pumpCfg n
      rw [hpump, hpumpCfg] at hself
      refine ⟨_, hexec, rfl, ?_, fun m hm => ⟨?_, ?_⟩, fun hst => hself.trans (Pump.clearLock_of_ne hst _ _),
        fun hst => hself.trans (Pump.clearLock_of_locked hst _ _), hplaced⟩
      · rw [← same.canister]
        exact State.canister_released (s := s1.latchGray n g) hlen g
      · exact (s1.canister_modCanister_ne hm _).trans (same.canister m)
      · exact (State.pump_modPump_ne _ hm _).trans (hpump m)

end Sys2Proof.Machine
end

/-! # Proofs: STOCK REFILL and STOCK SET LEVEL (O34)

Both replace the stock of a canister and make its stirrer due where the batch changed: `State.restocked` says so once. -/

section
namespace Sys2Proof.Machine

/-! ## The stirrer made due (R108, R114) -/

/-- What a new batch makes of the stirrer of canister `n`. -/
def State.madeDue (s : State) (n : Nat) (r : Stirrer) : Stirrer :=
  match s.fitted n with
  | none => r
  | some cfg =>
    match r.st with
    | .idle => s.tested n { r with flag := true }
    | .waiting => r
    | .running => { r with left := cfg.duration * 1000 }

theorem State.stirDue_eq (s : State) (n : Nat) : s.stirDue n = s.modStir n (s.madeDue n) := by
  unfold State.stirDue
  cases hc : s.fitted n with
  | none => exact (State.modStir_id (by simp only [State.madeDue, hc])).symm
  | some cfg =>
    dsimp only
    cases hst : (s.canister n).stir.st with
    | idle =>
      dsimp only
      rw [State.stirTest_eq, State.modStir_modStir]
      refine State.modStir_congr ?_
      simp only [State.madeDue, hc, hst]
      rfl
    | waiting => exact (State.modStir_id (by simp only [State.madeDue, hc, hst])).symm
    | running => exact State.modStir_congr (by simp only [State.madeDue, hc, hst])

section
variable {s : State} {n : Nat} {c : CanisterCfg} {r : Stirrer}

/-- An IDLE stirrer made due runs, where no entry holds its canister and the cell state permits it (R108). -/
theorem State.madeDue_of_idle (hc : s.fitted n = some c) (hst : r.st = .idle) (hheld : s.canisterHeld n = false)
    (hw : s.working = true) : s.madeDue n r = Stirrer.run { r with flag := true } c := by
  simp [State.madeDue, State.tested, hc, hst, hheld, hw]

/-- A run in progress starts again with the full duration (R114). -/
theorem State.madeDue_of_running (hc : s.fitted n = some c) (hst : r.st = .running) :
    s.madeDue n r = { r with left := c.duration * 1000 } := by
  simp only [State.madeDue, hc, hst]

end

/-! ## The canister restocked (R103, R104, R114) -/

/-- The stirrer of a canister `k` that gets a stock of batch `batch`: a changed batch makes it due. -/
def State.stirFor (s : State) (n batch : Nat) (k : Canister) : Stirrer :=
  match k.stock with
  | none => k.stir
  | some old => if old.batch = batch then k.stir else s.madeDue n k.stir

/-- Canister `n` with the stock `q` in place of its own. -/
def State.restocked (s : State) (n : Nat) (q : Stock) : State :=
  s.modCanister n (fun k => { k with stock := some q, stir := s.stirFor n q.batch k })

section
variable {s : State} {n : Nat}

/-- A canister is changed by what `f` makes of it as it stands. -/
theorem State.modCanister_congr {f g : Canister → Canister} (h : f (s.canister n) = g (s.canister n)) :
    s.modCanister n f = s.modCanister n g := by
  unfold State.modCanister
  congr 1
  apply List.ext_getElem?
  intro i
  rw [List.getElem?_modify, List.getElem?_modify]
  split
  · next hi =>
    subst hi
    cases hk : s.canisters[n]? with
    | none => rfl
    | some k =>
      have : s.canister n = k := by simp [State.canister, List.getD_eq_getElem?_getD, hk]
      simp [← this, h]
  · rfl

theorem State.setStock_of_no_stock (h : (s.canister n).stock = none) (q : Stock) : s.setStock n q = s.restocked n q :=
  State.modCanister_congr (by simp only [State.stirFor, h])

theorem State.modStir_setStock (q : Stock) (g : Stirrer → Stirrer) : (s.setStock n q).modStir n g =
    s.modCanister n (fun k => { k with stock := some q, stir := g k.stir }) := by
  simp only [State.modStir, State.setStock, State.modCanister, List.modify_modify_eq]
  rfl

theorem State.newBatch_setStock {old : Stock} (h : (s.canister n).stock = some old) (q : Stock) :
    (s.setStock n q).newBatch n old q.batch = s.restocked n q := by
  unfold State.newBatch
  split
  · next hb => exact State.modCanister_congr (by simp only [State.stirFor, h, if_pos hb])
  · next hb =>
    have hdue : (s.setStock n q).madeDue n = s.madeDue n := rfl
    rw [State.stirDue_eq, hdue, State.modStir_setStock]
    exact State.modCanister_congr (by simp only [State.stirFor, h, if_neg hb])

theorem State.stirFor_of_same {k : Canister} {batch : Nat} (h : k.stock = none ∨ k.stock.map Stock.batch = some batch) :
    s.stirFor n batch k = k.stir := by
  unfold State.stirFor
  split
  · rfl
  · next old hk => exact if_pos (by simpa [hk] using h)

theorem State.stirFor_of_changed {k : Canister} {old : Stock} {batch : Nat} (hk : k.stock = some old)
    (h : old.batch ≠ batch) : s.stirFor n batch k = s.madeDue n k.stir := by
  simp only [State.stirFor, hk, if_neg h]

end

/-- What a restocked canister shows: its new stock, the stirrer made due, and the rest as it was. -/
structure State.RestockedAs (s : State) (n : Nat) (c : CanisterCfg) (q : Stock) (t : State) : Prop where
  stock : (t.canister n).stock = some q
  reserved : (t.canister n).reserved = (s.canister n).reserved
  lock : (t.canister n).lock = (s.canister n).lock
  pendingLock : (t.canister n).pendingLock = (s.canister n).pendingLock
  other : ∀ m, m ≠ n → t.canister m = s.canister m
  same : (s.canister n).stock = none ∨ (s.canister n).stock.map Stock.batch = some q.batch →
    (t.canister n).stir = (s.canister n).stir
  starts : ∀ old, (s.canister n).stock = some old → old.batch ≠ q.batch → (s.canister n).stir.st = .idle →
    s.canisterHeld n = false → s.working = true →
    (t.canister n).stir.st = .running ∧ (t.canister n).stir.left = c.duration * 1000
  again : ∀ old, (s.canister n).stock = some old → old.batch ≠ q.batch → (s.canister n).stir.st = .running →
    (t.canister n).stir = { (s.canister n).stir with left := c.duration * 1000 }

theorem State.restockedAs {s s1 : State} {n : Nat} {c : CanisterCfg} (same : s.SameStock s1) (hc : s.fitted n = some c)
    (hlen : n < s.canisters.length) (q : Stock) (b : Bus) (k : List OrderEntry) :
    s.RestockedAs n c q { s1.restocked n q with bus := b, book := k } := by
  have hlen1 : n < s1.canisters.length := by rwa [same.canisters]
  have hfit := (same.fitted n).trans hc
  have hself : State.canister { s1.restocked n q with bus := b, book := k } n =
      { s.canister n with stock := some q, stir := s1.stirFor n q.batch (s.canister n) } := by
    rw [← same.canister]
    exact State.canister_modCanister_self hlen1 _
  refine ⟨by rw [hself], by rw [hself], by rw [hself], by rw [hself],
    fun m hm => (s1.canister_modCanister_ne hm _).trans (same.canister m), fun h => ?_, fun old hold hb hst hheld hw => ?_,
    fun old hold hb hst => ?_⟩
  · rw [hself]
    exact State.stirFor_of_same h
  · rw [← same.canisterHeld] at hheld
    rw [← same.working] at hw
    rw [hself, State.stirFor_of_changed hold hb, State.madeDue_of_idle hfit hst hheld hw]
    exact ⟨rfl, rfl⟩
  · rw [hself, State.stirFor_of_changed hold hb, State.madeDue_of_running hfit hst]

/-! ## REFILL and SET LEVEL tested and taken (R102 to R104) -/

/-- The stock after a REFILL of which `accepted` is taken (R103). -/
def Stock.refilled (k : Stock) (strength batch accepted : Nat) : Stock :=
  { level := k.level + accepted, strength := blend k.strength k.level strength accepted, batch := batch }

/-- What is answered to a REFILL of `asked` nl of which `accepted` is taken (R103). -/
def refillReply (n asked accepted : Nat) (cls : LevelClass) : StockReplyMsg :=
  if accepted = asked then StockReplyMsg.mk n .refill .accepted none cls 0
  else StockReplyMsg.mk n .refill .clamped none cls (ceilDiv (asked - accepted) 1000)

theorem strengthBad_iff (strength : Nat) : strengthBad strength = true ↔ strength < 800 ∨ 1250 < strength := by
  simp [strengthBad]

theorem not_strengthBad {strength : Nat} (hlo : 800 ≤ strength) (hhi : strength ≤ 1250) : ¬ strengthBad strength = true := by
  rw [strengthBad_iff]
  omega

section
variable {s : State} {n : Nat} {c : CanisterCfg} (hn : n ≤ 15) (hc : s.fitted n = some c) (v strength batch : Nat)

include hn hc

theorem State.takeRefill_of_range (h : strength < 800 ∨ 1250 < strength ∨ v = 0) : s.takeRefill n v strength batch =
    s.place (.stockReply (StockReplyMsg.mk n .refill .refused (some .range) (s.levelClass n) 0)) := by
  rw [← s.stockRefuse_of_le hn, State.takeRefill, State.stockTarget_of_fitted hn hc]
  dsimp only
  split
  · rfl
  · next hbad =>
    rw [strengthBad_iff] at hbad
    exact if_pos (by omega)

theorem State.takeRefill_of_unknown (hlo : 800 ≤ strength) (hhi : strength ≤ 1250) (hv : 1 ≤ v)
    (hk : (s.canister n).stock = none) : s.takeRefill n v strength batch =
    s.place (.stockReply (StockReplyMsg.mk n .refill .refused (some .levelUnknown) (s.levelClass n) 0)) := by
  rw [← s.stockRefuse_of_le hn, State.takeRefill, State.stockTarget_of_fitted hn hc]
  dsimp only
  rw [if_neg (not_strengthBad hlo hhi), if_neg (by omega), hk]

theorem State.takeRefill_of_known (hlo : 800 ≤ strength) (hhi : strength ≤ 1250) (hv : 1 ≤ v) {k : Stock}
    (hk : (s.canister n).stock = some k) {accepted : Nat} {w : State}
    (ha : accepted = min (v * 1000) (c.capacity * 1000 - k.level))
    (hw : w = s.restocked n (k.refilled strength batch accepted)) : s.takeRefill n v strength batch =
    w.place (.stockReply (refillReply n (v * 1000) accepted (w.levelClass n))) := by
  have hfilled := State.newBatch_setStock hk (k.refilled strength batch accepted)
  rw [← hw, Stock.refilled, ha] at hfilled
  rw [State.takeRefill, State.stockTarget_of_fitted hn hc]
  dsimp only
  rw [if_neg (not_strengthBad hlo hhi), if_neg (by omega), hk]
  dsimp only
  rw [State.refill, hfilled, ← ha, refillReply]
  split <;> rfl

theorem State.takeSetLevel_of_range (h : strength < 800 ∨ 1250 < strength ∨ c.capacity < v) :
    s.takeSetLevel n v strength batch =
      s.place (.stockReply (StockReplyMsg.mk n .setLevel .refused (some .range) (s.levelClass n) 0)) := by
  rw [← s.stockRefuse_of_le hn, State.takeSetLevel, State.stockTarget_of_fitted hn hc]
  dsimp only
  split
  · rfl
  · next hbad =>
    rw [strengthBad_iff] at hbad
    exact if_pos (by omega)

section
variable (hlo : 800 ≤ strength) (hhi : strength ≤ 1250) (hv : v ≤ c.capacity)

include hlo hhi hv

theorem State.takeSetLevel_of_busy (h : 0 < (s.canister n).reserved) : s.takeSetLevel n v strength batch =
    s.place (.stockReply (StockReplyMsg.mk n .setLevel .refused (some .busy) (s.levelClass n) 0)) := by
  rw [← s.stockRefuse_of_le hn, State.takeSetLevel, State.stockTarget_of_fitted hn hc]
  dsimp only
  rw [if_neg (not_strengthBad hlo hhi), if_neg (by omega), if_pos h]

theorem State.takeSetLevel_of_free (h : (s.canister n).reserved = 0) {w : State}
    (hw : w = s.restocked n { level := max v c.dead * 1000, strength := strength, batch := batch }) :
    s.takeSetLevel n v strength batch =
      w.place (.stockReply (StockReplyMsg.mk n .setLevel .accepted none (w.levelClass n) 0)) := by
  rw [State.takeSetLevel, State.stockTarget_of_fitted hn hc]
  dsimp only
  rw [if_neg (not_strengthBad hlo hhi), if_neg (by omega), if_neg (by omega), State.setLevel]
  cases hk : (s.canister n).stock with
  | none =>
    dsimp only
    rw [State.setStock_of_no_stock hk, ← hw]
    rfl
  | some k =>
    have hset := State.newBatch_setStock hk { level := max v c.dead * 1000, strength := strength, batch := batch }
    dsimp only at hset ⊢
    rw [hset, ← hw]
    rfl

end

end

/-- The reply to a REFILL: accepted where all is taken, else clamped with the overfill in ul, rounded up (R103). -/
theorem refillReply_spec (n asked accepted : Nat) (cls : LevelClass) (hle : accepted ≤ asked) :
    (refillReply n asked accepted cls).canister = n ∧ (refillReply n asked accepted cls).action = .refill ∧
    (refillReply n asked accepted cls).code = none ∧ (refillReply n asked accepted cls).cls = cls ∧
    (accepted = asked → (refillReply n asked accepted cls).outcome = .accepted ∧
      (refillReply n asked accepted cls).overfill = 0) ∧
    (accepted ≠ asked → (refillReply n asked accepted cls).outcome = .clamped ∧
      asked ≤ accepted + (refillReply n asked accepted cls).overfill * 1000 ∧
      accepted + (refillReply n asked accepted cls).overfill * 1000 < asked + 1000) := by
  have hover := ceilDiv_bounds (asked - accepted) (d := 1000) (by omega)
  unfold refillReply
  split
  · next h => exact ⟨rfl, rfl, rfl, rfl, fun _ => ⟨rfl, rfl⟩, fun hne => absurd h hne⟩
  · next h =>
    refine ⟨rfl, rfl, rfl, rfl, fun he => absurd he h, fun _ => ⟨rfl, ?_, ?_⟩⟩
    all_goals dsimp only; omega

/-- Settles O34: the refusals leave the cover; a REFILL or SET LEVEL that passes restocks the canister. -/
theorem stockRefilledAndSet : Obligations.StockRefilledAndSet := by
  unfold Obligations.StockRefilledAndSet
  refine ⟨fun src target n volume strength batch s s1 c hs hin ht hn hc hshape hs1 => ?_,
    fun src target n level strength batch s s1 c hs hin ht hn hc hshape hs1 => ?_⟩
  all_goals
    have same := s.sameStock_refresh src
    rw [← hs1] at same
    have hfit := (same.fitted n).trans hc
    have hlen : n < s.canisters.length := by rw [hshape.1]; omega
    rw [← same.levelClass]
  · refine ⟨fun hbad => ?_, fun hlo hhi hv hk => ?_, fun k accepted hlo hhi hv hk hcap ha => ?_⟩
    · exact State.act_stock_of_cover hs hin ht hs1 (State.takeRefill_of_range hn hfit volume strength batch hbad) rfl
    · rw [← same.canister] at hk
      exact State.act_stock_of_cover hs hin ht hs1
        (State.takeRefill_of_unknown hn hfit volume strength batch hlo hhi hv hk) rfl
    · obtain ⟨b, o, hexec, hplaced⟩ := State.act_stock_replied hs hin ht hs1
        (fun s => s.takeRefill n volume strength batch) _
        (State.takeRefill_of_known hn hfit volume strength batch hlo hhi hv
          ((congrArg Canister.stock (same.canister n)).trans hk) ha rfl) rfl rfl
      have hnew := State.restockedAs same hc hlen (k.refilled strength batch accepted) b o
      obtain ⟨hcan, hact, hcode, hcls, hall, hclamped⟩ := refillReply_spec n (volume * 1000) accepted
        ((s1.restocked n (k.refilled strength batch accepted)).levelClass n) (by omega)
      refine ⟨_, _, hexec, hnew.stock, rfl, rfl, fun hpos => ?_, fun hzero => ?_, hnew.reserved, hnew.lock,
        hnew.pendingLock, fun hb => hnew.same (.inr (by rw [hk]; exact congrArg some hb)), hnew.starts k hk, hnew.again k hk,
        hnew.other, rfl, fun hroom => ⟨_, hplaced hroom, hcan, hact, hcode, hcls, hall, hclamped⟩⟩
      · exact if_neg (by omega)
      · exact if_pos hzero
  · refine ⟨fun hbad => ?_, fun hlo hhi hv hres => ?_, fun hlo hhi hv hres => ?_⟩
    · exact State.act_stock_of_cover hs hin ht hs1 (State.takeSetLevel_of_range hn hfit level strength batch hbad) rfl
    · rw [← same.canister] at hres
      exact State.act_stock_of_cover hs hin ht hs1
        (State.takeSetLevel_of_busy hn hfit level strength batch hlo hhi hv hres) rfl
    · obtain ⟨b, o, hexec, hplaced⟩ := State.act_stock_replied hs hin ht hs1
        (fun s => s.takeSetLevel n level strength batch) _
        (State.takeSetLevel_of_free hn hfit level strength batch hlo hhi hv
          ((congrArg Canister.reserved (same.canister n)).trans hres) rfl) rfl rfl
      have hnew := State.restockedAs same hc hlen
        { level := max level c.dead * 1000, strength := strength, batch := batch } b o
      exact ⟨_, hexec, hnew.stock, hnew.reserved.trans hres, hnew.lock, hnew.pendingLock, hnew.same, hnew.starts,
        hnew.other, rfl, hplaced⟩

end Sys2Proof.Machine
end

/-! # Proofs: the end of a stirring run (O36) -/

section
namespace Sys2Proof.Machine

/-- The stirrer as a run that ends leaves it (R110). -/
def State.stirred (s : State) (c : CanisterCfg) : Stirrer :=
  { st := .idle, due := s.dck.moment.add (s.effInterval c), flag := false, left := 0 }

theorem exec_stirringRunEnd {s : State} {n : Fin 16} {c : CanisterCfg} (h : s.Live) (hc : s.fitted n = some c)
    (hst : (s.canister n).stir.st = .running) :
    exec (.stirringRunEnd n) s = .next (s.modStir n (fun _ => s.stirred c)) := by
  simp only [exec, execStirringRunEnd]
  refine State.act_next h ?_
  simp only [hc, hst, beq_self_eq_true, if_true, State.stirred]

/-- Inside the window the effective interval is the configured one, outside it four times that (R107). -/
theorem State.effInterval_eq (s : State) (c : CanisterCfg) :
    s.effInterval c = if s.inside = true then c.interval * 60 else c.interval * 60 * 4 := by
  unfold State.effInterval
  split <;> simp

/-- Settles O36: the run that ends leaves the stirrer as `State.stirred` says, and nothing else is changed. -/
theorem stirringRunEnds : Obligations.StirringRunEnds := by
  unfold Obligations.StirringRunEnds
  intro n s c hlive hc hshape hst
  have hlen : n.val < s.canisters.length := by
    rw [hshape.1]
    exact n.isLt
  have hself : (s.modStir n (fun _ => s.stirred c)).canister n = { s.canister n with stir := s.stirred c } :=
    State.canister_modCanister_self hlen _
  have hdue := s.effInterval_eq c
  refine ⟨_, exec_stirringRunEnd hlive hc hst, rfl, fun m hm => s.canister_modCanister_ne hm _, ?_, ?_, ?_, ?_,
    fun hin => ?_, fun hout => ?_⟩
  · rw [hself]
  · rw [State.stirOut, hself]
    simp [State.drives, State.stirred]
  · rw [hself]
    rfl
  · rw [hself]
    rfl
  · rw [if_pos hin] at hdue
    rw [hself, State.stirred, hdue]
  · rw [if_neg (by simp [hout])] at hdue
    rw [hself, State.stirred, hdue]

end Sys2Proof.Machine
end

/-! # Proofs: the encoder, the profile and the movement through its stages (O37) -/

section
namespace Sys2Proof.Machine

/-! ## The encoder (R130, R136) -/

/-- A bit in binary is the Gray bit with the binary bit above it (R130). -/
theorem getLsbD_grayToBinary (g : Gray) (i : Nat) :
    (grayToBinary g).getLsbD i = (g.getLsbD i ^^ (grayToBinary g).getLsbD (i + 1)) := by
  have htop : g.getLsbD (10 + i) = false := BitVec.getLsbD_of_ge g _ (by omega)
  simp only [grayToBinary, BitVec.getLsbD_xor, BitVec.getLsbD_ushiftRight, Nat.add_comm i 1, ← Nat.add_assoc,
    Nat.reduceAdd, htop, Bool.xor_false, Bool.xor_assoc]

theorem getLsbD_grayToBinary_top (g : Gray) : (grayToBinary g).getLsbD 9 = g.getLsbD 9 := by
  rw [getLsbD_grayToBinary, BitVec.getLsbD_of_ge _ (9 + 1) (by omega), Bool.xor_false]

theorem encoderOk_iff (p : PumpCfg) (e : Nat) (g : Gray) : encoderOk p e g = true ↔
    (grayToBinary g).toNat ≤ expectedCode e p.strokeSteps + p.tolerance ∧
      expectedCode e p.strokeSteps ≤ (grayToBinary g).toNat + p.tolerance := by
  rw [encoderOk, Bool.and_eq_true, decide_eq_true_iff, decide_eq_true_iff]

/-! ## The stages (R118) -/

section
variable {p : PumpCfg}

theorem profile_bounds (h : profileBad p = false) : p.startRate ≤ p.topRate ∧ 2 ≤ p.stages := by
  simp only [profileBad, Bool.or_eq_false_iff, decide_eq_false_iff_not] at h
  omega

@[simp] theorem stageRate_zero (p : PumpCfg) : stageRate p 0 = p.startRate := by simp [stageRate]

theorem startRate_le_stageRate (p : PumpCfg) (i : Nat) : p.startRate ≤ stageRate p i := Nat.le_add_right _ _

theorem stageRate_mono (p : PumpCfg) {i j : Nat} (h : i ≤ j) : stageRate p i ≤ stageRate p j :=
  Nat.add_le_add_left (Nat.div_le_div_right (Nat.mul_le_mul_left _ h)) _

theorem stageRate_last (h : profileBad p = false) : stageRate p (p.stages - 1) = p.topRate := by
  obtain ⟨hrate, hstages⟩ := profile_bounds h
  rw [stageRate, Nat.mul_div_cancel _ (by omega), Nat.add_sub_cancel' hrate]

theorem stageRate_le_topRate (h : profileBad p = false) {i : Nat} (hi : i < p.stages) : stageRate p i ≤ p.topRate :=
  (stageRate_mono p (Nat.le_sub_one_of_lt hi)).trans_eq (stageRate_last h)

/-- The first stages take one step more than the others where the ramp does not divide evenly. -/
theorem stageCount_near (p : PumpCfg) {i j : Nat} (h : i ≤ j) :
    stageCount p j ≤ stageCount p i ∧ stageCount p i ≤ stageCount p j + 1 := by
  unfold stageCount
  split <;> split <;> omega

@[simp] theorem rampSum_zero (p : PumpCfg) : rampSum p 0 = 0 := rfl

theorem rampSum_succ (p : PumpCfg) (m : Nat) : rampSum p (m + 1) = rampSum p m + stageCount p m := by
  simp [rampSum, List.range_succ]

theorem rampSum_eq (p : PumpCfg) (m : Nat) :
    rampSum p m = m * (p.rampSteps / p.stages) + min m (p.rampSteps % p.stages) := by
  induction m with
  | zero => simp
  | succ m ih =>
    rw [rampSum_succ, ih, stageCount, Nat.succ_mul]
    split <;> omega

/-- The counts of all stages sum to the ramp steps. -/
theorem rampSum_stages (h : profileBad p = false) : rampSum p p.stages = p.rampSteps := by
  have hmod := Nat.mod_lt p.rampSteps (show 0 < p.stages by have := (profile_bounds h).2; omega)
  rw [rampSum_eq, Nat.min_eq_right hmod.le, Nat.div_add_mod]

/-! ## The stages of a short ramp (R129) -/

theorem shortStages_le (p : PumpCfg) (steps m : Nat) : shortStages p steps m ≤ m := by
  induction m with
  | zero => exact Nat.le_refl 0
  | succ m ih =>
    rw [shortStages]
    split
    · exact Nat.le_refl _
    · exact ih.trans m.le_succ

theorem rampSum_shortStages (p : PumpCfg) (steps m : Nat) : 2 * rampSum p (shortStages p steps m) ≤ steps := by
  induction m with
  | zero => exact steps.zero_le
  | succ m ih =>
    rw [shortStages]
    split
    · assumption
    · exact ih

/-- One stage more than those of a short ramp is one too many. -/
theorem shortStages_largest (p : PumpCfg) (steps : Nat) {m : Nat} (h : shortStages p steps m < m) :
    steps < 2 * rampSum p (shortStages p steps m + 1) := by
  induction m with
  | zero => omega
  | succ m ih =>
    rw [shortStages] at h ⊢
    split at h
    · omega
    · next hover =>
      rw [if_neg hover]
      obtain heq | hlt := (shortStages_le p steps m).eq_or_lt
      · rw [heq]
        omega
      · exact ih hlt

/-! ## The movement (R129) -/

/-- Up through the first `m` stages, `c` steps at `rate`, and down again. -/
def trapezoid (p : PumpCfg) (m c rate : Nat) : List (Nat × Nat) := rampUp p m ++ (c, rate) :: (rampUp p m).reverse

theorem sum_rampUp (p : PumpCfg) (m : Nat) : ((rampUp p m).map Prod.fst).sum = rampSum p m := by
  rw [rampUp, List.map_map, rampSum]
  rfl

theorem sum_trapezoid (p : PumpCfg) (m c rate : Nat) :
    ((trapezoid p m c rate).map Prod.fst).sum = 2 * rampSum p m + c := by
  simp only [trapezoid, List.map_append, List.map_cons, List.map_reverse, List.sum_append, List.sum_cons, List.sum_reverse,
    sum_rampUp]
  omega

/-- Every run is driven at the cruising rate or at that of one of the stages. -/
theorem mem_trapezoid {m c rate : Nat} {r : Nat × Nat} (h : r ∈ trapezoid p m c rate) :
    r.2 = rate ∨ ∃ i < m, r.2 = stageRate p i := by
  have hup (hr : r ∈ rampUp p m) : ∃ i < m, r.2 = stageRate p i := by
    obtain ⟨i, hi, rfl⟩ := List.mem_map.mp hr
    exact ⟨i, List.mem_range.mp hi, rfl⟩
  rw [trapezoid, List.mem_append, List.mem_cons, List.mem_reverse] at h
  obtain hr | rfl | hr := h
  · exact .inr (hup hr)
  · exact .inl rfl
  · exact .inr (hup hr)

theorem movementRuns_full {steps : Nat} (h : 2 * p.rampSteps ≤ steps) :
    movementRuns p steps = trapezoid p p.stages (steps - 2 * p.rampSteps) p.topRate := if_pos h

theorem movementRuns_short {steps : Nat} (h : steps < 2 * p.rampSteps) {m : Nat}
    (hm : m = shortStages p steps (p.stages - 1)) : movementRuns p steps =
      trapezoid p m (steps - 2 * rampSum p m) (if m = 0 then p.startRate else stageRate p (m - 1)) := by
  subst hm
  exact if_neg (Nat.not_le.mpr h)

/-- A short ramp runs through as many stages as twice their sum allows, but not through all of them. -/
theorem exists_movementRuns_short (h : profileBad p = false) {steps : Nat} (hs : steps < 2 * p.rampSteps) :
    ∃ m < p.stages, 2 * rampSum p m ≤ steps ∧ (m + 1 < p.stages → steps < 2 * rampSum p (m + 1)) ∧
      movementRuns p steps =
        trapezoid p m (steps - 2 * rampSum p m) (if m = 0 then p.startRate else stageRate p (m - 1)) := by
  have hstages := (profile_bounds h).2
  have hle := shortStages_le p steps (p.stages - 1)
  exact ⟨_, by omega, rampSum_shortStages p steps _, fun hm => shortStages_largest p steps (by omega),
    movementRuns_short hs rfl⟩

/-- Either ramp goes up through some of the stages, cruises the steps left within the rates, and comes down again. -/
theorem exists_movementRuns (h : profileBad p = false) (steps : Nat) : ∃ m ≤ p.stages, ∃ rate,
    2 * rampSum p m ≤ steps ∧ p.startRate ≤ rate ∧ rate ≤ p.topRate ∧
      movementRuns p steps = trapezoid p m (steps - 2 * rampSum p m) rate := by
  have hrate := (profile_bounds h).1
  obtain hs | hs := Nat.lt_or_ge steps (2 * p.rampSteps) |>.symm
  · exact ⟨_, Nat.le_refl _, _, by rwa [rampSum_stages h], hrate, Nat.le_refl _, by
      rw [rampSum_stages h, movementRuns_full hs]⟩
  · obtain ⟨m, hm, hsum, -, hruns⟩ := exists_movementRuns_short h hs
    refine ⟨m, hm.le, _, hsum, ?_, ?_, hruns⟩
    · split
      · exact Nat.le_refl _
      · exact startRate_le_stageRate p _
    · split
      · exact hrate
      · exact stageRate_le_topRate h (by omega)

theorem sum_movementRuns (h : profileBad p = false) (steps : Nat) : ((movementRuns p steps).map Prod.fst).sum = steps := by
  obtain ⟨m, -, rate, hsum, -, -, hruns⟩ := exists_movementRuns h steps
  rw [hruns, sum_trapezoid, Nat.add_sub_cancel' hsum]

theorem movementRuns_rate (h : profileBad p = false) {steps : Nat} {r : Nat × Nat} (hr : r ∈ movementRuns p steps) :
    p.startRate ≤ r.2 ∧ r.2 ≤ p.topRate := by
  obtain ⟨m, hm, rate, -, hlow, hhigh, hruns⟩ := exists_movementRuns h steps
  rw [hruns] at hr
  obtain hr | ⟨i, hi, hr⟩ := mem_trapezoid hr <;> rw [hr]
  · exact ⟨hlow, hhigh⟩
  · exact ⟨startRate_le_stageRate p i, stageRate_le_topRate h (by omega)⟩

end

/-- No more steps are driven than the runs hold, however long they are given. -/
theorem stepsWithin_le_sum (l : List (Nat × Nat)) (num den : Nat) : stepsWithin l num den ≤ (l.map Prod.fst).sum := by
  induction l generalizing num den with
  | nil => exact Nat.le_refl 0
  | cons r l ih =>
    obtain ⟨n, rate⟩ := r
    rw [stepsWithin, List.map_cons, List.sum_cons]
    split
    · exact Nat.add_le_add_left (ih _ _) n
    · next hlt =>
      have hmul : num * rate ≤ den * n := by
        rw [Nat.mul_comm den]
        exact (Nat.not_le.mp hlt).le
      have hdiv := Nat.div_le_of_le_mul hmul
      exact hdiv.trans (Nat.le_add_right _ _)

/-- Settles O37: the bits of the conversion, the counts of the stages, and the one shape of both ramps. -/
theorem encoderAndProfile : Obligations.EncoderAndProfile := by
  unfold Obligations.EncoderAndProfile
  constructor
  · rintro p g e b x - rfl rfl
    exact ⟨getLsbD_grayToBinary_top g, fun i _ => getLsbD_grayToBinary g i, encoderOk_iff p e g, rederive_le p g, rfl⟩
  · intro p steps h
    have hsum := sum_movementRuns h steps
    exact ⟨stageRate_zero p, stageRate_last h, rampSum_stages h,
      fun i j hij _ => ⟨stageRate_mono p hij, stageCount_near p hij⟩, hsum, fun _ hr => movementRuns_rate h hr,
      movementRuns_full, exists_movementRuns_short h, fun time => (stepsWithin_le_sum _ time 1000).trans_eq hsum⟩

end Sys2Proof.Machine
end

/-! # Proofs: the arbiter's choice (O38) -/

section
namespace Sys2Proof.Machine

variable (s : State)

theorem State.dosingState_iff : s.dosingState = true ↔ s.dck.cell = .run ∨ s.dck.cell = .night := by
  unfold State.dosingState
  cases s.dck.cell <;> simp

/-! ## The channel (R121, R122) -/

/-- Channel `ch` may be handed out: it is free and not faulted (R121, R122). -/
def State.Grantable (s : State) (ch : Nat) : Prop := ch < 4 ∧ s.channel ch = none ∧ s.faulted ch = false

theorem State.freeChannel?_eq_some {s : State} {ch : Nat} :
    s.freeChannel? = some ch ↔ s.Grantable ch ∧ ∀ k < ch, ¬ s.Grantable k := by
  have hopen (k : Nat) :
      ((s.channel k).isNone && !s.faulted k) = true ↔ s.channel k = none ∧ s.faulted k = false := by simp
  simp only [State.freeChannel?, List.find?_range_eq_some, Bool.not_eq_true', ← Bool.not_eq_true, hopen, List.mem_range,
    State.Grantable]
  constructor
  · rintro ⟨hch, hlt, hmin⟩
    exact ⟨⟨hlt, hch⟩, fun k hk hc => hmin k hk hc.2⟩
  · rintro ⟨⟨hlt, hch⟩, hmin⟩
    exact ⟨hch, hlt, fun k hk hc => hmin k hk ⟨hk.trans hlt, hc⟩⟩

/-! ## The entry (R122) -/

theorem State.pumpReady_iff (n : Nat) : s.pumpReady n = true ↔
    (s.pump n).st ≠ .switching ∧ (s.pump n).st ≠ .stroking ∧ (s.pump n).st ≠ .refilling ∧
      (s.canister n).stir.st ≠ .running := by
  rw [State.pumpReady, Bool.and_eq_true]
  cases (s.pump n).st <;> simp [PumpState.inMotion]

theorem State.waitingReady_iff (i : Nat) : s.waitingReady i = true ↔
    ∃ t e p, s.tinAt 2 = some t ∧ t.entry i = some e ∧ e.st = .toDose p ∧ s.pumpReady p.canister = true := by
  unfold State.waitingReady
  cases ht : s.tinAt 2 with
  | none => simp
  | some t =>
    cases he : t.entry i with
    | none => simp [he]
    | some e => cases hp : e.st <;> simp [he, hp]

/-- The next entry is the least index whose entry waits with its pump ready. -/
theorem State.nextWaiting_eq_some {i : Nat} : s.nextWaiting = some i ↔
    (i ∈ s.shots.waiting ∧ s.waitingReady i = true) ∧
      ∀ k < i, ¬ (k ∈ s.shots.waiting ∧ s.waitingReady k = true) := by
  simp only [State.nextWaiting, List.min?_eq_some_iff, List.mem_filter]
  exact and_congr_right fun _ => forall_congr' fun k =>
    ⟨fun h hk hr => Nat.not_lt.mpr (h hr) hk, fun h hr => Nat.not_lt.mp fun hk => h hk hr⟩

/-! ## The grant (R122, R124, R146) -/

theorem State.grant_eq_some {ch i : Nat} : s.grant = some (ch, i) ↔
    (s.dosingState = true ∧ s.dck.cap = .opened ∧ s.pins.spill = false ∧ s.seg.index.isRunning = false) ∧
      s.freeChannel? = some ch ∧ s.nextWaiting = some i := by
  unfold State.grant
  split
  · next h =>
    have hgate : s.dosingState = true ∧ s.dck.cap = .opened ∧ s.pins.spill = false ∧ s.seg.index.isRunning = false := by
      simpa [and_assoc] using h
    cases s.freeChannel? <;> cases s.nextWaiting <;> simp [hgate]
  · next h => exact iff_of_false nofun fun hgrant => h (by simp [hgrant])

theorem exec_channelGrant_none {s : State} (h : s.Live) (hg : s.grant = none) : exec .channelGrant s = .next s := by
  simp only [exec, execChannelGrant]
  refine State.act_next h ?_
  simp only [hg]

/-- Settles O38: the least channel and the least index that may be granted, once the gates are open. -/
theorem arbiterChoosesLowest : Obligations.ArbiterChoosesLowest := by
  unfold Obligations.ArbiterChoosesLowest
  intro s free ready h hfree hready
  obtain rfl : free = s.Grantable := funext fun ch => propext (hfree ch)
  have hready' (i : Nat) : ready i ↔ i ∈ s.shots.waiting ∧ s.waitingReady i = true := by
    simp only [hready, s.waitingReady_iff, s.pumpReady_iff]
  refine ⟨fun ch i => ?_, exec_channelGrant_none h⟩
  simp only [s.grant_eq_some, s.dosingState_iff, State.freeChannel?_eq_some, s.nextWaiting_eq_some, hready', and_assoc]

end Sys2Proof.Machine
end

/-! # Proofs: SWITCH_END and a complete REFILL_END (O40) -/

section
namespace Sys2Proof.Machine

/-! ## What the next movement leaves of a pump (R125) -/

section
variable (s : State) (n c : Nat) (u : Pump)

theorem Pump.begin_valve (k : Nat) : (u.begin k c).valve = u.valve := by
  unfold Pump.begin
  split_ifs <;> rfl

theorem Pump.begin_time (k : Nat) : (u.begin k c).time = 0 := by
  unfold Pump.begin
  split_ifs <;> rfl

theorem State.moveOn_valve : (s.moveOn n c u).valve = u.valve := by
  unfold State.moveOn
  split
  · exact u.begin_valve _ _
  · rfl

theorem State.moveOn_time : (s.moveOn n c u).time = 0 := by
  unfold State.moveOn
  split
  · exact u.begin_time _ _
  · rfl

end

/-! ## The movement that follows the one that ends -/

section
variable {s : State} {ch : Fin 4} {i c : Nat} {a : Tin} {e : DoseEntry} {p : Plan}

/-- A pump changed by `f`, whose entry then goes on with a movement of `c` steps (R125). -/
def State.goOn (s : State) (n c : Nat) (f : Pump → Pump) : State :=
  (s.modPump n f).modPump n (s.moveOn n c)

theorem State.goOn_pump_self {n : Nat} (h : n < s.shots.pumps.length) (c : Nat) (f : Pump → Pump) :
    (s.goOn n c f).pump n = s.moveOn n c (f (s.pump n)) := by
  rw [State.goOn, State.pump_modPump_self, State.pump_modPump_self h]
  exact h.trans_eq (List.length_modify ..).symm

theorem State.goOn_pump_ne {n m : Nat} (h : m ≠ n) (c : Nat) (f : Pump → Pump) : (s.goOn n c f).pump m = s.pump m :=
  (State.pump_modPump_ne _ h _).trans (State.pump_modPump_ne _ h _)

theorem State.nextMove_modPump (hi : s.channel ch = some i) (ha : s.tinAt 2 = some a) (he : a.entry i = some e)
    (hp : e.st = .active p) (hc : nextStroke p.strokes p.emitted = some c) (f : Pump → Pump) :
    (s.modPump p.canister f).nextMove ch = s.goOn p.canister c f :=
  State.nextMove_of_active (s := s.modPump p.canister f) hi ha he hp hc

theorem exec_switchEnd (h : s.Live) (hi : s.channel ch = some i) (ha : s.tinAt 2 = some a) (he : a.entry i = some e)
    (hp : e.st = .active p) (hst : (s.pump p.canister).st = .switching) (hc : nextStroke p.strokes p.emitted = some c) :
    exec (.switchEnd ch) s = .next (s.goOn p.canister c Pump.switched) := by
  simp only [exec, execSwitchEnd]
  refine State.act_next h ?_
  simp only [State.heldCanister_of_active (State.heldEntry_eq hi ha he) hp, hst, beq_self_eq_true, if_true]
  exact State.nextMove_modPump hi ha he hp hc _

theorem exec_refillEnd_complete (h : s.Live) (hi : s.channel ch = some i) (ha : s.tinAt 2 = some a)
    (he : a.entry i = some e) (hp : e.st = .active p) (hst : (s.pump p.canister).st = .refilling)
    (hc : nextStroke p.strokes p.emitted = some c) {g : Gray}
    (hg : encoderOk (s.pumpCfg p.canister) (s.pumpCfg p.canister).strokeSteps g = true) :
    exec (.refillEnd ch g) s = .next
      ((s.latchGray p.canister g).goOn p.canister c (fun u => u.moved (s.pumpCfg p.canister).strokeSteps)) := by
  simp only [exec, execRefillEnd]
  refine State.act_next h ?_
  simp only [State.heldCanister_of_active (State.heldEntry_eq hi ha he) hp, hst, hg, beq_self_eq_true, if_true]
  exact State.nextMove_modPump (s := s.latchGray p.canister g) hi ha he hp hc _

end

/-- Settles O40: both ends change the pump and let its entry go on. -/
theorem switchAndRefillEnd : Obligations.SwitchAndRefillEnd := by
  unfold Obligations.SwitchAndRefillEnd
  constructor
  · rintro ch s i n f a e p h ⟨-, hpumps, -⟩ hi ha he hp rfl hn hst hf
    refine ⟨_, exec_switchEnd h hi ha he hp hst hf, rfl, rfl, rfl, fun m hm => State.goOn_pump_ne hm _ _, ?_⟩
    rw [State.goOn_pump_self (hn.trans_eq hpumps.symm)]
    refine ⟨State.moveOn_valve .., State.moveOn_content .., State.moveOn_of_not_dosing, fun hd hle hv => ?_,
      fun hd hlt hv => ?_⟩
    · obtain ⟨hstroke, hsteps⟩ := (State.moveOn_of_content (u := (s.pump p.canister).switched) hd hle).1 hv
      exact ⟨hstroke, hsteps, State.moveOn_time ..⟩
    · obtain ⟨hrefill, hsteps⟩ := (State.moveOn_of_short (u := (s.pump p.canister).switched) hd hlt).1 hv
      exact ⟨hrefill, hsteps, State.moveOn_time ..⟩
  · rintro ch g s i n f a e p h ⟨-, hpumps, -⟩ hi ha he hp rfl hn hst hf hle hg
    refine ⟨_, exec_refillEnd_complete h hi ha he hp hst hf hg, rfl, rfl, fun m hm => State.goOn_pump_ne hm _ _, ?_⟩
    rw [State.goOn_pump_self (s := s.latchGray p.canister g) (hn.trans_eq hpumps.symm)]
    exact ⟨State.moveOn_content .., State.moveOn_valve .., State.moveOn_of_not_dosing,
      fun hd => (State.moveOn_of_content (u := (s.pump p.canister).moved _) hd hle).2,
      fun hd => (State.moveOn_of_content (u := (s.pump p.canister).moved _) hd hle).1⟩

end Sys2Proof.Machine
end

/-! # Proofs: channel faults, the spill input, the chute door and the dispatch table (O43) -/

section
namespace Sys2Proof.Machine

variable (s : State)

/-! ## The fault and spill inputs (R121, R124) -/

/-- A command of a channel's fault input sets that channel's bit and no other (R121). -/
theorem State.faulted_setFault (ch : Fin 4) (low : Bool) {k : Nat} (hk : k < 4) :
    (s.setFault ch low).faulted k = if k = ch then low else s.faulted k := by
  have hbit : (1#4 <<< ch.val).getLsbD k = decide (k = ch) := by
    rw [← BitVec.twoPow_eq, BitVec.getLsbD_twoPow, decide_eq_true ch.isLt, Bool.true_and, decide_eq_decide, eq_comm]
  cases low
  · simp only [State.faulted, State.setFault, Bool.false_eq_true, if_false, BitVec.getLsbD_and, BitVec.getLsbD_not, hbit, hk]
    by_cases h : k = ch <;> simp [h]
  · simp only [State.faulted, State.setFault, if_true, BitVec.getLsbD_or, hbit]
    by_cases h : k = ch <;> simp [h]

/-- A faulted channel is not handed out (R121). -/
theorem State.freeChannel?_ne_of_faulted {s : State} {ch : Nat} (h : s.faulted ch = true) : s.freeChannel? ≠ some ch := by
  intro hfree
  have hopen := List.find?_some hfree
  simp [h] at hopen

theorem State.grant_of_spill {s : State} (h : s.pins.spill = true) : s.grant = none := if_neg (by simp [h])

theorem exec_driveFault_free {s : State} {ch : Fin 4} (h : s.Live) (hfree : s.channel ch = none) (g : Gray) :
    exec (.driveFault ch g) s = .next (s.setFault ch true) := by
  have hheld : s.heldCanister ch = none := by simp [State.heldCanister, State.heldEntry, hfree]
  simp only [exec, execDriveFault]
  refine State.act_next h ?_
  simp only [hheld]

/-! ## The commands of the inputs -/

section
variable {s : State} (h : s.Live)
include h

theorem exec_channelFaultCleared (ch : Fin 4) : exec (.channelFaultCleared ch) s = .next (s.setFault ch false) := by
  simp only [exec, execChannelFaultCleared]
  exact State.act_live _ h

theorem exec_spillAsserted : exec .spillAsserted s = .next { s with pins := { s.pins with spill := true } } := by
  simp only [exec, execSpillAsserted]
  exact State.act_live _ h

theorem exec_spillReleased : exec .spillReleased s = .next { s with pins := { s.pins with spill := false } } := by
  simp only [exec, execSpillReleased]
  exact State.act_live _ h

theorem exec_chuteDoorOpened :
    exec .chuteDoorOpened s = .next { s with pins := { s.pins with chuteDoor := true } } := by
  simp only [exec, execChuteDoorOpened]
  exact State.act_live _ h

theorem exec_chuteDoorClosed : exec .chuteDoorClosed s =
    .next { s with pins := { s.pins with chuteDoor := false }, seg := { s.seg with chute := 0 } } := by
  simp only [exec, execChuteDoorClosed]
  exact State.act_live _ h

theorem exec_dispatchFullChange (full : Bool) :
    exec (.dispatchFullChange full) s = .next { s with pins := { s.pins with dispatchFull := full } } := by
  simp only [exec, execDispatchFullChange]
  exact State.act_live _ h

end

theorem State.canLeave_chute_of_open {s : State} (h : s.pins.chuteDoor = true) : s.canLeave .chute = false :=
  Bool.eq_false_iff.mpr fun hleave => by simpa [h] using s.chuteReady_iff.mp hleave

/-- Settles O43: each input is set alone, and what is judged by it follows. -/
theorem inputLevelsTaken : Obligations.InputLevelsTaken := by
  unfold Obligations.InputLevelsTaken
  constructor
  · intro ch g s h
    have hself (low : Bool) : (s.setFault ch low).faulted ch = low :=
      (s.faulted_setFault ch low ch.isLt).trans (if_pos rfl)
    have hother (low : Bool) : ∀ k < 4, k ≠ ch.val → (s.setFault ch low).faulted k = s.faulted k :=
      fun k hk hne => (s.faulted_setFault ch low hk).trans (if_neg hne)
    refine ⟨fun hfree => ?_, ?_, ?_, ?_⟩
    · exact ⟨_, exec_driveFault_free h hfree g, rfl, rfl, hself true, hother true,
        State.freeChannel?_ne_of_faulted (hself true)⟩
    · exact ⟨_, exec_channelFaultCleared h ch, rfl, rfl, hself false, hother false⟩
    · exact ⟨_, exec_spillAsserted h, rfl, State.grant_of_spill rfl⟩
    · exact ⟨_, exec_spillReleased h, rfl⟩
  · intro full s h
    refine ⟨?_, ?_, ?_⟩
    · exact ⟨_, exec_chuteDoorOpened h, rfl, State.canLeave_chute_of_open rfl⟩
    · exact ⟨_, exec_chuteDoorClosed h, rfl, (State.chuteReady_iff _).mpr ⟨Nat.succ_pos 5, rfl⟩⟩
    · exact ⟨_, exec_dispatchFullChange h full, rfl, rfl⟩

end Sys2Proof.Machine
end

/-! # Proofs: what a report reads (O46) -/

section
namespace Sys2Proof.Machine

/-- `t` has the send queue, the order book and the identity of `s`: what a report reads and changes of both. -/
structure State.SameBook (s t : State) : Prop where
  bus : t.bus = s.bus
  book : t.book = s.book
  cfg : t.cfg = s.cfg

section
variable {s t : State}

theorem State.SameBook.self (h : s.SameBook t) : t.self = s.self := congrArg (fun c : StartUp => c.station.getD 0) h.cfg

theorem State.SameBook.entry (h : s.SameBook t) (id : OrderId) : t.entry id = s.entry id :=
  congrArg (List.find? fun e : OrderEntry => e.id == id) h.book

theorem State.SameBook.place (h : s.SameBook t) (n : Notice) : (s.place n).SameBook (t.place n) :=
  ⟨congrArg (fun b : Bus => b.add n.queued) h.bus, h.book, h.cfg⟩

theorem State.SameBook.modEntry (h : s.SameBook t) (id : OrderId) (f : OrderEntry → OrderEntry) :
    (s.modEntry id f).SameBook (t.modEntry id f) :=
  ⟨h.bus, congrArg (List.map fun e : OrderEntry => if e.id == id then f e else e) h.book, h.cfg⟩

theorem State.SameBook.placeJobStatus (h : s.SameBook t) (id : OrderId) :
    (s.placeJobStatus id).SameBook (t.placeJobStatus id) := by
  unfold State.placeJobStatus
  rw [h.entry, h.self]
  cases s.entry id with
  | none => exact h
  | some e =>
    dsimp only
    cases e.job with
    | none => exact h
    | some j =>
      cases OrderState.jobState e.st with
      | none => exact h
      | some st => exact (h.place _).modEntry id _

theorem State.SameBook.withdrawPrompt (h : s.SameBook t) (id : OrderId) :
    (s.withdrawPrompt id).SameBook (t.withdrawPrompt id) := by
  rw [s.withdrawPrompt_eq, t.withdrawPrompt_eq]
  exact ⟨h.bus, h.book, h.cfg⟩

theorem State.SameBook.settleJob (h : s.SameBook t) (id : OrderId) (f : TinFate) :
    (s.settleJob id f).SameBook (t.settleJob id f) := by
  have told (g : OrderEntry → OrderEntry) :
      ((s.modEntry id g).placeJobStatus id).SameBook ((t.modEntry id g).placeJobStatus id) :=
    (h.modEntry id g).placeJobStatus id
  unfold State.settleJob
  rw [h.entry]
  cases s.entry id with
  | none => exact h
  | some e =>
    dsimp only
    cases e.job with
    | none => exact h
    | some j =>
      dsimp only
      cases e.st with
      | ownActive | ownBlocked =>
        dsimp only
        split_ifs
        · exact told _
        · exact h
        · exact told _
        · exact ((h.modEntry id _).withdrawPrompt id).placeJobStatus id
      | ownCancelling =>
        dsimp only
        split_ifs
        · exact told _
        · exact h
      | new | waitingClaim | placedElsewhere | unplaced | invalid | cancelled | ownPending | ownComplete | ownFailed =>
        exact h

theorem State.SameBook.resolveTin (h : s.SameBook t) (tin : TinId) (f : TinFate) :
    (s.resolveTin tin f).SameBook (t.resolveTin tin f) := by
  have hjob : t.jobOfTin tin = s.jobOfTin tin := by rw [State.jobOfTin, State.jobOfTin, h.book]
  unfold State.resolveTin
  rw [hjob]
  cases s.jobOfTin tin with
  | none => exact h
  | some e => exact ((h.modEntry e.id _).placeJobStatus e.id).settleJob e.id f

/-- What a report makes of the queue and of the book is made of them alone. -/
theorem State.SameBook.report (h : s.SameBook t) (m : TinReportMsg) : (s.report m).SameBook (t.report m) := by
  unfold State.report
  dsimp only
  rw [h.self]
  split_ifs
  · exact (h.place _).resolveTin _ _
  · exact h.place _

end

end Sys2Proof.Machine
end

/-! # Proofs: the register moved by an index (O46) -/

section
namespace Sys2Proof.Machine

variable (s : State)

/-! ## The tin that leaves slot 7 (R155, R156, R157, R164) -/

section
variable {s}

theorem State.depart_of_empty (h : s.slot 7 = none) (d : Destination) : s.depart d = s := by
  simp only [State.depart, h]

theorem State.depart_lane {a : Tin} (h : s.tinAt 7 = some a) : s.depart .lane = (s.setSlot 7 none).releaseTin a := by
  simp only [State.depart, State.tinAt_eq_some.mp h]

/-- The CONSIGN of a tin on the lane, field by field (R164). -/
theorem Transit.msg_eq (v : Transit) : v.msg = ConsignMsg.mk v.seq v.tin.id v.tin.order v.tin.base v.tin.size v.tin.lid
    v.tin.shake v.tin.total (if v.tin.st = .done then .done else .deferred) v.tin.raised v.tin.omitted v.tin.dosed
    v.tin.deferral := by
  simp only [Transit.msg, beq_iff_eq]

/-- A release after the last sequence, and one after none, takes the first (R162). -/
theorem seqNext_eq (n : Nat) : seqNext n = if n = 0 ∨ 65535 ≤ n then 1 else n + 1 := by
  unfold seqNext
  split_ifs <;> omega

/-- A tin without an identity goes unannounced and unreported, and the dispatch table is told of none. -/
theorem State.depart_untold {d : Destination} (h : s.slot 7 = none ∨ s.slot 7 = some .unknown ∨ d = .dispatch) :
    (s.depart d).bus = s.bus ∧ (s.depart d).book = s.book ∧ (s.depart d).xfr = s.xfr := by
  cases hr : s.slot 7 with
  | none =>
    rw [State.depart_of_empty hr]
    exact ⟨rfl, rfl, rfl⟩
  | some r =>
    unfold State.depart
    rw [hr]
    cases d with
    | dispatch => exact ⟨rfl, rfl, rfl⟩
    | chute | lane =>
      obtain rfl : r = .unknown := by simpa [hr] using h
      exact ⟨rfl, rfl, rfl⟩

/-- A tin carried into the chute, counted and not yet reported (R156). -/
def State.inChute (s : State) : State :=
  { s.setSlot 7 none with seg := { (s.setSlot 7 none).seg with chute := min chuteMax (s.seg.chute + 1) } }

theorem State.depart_unknown (h : s.slot 7 = some .unknown) : s.depart .chute = s.inChute := by
  simp only [State.depart, h]
  rfl

theorem State.depart_known {a : Tin} (h : s.tinAt 7 = some a) :
    s.depart .chute = s.inChute.report (a.reportMsg s.self .rejected a.cause) := by
  simp only [State.depart, State.tinAt_eq_some.mp h]
  rfl

/-- A tin carried into the chute is reported as REJECTED with the cause it holds (R156). -/
theorem State.depart_reports {a : Tin} (h : s.tinAt 7 = some a) :
    (s.report (a.reportMsg s.self .rejected a.cause)).SameBook (s.depart .chute) ∧ (s.depart .chute).xfr = s.xfr := by
  have hsame : s.SameBook s.inChute := ⟨rfl, rfl, rfl⟩
  obtain ⟨b, k, g, p, hreport⟩ := s.inChute.report_change (a.reportMsg s.self .rejected a.cause)
  rw [State.depart_known h]
  exact ⟨hsame.report _, by rw [hreport]; rfl⟩

/-- Each tin carried into the chute raises its count, to 6 at most (R156, log 34). -/
theorem State.depart_counts (h : s.slot 7 ≠ none) : (s.depart .chute).seg.chute = min 6 (s.seg.chute + 1) := by
  rcases hr : s.slot 7 with - | - | a
  · exact absurd hr h
  · rw [State.depart_unknown hr]
    rfl
  · obtain ⟨b, k, g, p, hreport⟩ := s.inChute.report_change (a.reportMsg s.self .rejected a.cause)
    rw [State.depart_known (State.tinAt_eq_some.mpr hr), hreport]
    rfl

theorem State.depart_uncounted {d : Destination} (h : s.slot 7 = none ∨ d ≠ .chute) :
    (s.depart d).seg.chute = s.seg.chute := by
  cases hr : s.slot 7 with
  | none => rw [State.depart_of_empty hr]
  | some r =>
    unfold State.depart
    rw [hr]
    cases d with
    | chute => exact absurd rfl (h.resolve_left (by simp [hr]))
    | dispatch => rfl
    | lane => cases r <;> rfl

end

/-! ## The shift and the pull (R146, R177) -/

/-- What a pull takes from the expected list leaves the tins on the lane. -/
theorem State.afterPull_transit :
    ∃ x, s.afterPull = { s with xfr := x } ∧ x.inTransit = s.xfr.inTransit ∧ x.release = s.xfr.release := by
  unfold State.afterPull
  split
  · split <;> exact ⟨_, rfl, rfl, rfl⟩
  · exact ⟨_, rfl, rfl, rfl⟩
  · exact ⟨_, rfl, rfl, rfl⟩

/-- A pull shifts the register and changes the intake's side of the transfer unit (R177). -/
theorem State.pullIn_change : ∃ x, s.pullIn = { s with
      seg := { s.seg with slots := some s.pulledRecord :: s.seg.slots.dropLast }, xfr := x } ∧
    x.inTransit = s.xfr.inTransit ∧ x.release = s.xfr.release := by
  obtain ⟨i, hopen⟩ := (s.afterPull.shift (some s.pulledRecord)).openIntake_setIntake
  obtain ⟨x, hx, htransit, hrelease⟩ := s.afterPull_transit
  rw [hx] at hopen
  rw [State.pullIn, hx, hopen]
  exact ⟨_, rfl, htransit, hrelease⟩

/-- The register shifted by one slot, its slot 0 filled by a pull alone (R146). -/
theorem State.advance_change (p : Bool) : ∃ r x, s.advance none p = { s with
      seg := { s.seg with slots := r :: s.seg.slots.dropLast, index := .idle }
      shots := { s.shots with waiting := [] }, xfr := x } ∧
    (r ≠ none ↔ p = true) ∧ x.inTransit = s.xfr.inTransit ∧ x.release = s.xfr.release ∧ (p = false → x = s.xfr) := by
  cases p with
  | true =>
    obtain ⟨x, hpull, htransit, hrelease⟩ := s.pullIn_change
    refine ⟨some s.pulledRecord, x, ?_, by simp, htransit, hrelease, nofun⟩
    simp only [State.advance, if_true, hpull]
  | false => exact ⟨none, s.xfr, rfl, by simp, rfl, rfl, fun _ => rfl⟩

theorem getD_cons_dropLast {α : Type} (r : Option α) {l : List (Option α)} {n : Nat} (h : n + 1 < l.length) :
    (r :: l.dropLast).getD (n + 1) none = l.getD n none := by
  rw [List.getD_cons_succ, List.getD_eq_getElem?_getD, List.getD_eq_getElem?_getD, List.getElem?_dropLast,
    if_pos (Nat.lt_sub_of_add_lt h)]

/-- From `s` to `t` the register of eight slots has moved on by one, with a pull or without: what each slot holds, and
what else an index changes. -/
structure State.Moved (s : State) (pull : Bool) (t : State) : Prop where
  frame : t = { s with
    bus := t.bus, book := t.book, panel := t.panel
    seg := { s.seg with slots := t.seg.slots, chute := t.seg.chute, prompt := t.seg.prompt, index := .idle }
    shots := { s.shots with waiting := [] }, xfr := t.xfr }
  zero : t.slot 0 ≠ none ↔ pull = true
  succ : ∀ n < 7, t.slot (n + 1) = s.slot n
  transfer : pull = false → t.xfr = { s.xfr with inTransit := t.xfr.inTransit, release := t.xfr.release }

theorem State.moved_indexMoves {s : State} (h : s.seg.slots.length = 8) (d : Destination) (pull : Bool) :
    s.Moved pull (s.indexMoves d pull) := by
  have hu := (s.departed_depart d).frame
  rw [State.indexMoves_eq]
  generalize s.depart d = u at hu ⊢
  have hslots : u.seg.slots = s.seg.slots.set 7 none := congrArg (fun t : State => t.seg.slots) hu
  have hxfr : u.xfr = { s.xfr with inTransit := u.xfr.inTransit, release := u.xfr.release } :=
    congrArg (fun t : State => t.xfr) hu
  obtain ⟨r, x, hadvance, hzero, htransit, hrelease, hstill⟩ := u.advance_change pull
  rw [hadvance]
  refine ⟨by rw [hu], hzero, fun n hn => ?_, fun hp => ?_⟩
  · refine (getD_cons_dropLast r (by rw [hslots, List.length_set, h]; omega)).trans ?_
    rw [hslots, List.getD_eq_getElem?_getD, List.getElem?_set_ne (by omega), ← List.getD_eq_getElem?_getD]
    rfl
  · rw [hstill hp]
    exact hxfr

/-- What the departure has told, the shift and the pull leave. -/
theorem State.indexMoves_leaves (d : Destination) (pull : Bool) : (s.indexMoves d pull).bus = (s.depart d).bus ∧
    (s.indexMoves d pull).book = (s.depart d).book ∧
    (s.indexMoves d pull).xfr.inTransit = (s.depart d).xfr.inTransit ∧
    (s.indexMoves d pull).xfr.release = (s.depart d).xfr.release ∧
    (s.indexMoves d pull).seg.chute = (s.depart d).seg.chute := by
  obtain ⟨r, x, hadvance, -, htransit, hrelease, -⟩ := (s.depart d).advance_change pull
  rw [State.indexMoves_eq, hadvance]
  exact ⟨rfl, rfl, htransit, hrelease, rfl⟩

/-! ## The look at the sensors (R149) -/

theorem State.sensorsAgree_iff : s.sensorsAgree = true ↔
    ∀ n < 8, (s.pins.sample.slots.getLsbD n = true ↔ s.slot n ≠ none) := by
  simp only [State.sensorsAgree, List.all_eq_true, List.mem_range, beq_iff_eq, State.sensed,
    ← Option.isSome_iff_ne_none, Bool.coe_iff_coe]

section
variable {s} {t : State} {pull : Bool} (h : s.Moved pull t)
include h

theorem State.Moved.slot {n : Nat} (hpos : 1 ≤ n) (hn : n ≤ 7) : t.slot n = s.slot (n - 1) := by
  obtain ⟨m, rfl⟩ := Nat.exists_eq_add_of_le' hpos
  exact h.succ m (by omega)

theorem State.Moved.tinAt {n : Nat} (hpos : 1 ≤ n) (hn : n ≤ 7) : t.tinAt n = s.tinAt (n - 1) :=
  congrArg knownTin (h.slot hpos hn)

theorem State.Moved.leaves : t.pins = s.pins ∧ t.cfg = s.cfg ∧ t.stations = s.stations ∧ t.atn = s.atn ∧ t.dck = s.dck ∧
    t.lids = s.lids ∧ t.shaker = s.shaker ∧ t.canisters = s.canisters ∧ t.seg.index = .idle ∧
    t.seg.pulled = s.seg.pulled ∧ t.shots.waiting = [] := by
  rw [h.frame]
  exact ⟨rfl, rfl, rfl, rfl, rfl, rfl, rfl, rfl, rfl, rfl, rfl⟩

theorem State.Moved.working : t.working = s.working := by
  rw [h.frame]
  rfl

/-- The sensors agree with the register that has moved on where each shows what stood one slot before it. -/
theorem State.Moved.sensorsAgree_iff : t.sensorsAgree = true ↔
    ∀ n < 8, (s.pins.sample.slots.getLsbD n = true ↔ if n = 0 then pull = true else s.slot (n - 1) ≠ none) := by
  obtain ⟨hpins, -⟩ := h.leaves
  rw [t.sensorsAgree_iff, hpins]
  refine forall_congr' fun n => imp_congr_right fun hn => iff_congr Iff.rfl ?_
  by_cases hzero : n = 0
  · rw [if_pos hzero, hzero]
    exact h.zero
  · rw [if_neg hzero, h.slot (Nat.one_le_iff_ne_zero.mpr hzero) (by omega)]

end

end Sys2Proof.Machine
end

/-! # Proofs: the arrivals after an index (O46) -/

section
namespace Sys2Proof.Machine

variable (s : State)

/-! ## The tin at slot 2 (R123, R153) -/

theorem Tin.mem_localIndices {a : Tin} {i : Nat} :
    i ∈ a.localIndices ↔ ∃ e ∈ a.entries, e.index = i ∧ ∃ c, e.st = .toDose c := by
  have hlocal (st : DoseState) : DoseState.isToDose st = true ↔ ∃ c, st = .toDose c := by
    cases st <;> simp [DoseState.isToDose]
  simp only [Tin.localIndices, List.mem_map, List.mem_filter, hlocal, and_assoc, and_comm (a := _ = i)]

section
variable {a : Tin}

theorem Tin.arriveDispense_of_local (hst : a.st = .loaded) (h : a.hasLocal = true) :
    a.arriveDispense = { a with st := .dosing } := by
  simp only [Tin.arriveDispense, hst, h, if_true]

/-- A tin without a LOCAL entry is settled, and one in PASS stays so where it is not finished. -/
theorem Tin.arriveDispense_of_no_local (hst : a.st = .loaded ∨ a.st = .pass) (h : a.hasLocal = false) :
    a.arriveDispense = a.settled (if a.st = .pass then .pass else .deferred) := by
  rcases hst with hst | hst <;> simp [Tin.arriveDispense, hst, h]

theorem Tin.settled_of_complete (hc : a.cause = none) (h : a.deferral = []) (other : TinState) :
    a.settled other = a.finish := by
  simp [Tin.settled, hc, h]

theorem Tin.settled_of_deferral (hc : a.cause = none) (h : a.deferral ≠ []) (other : TinState) :
    a.settled other = { a with st := other } := by
  simp [Tin.settled, hc, h]

/-- The dosing of a tin with a LOCAL entry and no cause goes on. -/
theorem Tin.arriveDispense_of_dosing (hst : a.st = .dosing) (h : a.hasLocal = true) (hc : a.cause = none) :
    a.arriveDispense = a := by
  simp [Tin.arriveDispense, Tin.settleDosing, Tin.dosingOver, hst, h, hc]

theorem Tin.undosed_of_other (h : a.st ≠ .deferred ∧ a.st ≠ .pass) : a.undosed = a := if_neg (by simp [h])

theorem Tin.undosed_of_waiting (h : a.st = .deferred ∨ a.st = .pass) :
    a.undosed = { a with st := .reject, cause := some (a.cause.getD .unfinished) } := if_pos (by simpa using h)

end

/-! ## The bays told of their slots (R153, R187, R195) -/

/-- What a press start reads: the tin at slot 4, the lid unit, its hatches and the lid on its head. -/
theorem State.pressedLids_congr {s t : State} (htin : t.tinAt 4 = s.tinAt 4) (hlids : t.lids = s.lids)
    (hhatch : t.pins.hatch = s.pins.hatch) (hlid : t.pins.sample.lidOnHead = s.pins.sample.lidOnHead) :
    t.pressedLids = s.pressedLids := by
  have hmagazine (n : Nat) : t.magazine n = s.magazine n := by rw [State.magazine, State.magazine, hlids]
  have hopen (n : Nat) : t.hatchOpen n = s.hatchOpen n := by rw [State.hatchOpen, State.hatchOpen, hhatch]
  unfold State.pressedLids
  rw [htin, hlids, hlid]
  cases s.tinAt 4 with
  | none => rfl
  | some a => simp only [hmagazine, hopen]

theorem State.lidLook_lids {s : State} (hbay : s.lids.bay = .idle) (hw : s.working = true)
    (hidle : s.seg.index.isRunning = false) : s.lidLook.lids = s.pressedLids := by
  simp [State.lidLook, hbay, hw, hidle, s.pressStart_eq]

/-- A LIDDED tin at slot 6 is taken into an empty shaker (R195). -/
theorem State.lookedShaker_loads {s : State} (hst : s.shaker.st = .empty) {a : Tin} (ha : s.tinAt 6 = some a)
    (hlid : a.st = .lidded) (hidle : s.seg.index = .idle) (hw : s.working = true) : s.lookedShaker.st = .loading := by
  have htin : isLidded (s.slot 6) = true := (isLidded_tinAt s 6).mpr ⟨a, ha, hlid⟩
  simp [State.lookedShaker, hst, htin, hidle, hw, IndexState.busy]

/-- An unclamped tin is returned to a free slot 7 (R199). -/
theorem State.lookedShaker_returns {s : State} (hst : s.shaker.st = .unclamping) (hclamp : s.pins.clamp = false)
    (hfree : s.slot 7 = none) (hidle : s.seg.index = .idle) (hw : s.working = true) :
    s.lookedShaker.st = .returning := by
  simp [State.lookedShaker, hst, hclamp, hfree, hidle, hw, IndexState.busy]

/-- The tin at slot 2 has arrived, its waiting set formed. -/
def State.arrived (s : State) : State := s.formWaiting.arriveSlot2

theorem State.arrived_change : ∃ l, s.arrived = { s with
      shots := { s.shots with waiting := ((s.tinAt 2).map Tin.localIndices).getD [] }
      seg := { s.seg with slots := l } } ∧
    ∀ n, n ≠ 2 → s.arrived.slot n = s.slot n := by
  obtain ⟨l, hl⟩ := s.formWaiting.modTinAt_change 2 Tin.arriveDispense
  exact ⟨l, hl, fun n hn => State.slot_modTinAt_ne _ _ (Ne.symm hn)⟩

theorem State.judgeSlot7_change : ∃ l, s.judgeSlot7 = { s with seg := { s.seg with slots := l } } := by
  rw [State.judgeSlot7_eq]
  split
  · exact s.modTinAt_change 7 Tin.undosed
  · exact ⟨_, rfl⟩

/-- The blocks told of their bays: the waiting set, the lid unit's look and the shake unit's, and what else is reached
of the register, the cap and the panel. -/
theorem State.tellBays_change : ∃ l g i p a k m, s.tellBays = { s with
    shots := { s.shots with waiting := ((s.tinAt 2).map Tin.localIndices).getD [] }
    lids := s.arrived.lidLook.lids, shaker := s.arrived.lidLook.lookedShaker
    dck := { s.dck with cap := a, kept := k, capTime := m }
    seg := { s.seg with slots := l, prompt := g, serial := i }, panel := p } := by
  obtain ⟨l, harrived, -⟩ := s.arrived_change
  obtain ⟨li, hli⟩ := s.arrived.lidLook_eq
  obtain ⟨a, k, m, hcap⟩ := s.arrived.lidLook.shakerLook.judgedClock_change
  obtain ⟨l', hseven⟩ := s.arrived.lidLook.shakerLook.judgeCap.judgeSlot7_change
  obtain ⟨g, i, p, hprompt⟩ := s.arrived.lidLook.shakerLook.judgeCap.judgeSlot7.judgePrompt_change
  refine ⟨l', g, i, p, a, k, m, ?_⟩
  change s.arrived.lidLook.shakerLook.judgeCap.judgeSlot7.judgePrompt = _
  rw [hprompt, hseven, State.judgeCap_eq, hcap, State.shakerLook_eq, hli, harrived]

/-- A press start is made on the tin that has come to slot 4 (R187). -/
theorem State.tellBays_lids {s : State} (hbay : s.lids.bay = .idle) (hw : s.working = true)
    (hidle : s.seg.index = .idle) : s.tellBays.lids = s.pressedLids := by
  obtain ⟨l, g, i, p, a, k, m, htold⟩ := s.tellBays_change
  obtain ⟨l', harrived, hslot⟩ := s.arrived_change
  have htin : s.arrived.tinAt 4 = s.tinAt 4 := congrArg knownTin (hslot 4 (by decide))
  have hlook : s.arrived.lidLook.lids = s.arrived.pressedLids :=
    State.lidLook_lids (by rw [harrived]; exact hbay) (by rw [harrived]; exact hw) (by rw [harrived, hidle]; rfl)
  rw [htold]
  exact hlook.trans (State.pressedLids_congr htin (by rw [harrived]) (by rw [harrived]) (by rw [harrived]))

/-- The shake unit starts a transfer by the tins that have come to slots 6 and 7 (R195, R199). -/
theorem State.tellBays_shaker {s : State} (hw : s.working = true) (hidle : s.seg.index = .idle) :
    (s.shaker.st = .empty → ∀ a, s.tinAt 6 = some a → a.st = .lidded → s.tellBays.shaker.st = .loading) ∧
    (s.shaker.st = .unclamping → s.pins.clamp = false → s.slot 7 = none → s.tellBays.shaker.st = .returning) := by
  obtain ⟨l, g, i, p, a, k, m, htold⟩ := s.tellBays_change
  obtain ⟨l', harrived, hslot⟩ := s.arrived_change
  obtain ⟨li, hlook⟩ := s.arrived.lidLook_eq
  have hslot' : ∀ n, n ≠ 2 → s.arrived.lidLook.slot n = s.slot n := fun n hn => by
    rw [hlook]
    exact hslot n hn
  rw [htold]
  rw [harrived] at hlook
  constructor
  · intro hst b hb hlid
    have hb' : s.arrived.lidLook.tinAt 6 = some b := (congrArg knownTin (hslot' 6 (by decide))).trans hb
    exact State.lookedShaker_loads (by rw [harrived, hlook]; exact hst) hb' hlid (by rw [harrived, hlook]; exact hidle)
      (by rw [harrived, hlook]; exact hw)
  · intro hst hclamp hfree
    exact State.lookedShaker_returns (by rw [harrived, hlook]; exact hst) (by rw [harrived, hlook]; exact hclamp)
      ((hslot' 7 (by decide)).trans hfree) (by rw [harrived, hlook]; exact hidle) (by rw [harrived, hlook]; exact hw)

/-! ## The check at the completion (R149) -/

/-- What the check leaves, whichever way it goes: the bays of slots 2 and 7 have been told, or the cell has jammed. -/
structure State.Checked (s t : State) : Prop where
  frame : t = { s with
    dck := t.dck, canisters := t.canisters, shots := t.shots, lids := t.lids, shaker := t.shaker, panel := t.panel
    seg := { s.seg with slots := t.seg.slots, prompt := t.seg.prompt, serial := t.seg.serial } }
  moment : t.dck.moment = s.dck.moment
  slot : ∀ n, n ≠ 2 → n ≠ 7 → t.slot n = s.slot n

theorem State.Checked.leaves {s t : State} (h : s.Checked t) : t.bus = s.bus ∧ t.book = s.book ∧ t.stations = s.stations ∧
    t.xfr = s.xfr ∧ t.atn = s.atn ∧ t.cfg = s.cfg ∧ t.seg.index = s.seg.index ∧ t.seg.pulled = s.seg.pulled ∧
    t.seg.chute = s.seg.chute := by
  rw [h.frame]
  exact ⟨rfl, rfl, rfl, rfl, rfl, rfl, rfl, rfl, rfl⟩

theorem State.checked_tellBays : s.Checked s.tellBays := by
  obtain ⟨l, g, i, p, a, k, m, htold⟩ := s.tellBays_change
  refine ⟨by rw [htold], by rw [htold], fun n h2 h7 => ?_⟩
  rw [State.tellBays_slot, if_neg fun h => h7 h.1, if_neg h2]

/-- A cell that jams changes its day clock, its prompt and its stirrers alone. -/
theorem State.jamCell_change : ∃ cs g i p, s.jamCell = { s with
    dck := { s.dck with cell := .jammed, jam := true, idle := 0 }, canisters := cs
    seg := { s.seg with prompt := g, serial := i }, panel := p } := by
  rw [State.jamCell]
  generalize hu : ({ s with dck := { s.dck with jam := true } } : State) = u
  obtain ⟨g, i, hseg⟩ := u.enter_seg .jammed
  refine ⟨(u.enter .jammed).canisters, g, i, (u.enter .jammed).panel, ?_⟩
  rw [u.enter_not_working_frame (c := .jammed) rfl, u.enter_dck_of_ne (by decide), hseg, ← hu]

theorem State.checked_jamCell : s.Checked s.jamCell := by
  obtain ⟨cs, g, i, p, hjam⟩ := s.jamCell_change
  rw [hjam]
  exact ⟨rfl, rfl, fun _ _ _ => rfl⟩

theorem State.checked_checkCompletion : s.Checked s.checkCompletion := by
  unfold State.checkCompletion
  split
  · exact s.checked_tellBays
  · exact s.checked_jamCell

/-! ## INDEX_COMPLETE -/

theorem State.tellBays_canisters : s.tellBays.canisters = s.canisters := by
  obtain ⟨l, g, i, p, a, k, m, htold⟩ := s.tellBays_change
  rw [htold]

/-- The waiting set formed at slot 2 (R123). -/
theorem State.mem_waiting_tellBays (i : Nat) : i ∈ s.tellBays.shots.waiting ↔
    ∃ a e, s.tinAt 2 = some a ∧ e ∈ a.entries ∧ e.index = i ∧ ∃ c, e.st = .toDose c := by
  obtain ⟨l, g, j, p, c, k, m, htold⟩ := s.tellBays_change
  rw [htold]
  cases ha : s.tinAt 2 with
  | none => simp
  | some a => simp [Tin.mem_localIndices]

/-- What an index brings to slot 2 (R153). -/
theorem State.tellBays_slot2 {s : State} : (s.tinAt 2 = none → s.tellBays.slot 2 = s.slot 2) ∧
    ∀ a, s.tinAt 2 = some a → s.tellBays.slot 2 = some (.known a.arriveDispense) := by
  have hslot : s.tellBays.slot 2 = (s.slot 2).map (TinRecord.mapTin Tin.arriveDispense) := by
    rw [State.tellBays_slot, if_neg fun h => absurd h.1 (by decide), if_pos rfl]
  rw [hslot]
  refine ⟨fun h => ?_, fun a ha => by rw [State.tinAt_eq_some.mp ha]; rfl⟩
  rw [State.tinAt] at h
  rcases hr : s.slot 2 with - | - | a
  · rfl
  · rfl
  · rw [hr] at h
    cases h

/-- What an index brings to slot 7 (R155). -/
theorem State.tellBays_slot7 {s : State} :
    (∀ a, s.tinAt 7 = some a → s.cfg.last = true → s.tellBays.slot 7 = some (.known a.undosed)) ∧
    ((∀ a, s.tinAt 7 = some a → s.cfg.last = true → a.undosed = a) → s.tellBays.slot 7 = s.slot 7) := by
  have hslot : s.tellBays.slot 7 =
      if s.cfg.last = true then (s.slot 7).map (TinRecord.mapTin Tin.undosed) else s.slot 7 := by
    rw [State.tellBays_slot, if_neg (show ¬ 7 = 2 by decide)]
    exact if_congr (and_iff_right rfl) rfl rfl
  rw [hslot]
  refine ⟨fun a ha hlast => by rw [if_pos hlast, State.tinAt_eq_some.mp ha]; rfl, fun hno => ?_⟩
  split
  · next hlast =>
    rcases hr : s.slot 7 with - | - | a
    · rfl
    · rfl
    · rw [Option.map_some, TinRecord.mapTin, hno a (State.tinAt_eq_some.mpr hr) hlast]
  · rfl

section
variable {s} {t : State} {pull : Bool} (h : s.Moved pull t)
include h

theorem State.Moved.told_slot2 : (s.tinAt 1 = none → t.tellBays.slot 2 = s.slot 1) ∧
    ∀ a, s.tinAt 1 = some a → t.tellBays.slot 2 = some (.known a.arriveDispense) := by
  have htold := t.tellBays_slot2
  rwa [h.tinAt (by decide) (by decide), h.slot (n := 2) (by decide) (by decide)] at htold

theorem State.Moved.told_slot7 :
    (∀ a, s.tinAt 6 = some a → s.cfg.last = true → t.tellBays.slot 7 = some (.known a.undosed)) ∧
    ((∀ a, s.tinAt 6 = some a → s.cfg.last = true → a.undosed = a) → t.tellBays.slot 7 = s.slot 6) := by
  obtain ⟨-, hcfg, -⟩ := h.leaves
  have htold := t.tellBays_slot7
  rwa [h.tinAt (by decide) (by decide), h.slot (n := 7) (by decide) (by decide), hcfg] at htold

theorem State.Moved.told_lids (hbay : s.lids.bay = .idle) (hw : s.working = true) :
    t.tellBays.lids = t.pressedLids := by
  obtain ⟨-, -, -, -, -, hlids, -, -, hindex, -⟩ := h.leaves
  exact State.tellBays_lids (by rwa [hlids]) (by rwa [h.working]) hindex

theorem State.Moved.told_shaker (hw : s.working = true) :
    (s.shaker.st = .empty → ∀ a, s.tinAt 5 = some a → a.st = .lidded → t.tellBays.shaker.st = .loading) ∧
    (s.shaker.st = .unclamping → s.pins.clamp = false → s.slot 6 = none → t.tellBays.shaker.st = .returning) := by
  obtain ⟨hpins, -, -, -, -, -, hshaker, -, hindex, -⟩ := h.leaves
  have htold := State.tellBays_shaker (by rwa [h.working]) hindex
  rwa [h.tinAt (by decide) (by decide), h.slot (n := 7) (by decide) (by decide), hshaker, hpins] at htold

end

/-- The tin at slot 2 by the state in which it comes (R153). -/
theorem Tin.arriveDispense_spec (a : Tin) :
    (a.st = .loaded → a.hasLocal = true → a.arriveDispense = { a with st := .dosing }) ∧
    (a.st = .loaded ∨ a.st = .pass → a.hasLocal = false → a.cause = none →
      (a.deferral = [] → a.arriveDispense = { a with st := .finishing, mix := some (mixTime a.size a.total a.shake) }) ∧
      (a.deferral ≠ [] → a.arriveDispense = { a with st := if a.st = .pass then .pass else .deferred })) ∧
    (a.st = .dosing → a.hasLocal = true → a.cause = none → a.arriveDispense = a) ∧
    (a.st = .done ∨ a.st = .reject → a.arriveDispense = a) := by
  refine ⟨Tin.arriveDispense_of_local, fun hst hlocal hc => ?_, Tin.arriveDispense_of_dosing,
    fun hst => Tin.arriveDispense_of_ended (hst.imp_right .inl)⟩
  rw [Tin.arriveDispense_of_no_local hst hlocal]
  exact ⟨fun hd => Tin.settled_of_complete hc hd _, fun hd => Tin.settled_of_deferral hc hd _⟩

/-- Settles O46: the departure, the shift and the pull make the register that the sensors are compared with; where they
agree the bays are told of it, and where they do not the cell jams. -/
theorem indexCompletes : Obligations.IndexCompletes := by
  unfold Obligations.IndexCompletes
  intro x s d p k agree h hlen hi hagree
  refine ⟨_, exec_indexComplete h hi x, ?_⟩
  generalize hy : ({ x with offIndex := false } : Sample) = y
  have hslots : y.slots = x.slots := by rw [← hy]
  have hlidOnHead : y.lidOnHead = x.lidOnHead := by rw [← hy]
  clear hy
  have hmoved := State.moved_indexMoves (s := s.latch y) hlen d p
  obtain ⟨hbus, hbook, htransit, hrelease, hchute⟩ := (s.latch y).indexMoves_leaves d p
  generalize (s.latch y).indexMoves d p = w at hmoved hbus hbook htransit hrelease hchute ⊢
  have hagrees : w.sensorsAgree = true ↔ agree := by
    rw [hmoved.sensorsAgree_iff, hagree, ← hslots]
    rfl
  obtain ⟨hpins, hcfg, hstations, hatn, hdck, hlids, hshaker, hcanisters, hindex, hpulled, hwaiting⟩ := hmoved.leaves
  have hchecked := w.checked_checkCompletion
  have hslot : ∀ n, n ≠ 2 → n ≠ 7 → w.checkCompletion.slot n = w.slot n := hchecked.slot
  obtain ⟨hbus', hbook', hstations', hxfr', hatn', hcfg', hindex', hpulled', hchute'⟩ := hchecked.leaves
  rw [hbus', hbook', hxfr', hchute', hbus, hbook, htransit, hrelease, hchute]
  refine ⟨hindex'.trans hindex, ?_, hpulled'.trans hpulled, hstations'.trans hstations, hcfg'.trans hcfg, hatn'.trans hatn,
    hchecked.moment.trans (congrArg DayClock.moment hdck), fun hp => ⟨?_, ?_⟩, fun hp => ?_, fun n h1 h7' h2 h7 => ?_,
    State.depart_uncounted (s := s.latch y), fun h7 hd => ?_, fun hd => ?_, fun a m ha hd hm => ?_, fun a q ha hd hq => ?_,
    fun hag => ?_, fun hag => ?_⟩
  · rw [State.convOut, hindex', hindex]
    exact Bool.and_false _
  · rw [hslot 0 (by decide) (by decide)]
    simpa [hp] using hmoved.zero
  · rw [← htransit, ← hrelease]
    exact hmoved.transfer hp
  · rw [hslot 0 (by decide) (by decide)]
    exact hmoved.zero.mpr hp
  · exact (hslot n h2 h7).trans (hmoved.slot h1 h7')
  · subst hd
    exact State.depart_counts (s := s.latch y) h7
  · obtain ⟨hb, hk, hx⟩ := State.depart_untold (s := s.latch y) hd
    rw [hx]
    exact ⟨hb, hk, rfl, rfl⟩
  · subst hd hm
    obtain ⟨hreport, hx⟩ := State.depart_reports (s := s.latch y) ha
    have hsame : s.SameBook (s.latch y) := ⟨rfl, rfl, rfl⟩
    have hb := hreport.bus.trans (hsame.report _).bus
    have hk := hreport.book.trans (hsame.report _).book
    rw [hx]
    refine ⟨hb, hk, rfl, fun hforeign => ?_⟩
    rw [State.report_foreign hforeign] at hb hk
    exact ⟨hb, hk⟩
  · subst hd
    rw [← seqNext_eq] at hq
    subst hq
    rw [State.depart_lane (s := s.latch y) ha]
    exact ⟨rfl, rfl, rfl, congrArg (fun m => (s.place (.consign m)).bus) (Transit.msg_eq _)⟩
  · have htold : w.checkCompletion = w.tellBays := if_pos (hagrees.mpr hag)
    rw [htold] at hslot ⊢
    obtain ⟨-, -, -, -, hcell, hjam, -⟩ := w.tellBays_leaves
    obtain ⟨hnone2, htold2⟩ := hmoved.told_slot2
    obtain ⟨hlast7, hkept7⟩ := hmoved.told_slot7
    refine ⟨hcell.trans (congrArg DayClock.cell hdck), hjam.trans (congrArg DayClock.jam hdck),
      w.tellBays_canisters.trans hcanisters, fun i => ?_, hnone2, fun a ha => ?_, fun a ha hlast hst => ?_,
      fun hno => ?_, fun hbay hw => ?_, fun hst hw a ha hlid => ?_, fun hst hclamp hw h6 => ?_⟩
    · rw [w.mem_waiting_tellBays, hmoved.tinAt (by decide) (by decide)]
      rfl
    · exact ⟨_, htold2 a ha, a.arriveDispense_spec⟩
    · rw [hlast7 a ha hlast, Tin.undosed_of_waiting hst]
    · exact hkept7 fun a ha hlast => Tin.undosed_of_other ((hno a ha).resolve_left (by simpa using hlast))
    · have htin4 : w.tellBays.tinAt 4 = w.tinAt 4 := congrArg knownTin (hslot 4 (by decide) (by decide))
      have hhatch : w.pins.hatch = s.pins.hatch := by rw [hpins]; rfl
      have hlid : w.pins.sample.lidOnHead = x.lidOnHead := by rw [hpins]; exact hlidOnHead
      rw [hmoved.told_lids hbay hw, State.pressStart_eq]
      exact State.pressedLids_congr htin4.symm hlids hhatch hlid
    · obtain ⟨hloads, -⟩ := hmoved.told_shaker hw
      exact hloads hst a ha hlid
    · obtain ⟨-, hreturns⟩ := hmoved.told_shaker hw
      exact hreturns hst hclamp h6
  · have hjam : w.checkCompletion = w.jamCell := if_neg (mt hagrees.mp hag)
    obtain ⟨cs, g, i, b, hjammed⟩ := w.jamCell_change
    rw [hjam, hjammed]
    exact ⟨by rw [hdck]; rfl, hmoved.slot (by decide) (by decide), hmoved.slot (by decide) (by decide), hlids, hshaker,
      hwaiting⟩

end Sys2Proof.Machine
end

/-! # Proofs: consign sequences (O49) -/

section
namespace Sys2Proof.Machine

/-! ## The step count (R162) -/

section
variable {a b : Nat}

theorem stepCount_zero (b : Nat) : stepCount 0 b = b := if_pos rfl

theorem stepCount_of_pos (h : 1 ≤ a) : stepCount a b = (b + 65535 - a) % 65535 := if_neg (Nat.ne_of_gt h)

theorem stepCount_lt (h : 1 ≤ a) : stepCount a b < 65535 := by
  rw [stepCount_of_pos h]
  exact Nat.mod_lt _ (by decide)

/-- The step count is the difference modulo 65,535: added to `a` it gives `b`. -/
theorem add_stepCount (h : 1 ≤ a) (ha : a ≤ 65535) : (a + stepCount a b) % 65535 = b % 65535 := by
  rw [stepCount_of_pos h]
  omega

theorem isAfter_iff (h : 1 ≤ a) : isAfter b a = true ↔ 1 ≤ stepCount a b ∧ stepCount a b ≤ 32767 := by
  simp [isAfter, Nat.ne_of_gt h]

theorem isAfter_zero (hb : 1 ≤ b) : isAfter b 0 = true := by
  simp [isAfter, stepCount_zero, hb]

theorem atOrBefore_iff : atOrBefore a b = true ↔ stepCount a b ≤ 32767 := decide_eq_true_iff

/-! ## The next sequence -/

theorem seqNext_of_lt (h : a < 65535) : seqNext a = a + 1 := if_neg (Nat.not_le.mpr h)

/-- A next sequence is a sequence: 0 never follows. -/
theorem seqNext_bounds (a : Nat) : 1 ≤ seqNext a ∧ seqNext a ≤ 65535 := by
  rw [seqNext_eq]
  split_ifs <;> omega

end

/-- Settles O49, from the step count as a difference modulo 65,535. -/
theorem sequencesCompared : Obligations.SequencesCompared := by
  unfold Obligations.SequencesCompared
  intro a b ha hb _
  obtain ⟨hfirst, hlast⟩ := seqNext_bounds a
  exact ⟨fun h => ⟨stepCount_lt h, add_stepCount h ha, isAfter_iff h, atOrBefore_iff⟩, stepCount_zero b,
    isAfter_zero hb, rfl, rfl, seqNext_of_lt, hfirst, hlast, by decide⟩

end Sys2Proof.Machine
end

/-! # Proofs: the tin at the gate (O51) -/

section
namespace Sys2Proof.Machine

/-! ## A read judged (R172, R173) -/

section
variable {s : State} {tag : Option TinId} {e : Expected}

theorem State.goodItem_eq_some :
    s.goodItem tag = some e ↔ s.item (seqNext s.xfr.pointer) = some e ∧ tag = some e.msg.tin := by
  rw [State.goodItem, Option.filter_eq_some_iff, beq_iff_eq]
  rfl

/-- The first read of a tin clears the intake against the item it is good for, and otherwise starts a hold. -/
theorem State.firstRead_eq_goodItem (hself : 2 ≤ s.self) (hserv : s.inService = true) : s.firstRead =
    s.setIntake ((s.goodItem s.pins.sample.tag).elim (.hold 0 1 0 0 s.pins.sample.tag) clearedBy) := by
  rw [State.firstRead_eq hself hserv]
  cases hg : s.goodItem s.pins.sample.tag with
  | some e =>
    obtain ⟨hitem, htag⟩ := State.goodItem_eq_some.mp hg
    rw [hitem]
    exact if_pos (beq_iff_eq.mpr htag)
  | none =>
    cases hitem : s.item (seqNext s.xfr.pointer) with
    | none => rfl
    | some e =>
      refine if_neg fun htag => ?_
      have hgood := State.goodItem_eq_some.mpr ⟨hitem, beq_iff_eq.mp htag⟩
      exact Option.some_ne_none e (hgood.symm.trans hg)

/-- Station 1 reads nothing (R161). -/
theorem State.firstRead_of_first (h : s.self ≤ 1) : s.firstRead = s := if_pos (by simp [h])

/-- A read in HOLD that is good counts, and clears the intake with the K-th; any other sets the count back. -/
theorem State.judgeRead_eq_goodItem (s : State) (tag l : Option TinId) (g a h : Nat) : s.judgeRead tag g a h l =
    s.setIntake ((s.goodItem tag).elim (.hold 0 a h 0 (tag.or l))
      fun e => if s.goodReads ≤ g + 1 then clearedBy e else .hold (g + 1) a h 0 tag) := by
  unfold State.judgeRead
  cases s.goodItem tag with
  | none => rfl
  | some e => exact (apply_ite s.setIntake _ _ _).symm

/-- The hold settings of the image (R171). -/
theorem State.hold_settings {im : Image} (h : s.cfg.image = some im) :
    s.goodReads = orDefault im.goodReads 3 ∧ s.holdPeriod = orDefault im.holdPeriod 5 ∧
      s.attemptLimit = orDefault im.attempts 4 := by
  simp only [State.goodReads, State.holdPeriod, State.attemptLimit, h, Option.map_some, Option.getD_some, and_self]

end

/-! ## The commands of the gate -/

section
variable {s : State} (h : s.Live)
include h

theorem exec_tinArrival_opened (hi : s.xfr.intake = .opened) (tag : Option TinId) :
    exec (.tinArrival tag) s = .next ((s.latchTag tag).setLaneHead true).firstRead := by
  simp only [exec, execTinArrival]
  refine State.act_next h ?_
  rw [show ((s.latchTag tag).setLaneHead true).xfr.intake = .opened from hi]

theorem exec_tinArrival_unopened (hi : s.xfr.intake ≠ .opened) (tag : Option TinId) :
    exec (.tinArrival tag) s = .next ((s.latchTag tag).setLaneHead true) := by
  simp only [exec, execTinArrival]
  refine State.act_next h ?_
  split
  · next hopen => exact absurd hopen hi
  · rfl
  · rfl

theorem exec_tinLiftedOff : exec .tinLiftedOff s =
    .next (if s.keepsGate then s.setLaneHead false else (s.setLaneHead false).setIntake .opened) := by
  simp only [exec, execTinLiftedOff]
  exact State.act_next h rfl

theorem exec_holdRead_hold {g a p r : Nat} {l : Option TinId} (hi : s.xfr.intake = .hold g a p r l)
    (tag : Option TinId) : exec (.holdRead tag) s = .next ((s.latchTag tag).judgeRead tag g a p l) := by
  simp only [exec, execHoldRead]
  refine State.act_next h ?_
  rw [hi]

theorem exec_holdPeriodEnd_hold {g a p r : Nat} {l : Option TinId} (hi : s.xfr.intake = .hold g a p r l) :
    exec .holdPeriodEnd s =
      .next (if a < s.attemptLimit then s.setIntake (.hold g (a + 1) 0 r l) else s.resolveHold l) := by
  simp only [exec, execHoldPeriodEnd]
  refine State.act_next h ?_
  rw [hi]

/-- Outside HOLD no read is made and no period ends. -/
theorem exec_hold_idle (hi : ∀ g a p r l, s.xfr.intake ≠ .hold g a p r l) (tag : Option TinId) :
    exec (.holdRead tag) s = .next s ∧ exec .holdPeriodEnd s = .next s := by
  cases hin : s.xfr.intake with
  | opened | cleared => simp only [exec, execHoldRead, execHoldPeriodEnd, State.act_live _ h, hin, and_self]
  | hold g a p r l => exact absurd hin (hi g a p r l)

end

/-- A rise of LHEAD_L is not taken under a cut-short pull, nor while an index pulls the CLEARED tin (R178, log 21). -/
theorem State.keepsGate_iff (s : State) : s.keepsGate = true ↔
    s.xfr.cutShort = true ∨ (∃ c, s.xfr.intake = .cleared c) ∧ s.pullUnderWay = true := by
  rw [State.keepsGate, Bool.or_eq_true, Bool.and_eq_true, Intake.isCleared_iff]

/-- A tin that arrives at the gate is read where the intake is OPEN, at any station but the first. -/
theorem tinArrival_read {s : State} (h : s.Live) (hserv : s.inService = true) (tag : Option TinId) :
    ∃ t, exec (.tinArrival tag) s = .next t ∧ t.pins.sample.laneHead = true ∧
      t = { s with pins := t.pins, xfr := { s.xfr with intake := t.xfr.intake } } ∧
      (s.xfr.intake ≠ .opened ∨ s.self ≤ 1 → t.xfr = s.xfr) ∧
      (s.xfr.intake = .opened → 2 ≤ s.self →
        t.xfr.intake = (s.goodItem tag).elim (.hold 0 1 0 0 tag) clearedBy) := by
  by_cases hi : s.xfr.intake = .opened
  · refine ⟨_, exec_tinArrival_opened h hi tag, ?_⟩
    by_cases hself : s.self ≤ 1
    · rw [State.firstRead_of_first (s := (s.latchTag tag).setLaneHead true) hself]
      exact ⟨rfl, rfl, fun _ => rfl, fun _ h2 => absurd hself (Nat.not_le.mpr h2)⟩
    · rw [State.firstRead_eq_goodItem (s := (s.latchTag tag).setLaneHead true) (Nat.not_le.mp hself) hserv]
      exact ⟨rfl, rfl, fun hno => (hno.elim (absurd hi) (absurd · hself)), fun _ _ => rfl⟩
  · exact ⟨_, exec_tinArrival_unopened h hi tag, rfl, rfl, fun _ => rfl, fun hopen => absurd hopen hi⟩

/-- A read in HOLD is judged by the item it is good for. -/
theorem holdRead_judged {s : State} (h : s.Live) {g a p r : Nat} {l : Option TinId}
    (hi : s.xfr.intake = .hold g a p r l) (tag : Option TinId) :
    ∃ t, exec (.holdRead tag) s = .next t ∧
      t = { s.latchTag tag with xfr := { s.xfr with intake := t.xfr.intake } } ∧
      t.xfr.intake = (s.goodItem tag).elim (.hold 0 a p 0 (tag.or l))
        fun e => if s.goodReads ≤ g + 1 then clearedBy e else .hold (g + 1) a p 0 tag := by
  refine ⟨_, exec_holdRead_hold h hi tag, ?_⟩
  rw [State.judgeRead_eq_goodItem]
  exact ⟨rfl, rfl⟩

/-- A tin lifted off opens the intake unless the gate is kept. -/
theorem tinLiftedOff_opens {s : State} (h : s.Live) :
    ∃ t, exec .tinLiftedOff s = .next t ∧ t.pins.sample.laneHead = false ∧
      t = { s with pins := t.pins, xfr := { s.xfr with intake := t.xfr.intake } } ∧
      (s.keepsGate = true → t.xfr = s.xfr) ∧ (s.keepsGate = false → t.xfr.intake = .opened) := by
  refine ⟨_, exec_tinLiftedOff h, ?_⟩
  cases s.keepsGate with
  | true => exact ⟨rfl, rfl, fun _ => rfl, nofun⟩
  | false => exact ⟨rfl, rfl, nofun, fun _ => rfl⟩

/-! ## The items skipped at a resolution (R175) -/

section
variable {s : State} {q : Nat}

theorem State.dropItem_of_no_item (h : s.item q = none) : s.dropItem q = s := by
  have hall : s.xfr.expected.filter (fun e => e.msg.seq != q) = s.xfr.expected :=
    List.filter_eq_self.mpr fun e he => bne_iff_ne.mpr fun heq => by
      simpa [heq] using List.find?_eq_none.mp h e he
  rw [State.dropItem, hall]

/-- The report of the item of sequence `q` at a skip, if there is one. -/
def State.skipReport (s : State) (q : Nat) : Option TinReportMsg :=
  (s.item q).map (fun e => lostReport e.msg s.self .skippedAtIntake)

theorem State.skipItem_eq (s : State) (q : Nat) : s.skipItem q = (s.dropItem q).reportAny (s.skipReport q) := by
  unfold State.skipItem State.skipReport
  cases hq : s.item q with
  | none => exact (State.dropItem_of_no_item hq).symm
  | some e => rfl

theorem State.skipItem_change (s : State) (q : Nat) : ∃ b k g p, s.skipItem q =
    { s.dropItem q with bus := b, book := k, seg := { s.seg with prompt := g }, panel := p } := by
  rw [State.skipItem_eq]
  exact (s.dropItem q).reportAny_change _

theorem State.skipItem_xfr (s : State) (q : Nat) : (s.skipItem q).xfr = (s.dropItem q).xfr := by
  obtain ⟨b, k, g, p, h⟩ := s.skipItem_change q
  rw [h]

theorem State.skipItem_self (s : State) (q : Nat) : (s.skipItem q).self = s.self := by
  obtain ⟨b, k, g, p, h⟩ := s.skipItem_change q
  rw [h]
  rfl

theorem State.skipItem_of_no_item (h : s.item q = none) : s.skipItem q = s := by
  simp only [State.skipItem, h]

/-- An item skipped is reported LOST: the queue and the book are those of its report. -/
theorem State.SameBook.skipItem {t : State} {e : Expected} (h : s.SameBook t) (he : t.item q = some e) :
    (s.report (lostReport e.msg t.self .skippedAtIntake)).SameBook (t.skipItem q) := by
  have hskip : t.skipItem q = (t.dropItem q).report (lostReport e.msg t.self .skippedAtIntake) := by
    simp only [State.skipItem, he]
  have hdrop : s.SameBook (t.dropItem q) := ⟨h.bus, h.book, h.cfg⟩
  rw [hskip]
  exact hdrop.report _

/-- A skip leaves the items of other sequences. -/
theorem State.item_skipItem {q' : Nat} (h : q ≠ q') : (s.skipItem q).item q' = s.item q' := by
  rw [State.item, State.skipItem_xfr, State.dropItem, State.item, List.find?_filter]
  congr 1
  funext e
  by_cases he : e.msg.seq = q'
  · simp [he, h.symm]
  · simp [he]

theorem State.sameBook_skipItem {e : Expected} (he : s.item q = some e) :
    (s.report (lostReport e.msg s.self .skippedAtIntake)).SameBook (s.skipItem q) :=
  State.SameBook.skipItem ⟨rfl, rfl, rfl⟩ he

/-- Two items skipped are reported LOST in turn. -/
theorem State.sameBook_skipTwo {q' : Nat} {e e' : Expected} (h : q ≠ q') (he : s.item q = some e)
    (he' : s.item q' = some e') :
    ((s.report (lostReport e.msg s.self .skippedAtIntake)).report (lostReport e'.msg s.self .skippedAtIntake)).SameBook
      ((s.skipItem q).skipItem q') := by
  have hskip := (State.sameBook_skipItem he).skipItem ((State.item_skipItem h).trans he')
  rwa [s.skipItem_self] at hskip

end

/-! ## A hold resolved (R175) -/

section
variable {s : State} {tin : TinId} {l : Option TinId} {e : Expected}

/-- Of two later items that carry the tin id the nearer is taken (log 57). -/
theorem State.laterItem_eq (s : State) (tin : TinId) : s.laterItem tin =
    (((s.ahead 2).filter fun e => e.msg.tin == tin).map (2, ·)).or
      (((s.ahead 3).filter fun e => e.msg.tin == tin).map (3, ·)) := by
  unfold State.laterItem
  cases s.ahead 2 with
  | none =>
    cases s.ahead 3 with
    | none => rfl
    | some e3 => by_cases h3 : e3.msg.tin = tin <;> simp [Option.filter_some, h3]
  | some e2 =>
    by_cases h2 : e2.msg.tin = tin
    · simp [Option.filter_some, h2]
    · cases s.ahead 3 with
      | none => simp [Option.filter_some, h2]
      | some e3 => by_cases h3 : e3.msg.tin = tin <;> simp [Option.filter_some, h2, h3]

theorem State.laterItem_second (he : s.ahead 2 = some e) (htin : e.msg.tin = tin) : s.laterItem tin = some (2, e) := by
  simp [State.laterItem_eq, he, htin]

theorem State.laterItem_third (hno : ∀ e2, s.ahead 2 = some e2 → e2.msg.tin ≠ tin) (he : s.ahead 3 = some e)
    (htin : e.msg.tin = tin) : s.laterItem tin = some (3, e) := by
  have hsecond : (s.ahead 2).filter (fun e => e.msg.tin == tin) = none := by simpa using hno
  simp [State.laterItem_eq, hsecond, he, htin]

theorem State.laterItem_none (hno : ∀ e, s.ahead 2 = some e ∨ s.ahead 3 = some e → e.msg.tin ≠ tin) :
    s.laterItem tin = none := by
  have hsecond : (s.ahead 2).filter (fun e => e.msg.tin == tin) = none := by simpa using fun e h => hno e (.inl h)
  have hthird : (s.ahead 3).filter (fun e => e.msg.tin == tin) = none := by simpa using fun e h => hno e (.inr h)
  rw [State.laterItem_eq, hsecond, hthird]
  rfl

/-- The tin is the one after the next: the next item is skipped. -/
theorem State.resolveHold_second (h : s.laterItem tin = some (2, e)) : s.resolveHold (some tin) =
    ((s.skipItem (seqNext s.xfr.pointer)).setPointer (seqNext s.xfr.pointer)).setIntake (clearedBy e) := by
  simp only [State.resolveHold, Option.bind_some, h]
  rfl

/-- The tin is the third: the two items before it are skipped. -/
theorem State.resolveHold_third (h : s.laterItem tin = some (3, e)) : s.resolveHold (some tin) =
    (((s.skipItem (seqNext s.xfr.pointer)).skipItem (seqNext (seqNext s.xfr.pointer))).setPointer
      (seqNext (seqNext s.xfr.pointer))).setIntake (clearedBy e) := by
  simp only [State.resolveHold, Option.bind_some, h]
  rfl

/-- Without a later item of the last id read the intake alone is set. -/
theorem State.resolveHold_change (h : l.bind s.laterItem = none) : ∃ i, s.resolveHold l = s.setIntake i := by
  unfold State.resolveHold
  rw [h]
  dsimp only
  split
  · split <;> exact ⟨_, rfl⟩
  · exact ⟨_, rfl⟩

theorem State.resolveHold_presumed (h : l.bind s.laterItem = none) (he : s.ahead 1 = some e)
    (hl : l = none ∨ l = some e.msg.tin) : s.resolveHold l = s.setIntake (.cleared (.presumed e.msg.seq)) := by
  unfold State.resolveHold
  rw [h, he]
  exact if_pos (by simpa using hl)

theorem State.resolveHold_unknown (h : l.bind s.laterItem = none)
    (hno : ∀ e, s.ahead 1 = some e → l ≠ none ∧ l ≠ some e.msg.tin) :
    s.resolveHold l = s.setIntake (.cleared .unknown) := by
  unfold State.resolveHold
  rw [h]
  cases he : s.ahead 1 with
  | none => rfl
  | some e => exact if_neg (by simpa using hno e he)

/-- The items left after the next one is skipped. -/
theorem State.mem_expected_skipped {q : Nat} (i : Expected) : i ∈ ((s.skipItem q).setPointer q).xfr.expected ↔
    i ∈ s.xfr.expected ∧ i.msg.seq ≠ q ∧ isAfter i.msg.seq q = true := by
  rw [State.setPointer, State.skipItem_xfr]
  exact State.mem_expected_pulled i

end

/-- Settles O51: each command of the gate by the state of the intake. -/
theorem gateReadsAndHolds : Obligations.GateReadsAndHolds := by
  unfold Obligations.GateReadsAndHolds
  refine ⟨?_, ?_⟩
  · rintro tag s next good h hserv rfl hgood
    have hread (e) : good e ↔ s.goodItem tag = some e := (hgood e).trans State.goodItem_eq_some.symm
    have hunread (hno : ∀ e, ¬ good e) : s.goodItem tag = none :=
      Option.eq_none_iff_forall_ne_some.mpr fun e he => hno e ((hread e).mpr he)
    refine ⟨?_, ?_, fun im him => State.hold_settings him, fun g a p r l hi => ?_, fun hi => exec_hold_idle h hi tag⟩
    · obtain ⟨t, hexec, hhead, hframe, hleft, hjudged⟩ := tinArrival_read h hserv tag
      refine ⟨t, hexec, hhead, hframe, hleft, fun hi hself => ⟨fun e he => ?_, fun hno => ?_⟩⟩
      · rw [hjudged hi hself, (hread e).mp he, ← clearedBy_eq]
        rfl
      · rw [hjudged hi hself, hunread hno]
        rfl
    · obtain ⟨t, hexec, hhead, hframe, hkept, hopened⟩ := tinLiftedOff_opens h
      have hgate := s.keepsGate_iff
      refine ⟨t, hexec, hhead, hframe, fun hcut => hkept (hgate.mpr (.inl hcut)), fun hcut hno => hopened ?_,
        fun c hc hpull => hkept (hgate.mpr (.inr ⟨⟨c, hc⟩, hpull⟩))⟩
      rw [← Bool.not_eq_true, hgate]
      rintro (hc | ⟨⟨c, hc⟩, hpull⟩)
      · exact Bool.false_ne_true (hcut.symm.trans hc)
      · exact hno.elim (fun hp => Bool.false_ne_true (hp.symm.trans hpull)) fun hp => hp c hc
    · obtain ⟨t, hexec, hframe, hjudged⟩ := holdRead_judged h hi tag
      refine ⟨t, hexec, hframe, fun e he hk => ?_, fun e he hk => ?_, fun hno => ?_⟩
      · rw [hjudged, (hread e).mp he, ← clearedBy_eq]
        exact if_pos hk
      · rw [hjudged, (hread e).mp he]
        exact if_neg (Nat.not_le.mpr hk)
      · rw [hjudged, hunread hno]
        cases tag <;> rfl
  · rintro s g a p r l _ _ _ lost h hi rfl rfl rfl hlost
    have hlost (m) : lost m = lostReport m s.self .skippedAtIntake := hlost m
    refine ⟨fun ha => ?_, fun ha => ?_⟩
    · rw [exec_holdPeriodEnd_hold h hi, if_pos ha]
      rfl
    · have hexec : exec .holdPeriodEnd s = .next (s.resolveHold l) := by
        rw [exec_holdPeriodEnd_hold h hi, if_neg (Nat.not_lt.mpr ha)]
      refine ⟨_, hexec, fun e he hl => ?_, fun e he hl hother => ?_, fun hno => ?_⟩
      · subst hl
        rw [State.resolveHold_second (State.laterItem_second he rfl), clearedBy_eq, State.item_seq he]
        refine ⟨rfl, rfl, State.mem_expected_skipped, fun hnone => ?_, fun e1 he1 => ?_⟩
        · rw [State.skipItem_of_no_item hnone]
          exact ⟨rfl, rfl⟩
        · have hskip := State.sameBook_skipItem he1
          rw [hlost]
          exact ⟨hskip.bus, hskip.book⟩
      · subst hl
        rw [State.resolveHold_third (State.laterItem_third hother he rfl), clearedBy_eq, State.item_seq he]
        refine ⟨rfl, rfl, fun e1 e2 he1 he2 hne => ?_⟩
        rw [hlost, hlost]
        exact (State.sameBook_skipTwo hne he1 he2).bus
      · have hlater : l.bind s.laterItem = none := by
          cases l with
          | none => rfl
          | some tin => exact State.laterItem_none fun e he htin => hno e he (congrArg some htin.symm)
        obtain ⟨i, hchange⟩ := State.resolveHold_change hlater
        refine ⟨by rw [hchange]; rfl, fun e he hl => ?_, fun hnext => ?_⟩
        · rw [State.resolveHold_presumed hlater he hl, State.item_seq he]
          rfl
        · rw [State.resolveHold_unknown hlater hnext]
          rfl

end Sys2Proof.Machine
end

/-! # Proofs: the lid magazines and the press (O55) -/

section
namespace Sys2Proof.Machine

/-! ## A magazine changed (R183) -/

section
variable {s t : State} {n m : Nat} {f g : Magazine → Magazine}

theorem State.magazine_congr (h : t.lids.magazines = s.lids.magazines) (n : Nat) : t.magazine n = s.magazine n := by
  rw [State.magazine, State.magazine, h]

theorem State.magazine_modMagazine_ne (h : m ≠ n) : (s.modMagazine n f).magazine m = s.magazine m := by
  unfold State.modMagazine
  split_ifs with hn
  · rfl
  · unfold State.magazine
    split_ifs with hm
    · rfl
    · have hne : n - 1 ≠ m - 1 := by omega
      simp [List.getD_eq_getElem?_getD, hne]

theorem State.magazine_modMagazine_self (h1 : 1 ≤ n) (hn : n ≤ s.lids.magazines.length) :
    (s.modMagazine n f).magazine n = f (s.magazine n) := by
  have h0 : n ≠ 0 := by omega
  have hlt : n - 1 < s.lids.magazines.length := by omega
  simp [State.modMagazine, State.magazine, h0, hlt, List.getD_eq_getElem?_getD]

/-- Two changes that make the same of the magazine they find are the same change. -/
theorem State.modMagazine_congr (h1 : 1 ≤ n) (hn : n ≤ s.lids.magazines.length) (h : f (s.magazine n) = g (s.magazine n)) :
    s.modMagazine n f = s.modMagazine n g := by
  have h0 : n ≠ 0 := by omega
  have hlt : n - 1 < s.lids.magazines.length := by omega
  rw [State.magazine, if_neg h0, List.getD_eq_getElem?_getD, List.getElem?_eq_getElem hlt, Option.getD_some] at h
  simp only [State.modMagazine, if_neg h0, List.modify_eq_set_getElem?, List.getElem?_eq_getElem hlt, Option.map_some,
    Option.getD_some, Option.map_eq_map, h]

end

theorem State.modMagazine_eq (s : State) (n : Nat) (f : Magazine → Magazine) :
    s.modMagazine n f = { s with lids := (s.modMagazine n f).lids } := by
  unfold State.modMagazine
  split <;> rfl

theorem State.modMagazine_bay (s : State) (n : Nat) (f : Magazine → Magazine) : (s.modMagazine n f).lids.bay = s.lids.bay := by
  unfold State.modMagazine
  split <;> rfl

/-! ## The top layer (R188) -/

theorem topIs_iff {lid : Nat} {l : List Layer} : topIs lid l = true ↔ ∃ top rest, l = top :: rest ∧ top.lid = lid := by
  cases l <;> simp [topIs]

theorem topIs_eq_false_iff {lid : Nat} {l : List Layer} :
    topIs lid l = false ↔ ∀ top rest, l = top :: rest → top.lid ≠ lid := by
  cases l <;> simp [topIs]

/-! ## A press start (R188 to R190) -/

section
variable {s : State} {a : Tin}

theorem State.pressStart_presses (ha : s.tinAt 4 = some a) (hfin : a.st = .finishing)
    (htop : topIs a.lid (s.magazine a.size).layers = true) (hhatch : s.hatchOpen a.size = false)
    (hlid : s.pins.sample.lidOnHead = true) : s.pressStart =
      (s.modMagazine a.size fun m => { layers := popLid m.layers, pulses := m.pulses + 1 }).setBay (.pressing 0) := by
  simp [State.pressStart, ha, hfin, htop, hhatch, hlid]

theorem State.pressStart_misfeeds (ha : s.tinAt 4 = some a) (hfin : a.st = .finishing)
    (htop : topIs a.lid (s.magazine a.size).layers = true) (hhatch : s.hatchOpen a.size = false)
    (hlid : s.pins.sample.lidOnHead = false) : s.pressStart =
      (s.modMagazine a.size fun m => { layers := [], pulses := m.pulses + 1 }).setBay (.lidWait true) := by
  simp [State.pressStart, ha, hfin, htop, hhatch, hlid]

theorem State.pressStart_waits (ha : s.tinAt 4 = some a) (hfin : a.st = .finishing)
    (h : topIs a.lid (s.magazine a.size).layers = false ∨ s.hatchOpen a.size = true) :
    s.pressStart = s.setBay s.lids.bay.wait := by
  rcases h with h | h <;> simp [State.pressStart, ha, hfin, h]

theorem LidBay.wait_of_waiting {b : LidBay} {f : Bool} (h : b = .lidWait f) : b.wait = .lidWait f := by
  rw [h]
  rfl

theorem LidBay.wait_of_not_waiting {b : LidBay} (h : ∀ f, b ≠ .lidWait f) : b.wait = .lidWait false := by
  cases b with
  | lidWait f => exact absurd rfl (h f)
  | idle | pressing _ | pressStopped => rfl

/-- A press start leaves the magazines of the other sizes. -/
theorem State.magazine_pressStart_ne (ha : s.tinAt 4 = some a) {m : Nat} (hm : m ≠ a.size) :
    s.pressStart.magazine m = s.magazine m := by
  unfold State.pressStart
  rw [ha]
  dsimp only
  split_ifs
  · exact State.magazine_modMagazine_ne hm
  · exact State.magazine_modMagazine_ne hm
  · rfl
  · rfl

end

/-! ## The waiting tin (R192) -/

/-- The bay waits for a lid of magazine `n`, in a cell state that permits a press start. -/
def State.WaitsFor (s : State) (n : Nat) : Prop :=
  ∃ f a, s.lids.bay = .lidWait f ∧ s.tinAt 4 = some a ∧ a.size = n ∧ s.working = true

section
variable {s : State} {n : Nat}

theorem State.WaitsFor.lidRejudge (h : s.WaitsFor n) : s.lidRejudge n = s.pressStart := by
  obtain ⟨f, a, hbay, ha, hsize, hw⟩ := h
  simp [State.lidRejudge, hbay, ha, hsize, hw]

theorem State.lidRejudge_of_not_waitsFor (h : ¬ s.WaitsFor n) : s.lidRejudge n = s := by
  unfold State.lidRejudge
  split
  · next f a hbay ha =>
    refine if_neg fun hc => h ⟨f, a, hbay, ha, ?_⟩
    simpa using hc
  · rfl

theorem State.lidRejudge_eq (s : State) (n : Nat) : s.lidRejudge n = { s with lids := (s.lidRejudge n).lids } := by
  by_cases h : s.WaitsFor n
  · rw [h.lidRejudge, s.pressStart_eq]
  · rw [State.lidRejudge_of_not_waitsFor h]

theorem State.magazine_lidRejudge_ne {m : Nat} (hm : m ≠ n) : (s.lidRejudge n).magazine m = s.magazine m := by
  by_cases h : s.WaitsFor n
  · obtain ⟨f, a, hbay, ha, hsize, hw⟩ := id h
    rw [h.lidRejudge, State.magazine_pressStart_ne ha (hsize ▸ hm)]
  · rw [State.lidRejudge_of_not_waitsFor h]

end

/-! ## A hatch (R186) -/

section
variable (s : State) (m : Fin 5) (b : Bool)

theorem getLsbD_one_shiftLeft {w i : Nat} (h : i < w) (j : Nat) : (1#w <<< i).getLsbD j = decide (i = j) := by
  rw [← BitVec.twoPow_eq, BitVec.getLsbD_twoPow, decide_eq_true h, Bool.true_and]

/-- An input set stands as it was set, and the others as they stood. -/
theorem State.hatchOpen_setHatch (k : Fin 5) :
    (s.setHatch m b).hatchOpen (k.val + 1) = if k = m then b else s.hatchOpen (k.val + 1) := by
  have hbit : (1#5 <<< m.val).getLsbD k.val = decide (k = m) := by
    rw [getLsbD_one_shiftLeft m.isLt]
    simp [Fin.ext_iff, eq_comm]
  have hnot : (~~~(1#5 <<< m.val)).getLsbD k.val = !decide (k = m) := by
    rw [BitVec.getLsbD_not, hbit, decide_eq_true k.isLt, Bool.true_and]
  unfold State.hatchOpen State.setHatch
  cases b
  · simp only [Bool.false_eq_true, if_false, Nat.add_sub_cancel, BitVec.getLsbD_and, hnot]
    split_ifs with h <;> simp [h]
  · simp only [if_true, Nat.add_sub_cancel, BitVec.getLsbD_or, hbit]
    split_ifs with h <;> simp [h]

theorem exec_hatchOpened {s : State} (h : s.Live) (m : Fin 5) : exec (.hatchOpened m) s =
    .next ((s.setHatch m true).modMagazine (m.val + 1) fun m => { m with layers := [] }) := by
  simp only [exec]
  exact State.act_live _ h

theorem exec_hatchClosed {s : State} (h : s.Live) (m : Fin 5) (b : Bool) : exec (.hatchClosed m b) s =
    .next (((s.latchLid b).setHatch m false).lidRejudge (m.val + 1)) := by
  simp only [exec]
  exact State.act_live _ h

end

/-! ## The end of a press (R190, R191) -/

section
variable {s : State} {k : Nat}

theorem exec_pressComplete (h : s.Live) (hbay : s.lids.bay = .pressing k) :
    exec .pressComplete s = .next (s.endPress fun t => { t with st := .lidded }) := by
  simp only [exec]
  exact State.act_next h (by rw [hbay])

theorem exec_pressTimeout (h : s.Live) (hbay : s.lids.bay = .pressing k) :
    exec .pressTimeout s = .next (s.endPress fun t => t.rejected .lidFault) := by
  simp only [exec]
  exact State.act_next h (by rw [hbay])

/-- Where no press runs, neither end of one has an effect. -/
theorem exec_press_idle (h : s.Live) (hbay : ∀ k, s.lids.bay ≠ .pressing k) :
    exec .pressComplete s = .next s ∧ exec .pressTimeout s = .next s := by
  constructor
  all_goals
    simp only [exec]
    refine State.act_next h ?_
    split
    · next k hk => exact absurd hk (hbay k)
    all_goals rfl

theorem State.endPress_eq (s : State) (f : Tin → Tin) : s.endPress f =
    { s with lids := { s.lids with bay := .idle }, seg := { s.seg with slots := (s.endPress f).seg.slots } } := by
  obtain ⟨l, h⟩ := s.modTinAt_change 4 f
  rw [State.endPress, h]
  rfl

theorem State.endPress_slot_ne {n : Nat} (h : n ≠ 4) (f : Tin → Tin) : (s.endPress f).slot n = s.slot n :=
  s.slot_modTinAt_ne f (Ne.symm h)

theorem State.endPress_slot_known {a : Tin} (h : s.tinAt 4 = some a) (f : Tin → Tin) :
    (s.endPress f).slot 4 = some (.known (f a)) :=
  State.slot_modTinAt_self h f

theorem State.endPress_slot_unknown (h : s.tinAt 4 = none) (f : Tin → Tin) : (s.endPress f).slot 4 = s.slot 4 := by
  change (s.modTinAt 4 f).slot 4 = _
  rw [State.modTinAt, h]

end

end Sys2Proof.Machine
end

/-! # Proofs: the press start, the hatches and the end of a press (O55) -/

section
namespace Sys2Proof.Machine

/-- A hatch opened empties its magazine and leaves the others (R186). -/
theorem State.emptied_frame (s : State) (m : Fin 5) (hlen : s.lids.magazines.length = 5) :
    ((s.setHatch m true).modMagazine (m.val + 1) fun m => { m with layers := [] }).magazine (m.val + 1) =
        { s.magazine (m.val + 1) with layers := [] } ∧
      ∀ k, k ≠ m.val + 1 →
        ((s.setHatch m true).modMagazine (m.val + 1) fun m => { m with layers := [] }).magazine k = s.magazine k := by
  refine ⟨State.magazine_modMagazine_self (Nat.succ_pos _) ?_, fun k hk => State.magazine_modMagazine_ne hk⟩
  have hlt := m.isLt
  change m.val + 1 ≤ s.lids.magazines.length
  omega

/-- What a press start makes of the bay and of the magazine of the tin's size (R188, R189, R190). -/
theorem State.pressStart_takes {s : State} {a : Tin} (ha : s.tinAt 4 = some a) (hfin : a.st = .finishing) (h1 : 1 ≤ a.size)
    (hn : a.size ≤ s.lids.magazines.length) {top : Layer} {rest : List Layer}
    (hl : (s.magazine a.size).layers = top :: rest) (hlid : top.lid = a.lid) (hhatch : s.hatchOpen a.size = false) :
    (s.pins.sample.lidOnHead = true → s.pressStart.lids.bay = .pressing 0 ∧
      (s.pressStart.magazine a.size).layers = popLid (top :: rest)) ∧
    (s.pins.sample.lidOnHead = false → s.pressStart.lids.bay = .lidWait true ∧
      (s.pressStart.magazine a.size).layers = []) := by
  have htop : topIs a.lid (s.magazine a.size).layers = true := topIs_iff.mpr ⟨top, rest, hl, hlid⟩
  constructor
  · intro hhead
    rw [State.pressStart_presses ha hfin htop hhatch hhead]
    refine ⟨rfl, ?_⟩
    rw [State.magazine_congr (State.setBay_keeps_magazines _ _), State.magazine_modMagazine_self h1 hn, hl]
  · intro hhead
    rw [State.pressStart_misfeeds ha hfin htop hhatch hhead]
    refine ⟨rfl, ?_⟩
    rw [State.magazine_congr (State.setBay_keeps_magazines _ _), State.magazine_modMagazine_self h1 hn]

/-- Settles O55: a press start by the top layer, the hatch and the lid on the head; a hatch by its bit and by the tin
that waits; the end of a press by the tin at slot 4. -/
theorem lidsChosenAndPressed : Obligations.LidsChosenAndPressed := by
  unfold Obligations.LidsChosenAndPressed
  refine ⟨?_, ?_, ?_⟩
  · intro s a ha hfin h1 h5 hlen
    refine ⟨by rw [s.pressStart_eq], fun m hm => State.magazine_pressStart_ne ha hm, ?_, ?_⟩
    · intro top rest hl hlid hhatch
      exact State.pressStart_takes ha hfin h1 (h5.trans hlen.ge) hl hlid hhatch
    · intro h
      rw [State.pressStart_waits ha hfin (h.imp_left topIs_eq_false_iff.mpr)]
      exact ⟨rfl, fun f hf => LidBay.wait_of_waiting hf, LidBay.wait_of_not_waiting⟩
  · intro m b s waiting h hlen hwaiting
    constructor
    · obtain ⟨hempty, hothers⟩ := s.emptied_frame m hlen
      refine ⟨_, exec_hatchOpened h m, ?_, ?_, ?_, fun k hk => ?_, State.modMagazine_bay _ _ _, ?_, ?_, hothers⟩
      · rw [State.modMagazine_eq]
        rfl
      · rw [State.modMagazine_eq]
        rfl
      · rw [State.modMagazine_eq]
        exact (s.hatchOpen_setHatch m true m).trans (if_pos rfl)
      · rw [State.modMagazine_eq]
        exact (s.hatchOpen_setHatch m true k).trans (if_neg hk)
      · rw [hempty]
      · rw [hempty]
        rfl
    · have hframe := State.lidRejudge_eq ((s.latchLid b).setHatch m false) (m.val + 1)
      have hwaits : State.WaitsFor ((s.latchLid b).setHatch m false) (m.val + 1) ↔ waiting := hwaiting.symm
      refine ⟨_, exec_hatchClosed h m b, ?_, ?_, ?_, fun k hk => ?_, fun hno => ?_, fun hyes => ?_⟩
      · rw [hframe]
        rfl
      · rw [hframe]
        rfl
      · rw [hframe]
        exact ((s.latchLid b).hatchOpen_setHatch m false m).trans (if_pos rfl)
      · rw [hframe]
        exact ((s.latchLid b).hatchOpen_setHatch m false k).trans (if_neg hk)
      · rw [State.lidRejudge_of_not_waitsFor (hwaits.not.mpr hno)]
        rfl
      · have hpins := congrArg State.pins hframe
        rw [hpins, (hwaits.mpr hyes).lidRejudge]
        rfl
  · intro s h hlen
    refine ⟨fun k hbay => ?_, exec_press_idle h⟩
    refine ⟨_, _, exec_pressComplete h hbay, exec_pressTimeout h hbay, s.endPress_eq _, s.endPress_eq _, rfl, rfl,
      fun n hn => ⟨State.endPress_slot_ne hn _, State.endPress_slot_ne hn _⟩,
      fun a ha => ⟨State.endPress_slot_known ha _, State.endPress_slot_known ha _⟩,
      fun ha => ⟨State.endPress_slot_unknown ha _, State.endPress_slot_unknown ha _⟩⟩

end Sys2Proof.Machine
end

/-! # Proofs: LID LOAD (O54) -/

section
namespace Sys2Proof.Machine

/-! ## The tests (R184) -/

section
variable {s : State} {size lid count : Nat}

/-- A load of a size without a magazine, of no lid type or of no lids is out of range. -/
theorem State.lidLoadCode_range (h : size = 0 ∨ 5 < size ∨ lid = 0 ∨ count = 0) :
    s.lidLoadCode size lid count = some .range := by
  simp only [State.lidLoadCode, Option.isNone_iff_eq_none, sizeRow_eq_none]
  split_ifs <;> first | rfl | omega

/-- A load in range is judged by its magazine: its room, and a layer to take the lids. -/
theorem State.lidLoadCode_in_range (h1 : 1 ≤ size) (h5 : size ≤ 5) (hlid : lid ≠ 0) (hcount : count ≠ 0) :
    s.lidLoadCode size lid count =
      if 60 ≤ (s.magazine size).count then some .full
      else if topIs lid (s.magazine size).layers = false ∧ 6 ≤ (s.magazine size).layers.length then some .layers
      else none := by
  have hrow : ¬ (sizeRow size = none) := by
    rw [sizeRow_eq_none]
    omega
  simp only [State.lidLoadCode, Option.isNone_iff_eq_none, hrow, hlid, hcount, if_false, Bool.and_eq_true, Bool.not_eq_true',
    decide_eq_true_eq]
  rfl

/-- The tests in their order: the range, the room, the layers. -/
theorem State.lidLoadCode_refuses {code : LoadCode}
    (h : (code = .range ∧ (size = 0 ∨ 5 < size ∨ lid = 0 ∨ count = 0)) ∨
      (1 ≤ size ∧ size ≤ 5 ∧ lid ≠ 0 ∧ count ≠ 0 ∧ (code = .full ∧ 60 ≤ (s.magazine size).count ∨
        code = .layers ∧ (s.magazine size).count < 60 ∧ 6 ≤ (s.magazine size).layers.length ∧
          ∀ top rest, (s.magazine size).layers = top :: rest → top.lid ≠ lid))) :
    s.lidLoadCode size lid count = some code := by
  rcases h with ⟨rfl, hrange⟩ | ⟨h1, h5, hlid, hcount, h⟩
  · exact State.lidLoadCode_range hrange
  · rw [State.lidLoadCode_in_range h1 h5 hlid hcount]
    rcases h with ⟨rfl, hfull⟩ | ⟨rfl, hroom, hlen, htop⟩
    · exact if_pos hfull
    · rw [if_neg (Nat.not_le.mpr hroom), if_pos ⟨topIs_eq_false_iff.mpr htop, hlen⟩]

/-- Lids in range pass where the magazine has room for them, and a layer or the room for one. -/
theorem State.lidLoadCode_passes (h1 : 1 ≤ size) (h5 : size ≤ 5) (hlid : lid ≠ 0) (hcount : count ≠ 0)
    (hroom : (s.magazine size).count < 60) (hlayer : (s.magazine size).layers.length < 6 ∨
      ∃ top rest, (s.magazine size).layers = top :: rest ∧ top.lid = lid) : s.lidLoadCode size lid count = none := by
  have hlayers : ¬ (topIs lid (s.magazine size).layers = false ∧ 6 ≤ (s.magazine size).layers.length) := by
    rintro ⟨htop, hlen⟩
    rcases hlayer with hlt | hsame
    · omega
    · exact Bool.false_ne_true (htop.symm.trans (topIs_iff.mpr hsame))
  rw [State.lidLoadCode_in_range h1 h5 hlid hcount, if_neg (Nat.not_le.mpr hroom), if_neg hlayers]

/-! ## The push (R185) -/

/-- The lids pushed stand on top of what the magazine held. -/
theorem pushLids_eq {n : Nat} {l pushed : List Layer}
    (hsame : ∀ top rest, l = top :: rest → top.lid = lid → pushed = { top with count := top.count + n } :: rest)
    (hnew : (∀ top rest, l = top :: rest → top.lid ≠ lid) → pushed = { lid := lid, count := n } :: l) :
    pushLids lid n l = pushed := by
  cases l with
  | nil => exact (hnew fun _ _ h => nomatch h).symm
  | cons a l =>
    rw [pushLids]
    split_ifs with h
    · exact (hsame a l rfl h).symm
    · exact (hnew fun top rest hl => by cases hl; exact h).symm

theorem pushLids_count (lid n : Nat) (l : List Layer) :
    ((pushLids lid n l).map Layer.count).sum = (l.map Layer.count).sum + n := by
  cases l with
  | nil => simp [pushLids]
  | cons a l =>
    rw [pushLids]
    split_ifs
    · simp only [List.map_cons, List.sum_cons]
      omega
    · simp only [List.map_cons, List.sum_cons]
      omega

/-- The lids granted pushed onto their magazine. -/
def State.lidsPushed (s : State) (size lid count : Nat) : State :=
  s.modMagazine size fun m => { m with layers := pushLids lid (s.lidsAccepted size count) m.layers }

theorem State.magazine_lidsPushed (h1 : 1 ≤ size) (h5 : size ≤ s.lids.magazines.length) :
    (s.lidsPushed size lid count).magazine size =
      { s.magazine size with layers := pushLids lid (s.lidsAccepted size count) (s.magazine size).layers } :=
  State.magazine_modMagazine_self h1 h5

theorem State.lidsPushed_count (h1 : 1 ≤ size) (h5 : size ≤ s.lids.magazines.length) :
    ((s.lidsPushed size lid count).magazine size).count = (s.magazine size).count + s.lidsAccepted size count := by
  rw [State.magazine_lidsPushed h1 h5]
  exact pushLids_count _ _ _

theorem State.waitsFor_lidsPushed {n : Nat} : (s.lidsPushed size lid count).WaitsFor n ↔ s.WaitsFor n := by
  rw [State.lidsPushed, State.modMagazine_eq, State.WaitsFor, State.WaitsFor]
  rw [State.modMagazine_bay]
  rfl

/-! ## The load taken (R184, R185, R192) -/

/-- A load refused leaves the lid unit, and its result names the test. -/
theorem State.takeLidLoad_refused {c : LoadCode} (h : s.lidLoadCode size lid count = some c) :
    s.takeLidLoad size lid count = { s with panel := { s.panel with message := some (.loadResult
      { magazine := size, lid := lid, asked := count, outcome := .refused, code := some c, accepted := 0,
        count := (s.magazine size).count }) } } := by
  simp [State.takeLidLoad, State.loadLids, h]

/-- A message in the slot changes nothing of what the lid unit judges. -/
theorem State.lidRejudge_panel (p : Panel) (n : Nat) :
    State.lidRejudge { s with panel := p } n = { s.lidRejudge n with panel := p } := by
  by_cases h : s.WaitsFor n
  · have h' : State.WaitsFor { s with panel := p } n := h
    rw [h.lidRejudge, h'.lidRejudge, State.pressStart_eq, State.pressStart_eq]
    rfl
  · have h' : ¬ State.WaitsFor { s with panel := p } n := h
    rw [State.lidRejudge_of_not_waitsFor h, State.lidRejudge_of_not_waitsFor h']

/-- A load that passes its tests is pushed, a tin that waits for the magazine is judged afresh, and the result tells
what the magazine held before. -/
theorem State.takeLidLoad_granted (h : s.lidLoadCode size lid count = none) (h1 : 1 ≤ size)
    (h5 : size ≤ s.lids.magazines.length) : s.takeLidLoad size lid count =
      { s with
        lids := ((s.lidsPushed size lid count).lidRejudge size).lids
        panel := { s.panel with message := some (.loadResult
          { magazine := size, lid := lid, asked := count,
            outcome := if s.lidsAccepted size count = count then .accepted else .clamped, code := none,
            accepted := s.lidsAccepted size count, count := (s.magazine size).count + s.lidsAccepted size count }) } } := by
  rw [← State.lidsPushed_count (lid := lid) h1 h5]
  have hload : s.takeLidLoad size lid count = State.lidRejudge { s.lidsPushed size lid count with
      panel := { (s.lidsPushed size lid count).panel with message := some (.loadResult
        { magazine := size, lid := lid, asked := count,
          outcome := if s.lidsAccepted size count = count then .accepted else .clamped, code := none,
          accepted := s.lidsAccepted size count, count := ((s.lidsPushed size lid count).magazine size).count }) } } size := by
    simp only [State.takeLidLoad, State.loadLids, h, Option.isNone_none, if_true]
    rfl
  obtain ⟨l, hl⟩ : ∃ l, s.lidsPushed size lid count = { s with lids := l } := ⟨_, s.modMagazine_eq _ _⟩
  rw [hload, State.lidRejudge_panel, hl, State.lidRejudge_eq]

end

/-! ## The commands (R14, R15, R184, R208) -/

/-- A notice heard is taken, a terminal's entry being refreshed first (R12, R21). -/
theorem State.Hears.hear_taken {s : State} {k : Sender} {src : Nat} (h : s.Hears k src) (take : State → State) :
    s.hear k src true take = take (if 16 ≤ src then s.refresh src none else s) := by
  obtain ⟨-, hlisten, hallow, hself⟩ := h
  have hl : s.listening = true := hlisten
  simp [State.hear, hl, hallow, hself]

theorem State.addressed_iff {s : State} {target : Nat} : s.addressed target = true ↔ target = s.self ∨ target = 31 := by
  simp [State.addressed]

/-- A LID LOAD for this cell is taken, a terminal's entry being refreshed first. -/
theorem State.Hears.exec_lidLoad {s : State} {src target : Nat} (h : s.Hears .either src)
    (ht : target = s.self ∨ target = 31) (hserv : s.inService = true) (size lid count : Nat) (b : Bool) :
    exec (.lidLoad src target size lid count b) s = .next
      (State.takeLidLoad (if 16 ≤ src then (s.latchLid b).refresh src none else s.latchLid b) size lid count) := by
  have hheard : (s.latchLid b).Hears .either src := h
  have htarget : (s.latchLid b).addressed target = true := State.addressed_iff.mpr ht
  have hserv' : (s.latchLid b).inService = true := hserv
  simp only [exec]
  refine State.act_next h.live ((hheard.hear_taken _).trans (if_pos (Bool.and_eq_true_iff.mpr ?_)))
  split
  · exact ⟨by rwa [State.addressed, State.self_refresh], by rwa [State.inService_refresh]⟩
  · exact ⟨htarget, hserv'⟩

/-- A LID LOAD keyed at the panel is taken, and placed as a LID LOAD whatever became of it. -/
theorem exec_lidLoadEntry {s : State} (h : s.Live) (hserv : s.inService = true) (size lid count : Nat) (b : Bool) :
    exec (.lidLoadEntry size lid count b) s =
      .next (((s.latchLid b).takeLidLoad size lid count).place (.lidLoad s.self size lid count)) := by
  simp only [exec]
  exact State.act_next h (if_pos hserv)

/-- Settles O54: the test that fails refuses the load; one that passes is pushed, and a tin that waits is judged by the
magazine as the push leaves it. -/
theorem lidLoadPushed : Obligations.LidLoadPushed := by
  unfold Obligations.LidLoadPushed
  rintro src target size lid count _ _ b s _ pushed waiting out hserv hlen rfl rfl rfl hsame hnew hwaiting hout
  have hpush := pushLids_eq hsame hnew
  have taken (u : State) (hlids : u.lids = s.lids) (hwaits : u.WaitsFor size ↔ waiting) :
      out u (u.takeLidLoad size lid count) := by
    have hmagazine : ∀ m, u.magazine m = s.magazine m := State.magazine_congr (congrArg Lids.magazines hlids)
    refine (hout _ _).mpr ⟨fun code hcode => ?_, fun h1 h5 hlid hcount hroom hlayer => ?_⟩
    · rw [← hmagazine] at hcode
      have hrefused := State.lidLoadCode_refuses hcode
      rw [State.takeLidLoad_refused hrefused, hmagazine]
      exact ⟨rfl, rfl, rfl⟩
    · rw [← hmagazine] at hroom hlayer
      have hgranted := State.lidLoadCode_passes h1 h5 hlid hcount hroom hlayer
      have hsize : size ≤ u.lids.magazines.length := by rwa [hlids, hlen]
      have haccepted : u.lidsAccepted size count = min count (60 - (s.magazine size).count) := by
        rw [State.lidsAccepted, hmagazine]
        rfl
      have hlayers : (u.lidsPushed size lid count).magazine size = { s.magazine size with layers := pushed } := by
        rw [State.magazine_lidsPushed h1 hsize, hmagazine, haccepted, hpush]
      rw [State.takeLidLoad_granted hgranted h1 hsize]
      refine ⟨rfl, rfl, ?_, fun m hm => ?_, fun hno => ?_, fun hyes => ?_⟩
      · rw [haccepted, hmagazine]
      · calc
          _ = ((u.lidsPushed size lid count).lidRejudge size).magazine m := State.magazine_congr rfl m
          _ = u.magazine m := (State.magazine_lidRejudge_ne hm).trans (State.magazine_modMagazine_ne hm)
          _ = s.magazine m := hmagazine m
      · rw [State.lidRejudge_of_not_waitsFor (State.waitsFor_lidsPushed.not.mpr (hwaits.not.mpr hno))]
        have hheld : State.magazine { u with lids := (u.lidsPushed size lid count).lids } size =
            (u.lidsPushed size lid count).magazine size := State.magazine_congr rfl size
        refine ⟨(State.modMagazine_bay _ _ _).trans (congrArg Lids.bay hlids), ?_, ?_⟩
        · exact (congrArg Magazine.layers hheld).trans (congrArg Magazine.layers hlayers)
        · refine (congrArg Magazine.count hheld).trans ?_
          rw [State.lidsPushed_count h1 hsize, haccepted, hmagazine]
      · rw [(State.waitsFor_lidsPushed.mpr (hwaits.mpr hyes)).lidRejudge]
        refine congrArg (fun u : State => u.pressStart.lids) (State.modMagazine_congr h1 hsize ?_)
        rw [hmagazine, haccepted, hpush]
  refine ⟨fun hhears htarget => ⟨_, State.Hears.exec_lidLoad hhears htarget hserv size lid count b, ?_⟩,
    fun h => ⟨_, exec_lidLoadEntry h hserv size lid count b, taken _ rfl hwaiting.symm⟩⟩
  split
  · obtain ⟨st, bus, book, hrefresh⟩ := (s.latchLid b).refresh_frame src none
    rw [hrefresh]
    exact taken _ rfl hwaiting.symm
  · exact taken _ rfl hwaiting.symm

end Sys2Proof.Machine
end

/-! # Proofs: what the shake unit does by its conditions (O56) -/

section
namespace Sys2Proof.Machine

/-! ## The look at the conditions (R195, R196, R197, R199) -/

section
variable {s : State}

theorem State.mayShake_iff : s.mayShake = true ↔ s.pins.clamp = true ∧ s.pins.shakerDoor = false ∧ s.working = true := by
  simp [State.mayShake, and_assoc]

theorem State.mayShake_eq_false : s.mayShake = false ↔ s.pins.clamp = false ∨ s.pins.shakerDoor = true ∨ s.working = false := by
  simp [State.mayShake, or_iff_not_imp_left]

theorem State.lookedShaker_clamping (h : s.shaker.st = .clamping) :
    s.lookedShaker = if s.mayShake then s.shaker.run s.shaker.mixMs else s.shaker := by
  simp only [State.lookedShaker, h]

theorem State.lookedShaker_interrupted (h : s.shaker.st = .interrupted) :
    s.lookedShaker = if s.mayShake then s.shaker.run s.shaker.resume else s.shaker := by
  simp only [State.lookedShaker, h]

theorem State.lookedShaker_empty (h : s.shaker.st = .empty) : s.lookedShaker =
    if isLidded (s.slot 6) && !s.seg.index.busy && s.working then { s.shaker with st := .loading, halted := false }
    else s.shaker := by
  simp only [State.lookedShaker, h]

theorem State.lookedShaker_unclamping (h : s.shaker.st = .unclamping) : s.lookedShaker =
    if !s.pins.clamp && (s.slot 7).isNone && !s.seg.index.busy && s.working then
      { s.shaker with st := .returning, halted := false }
    else s.shaker := by
  simp only [State.lookedShaker, h]

/-- A transfer and a run are left to their own ends. -/
theorem State.lookedShaker_moving (h : s.shaker.st = .loading ∨ s.shaker.st = .running ∨ s.shaker.st = .returning) :
    s.lookedShaker = s.shaker := by
  rcases h with h | h | h <;> simp only [State.lookedShaker, h]

/-- Where no run may start and none waits for its conditions, only an empty or an unclamping shaker has something to
do. -/
theorem State.lookedShaker_still (h1 : s.shaker.st ≠ .empty) (h2 : s.shaker.st ≠ .unclamping)
    (h : s.mayShake = false ∨ (s.shaker.st ≠ .clamping ∧ s.shaker.st ≠ .interrupted)) : s.lookedShaker = s.shaker := by
  cases hst : s.shaker.st with
  | empty => exact absurd hst h1
  | unclamping => exact absurd hst h2
  | clamping =>
    rw [State.lookedShaker_clamping hst, h.resolve_right fun hc => hc.1 hst, if_neg Bool.false_ne_true]
  | interrupted =>
    rw [State.lookedShaker_interrupted hst, h.resolve_right fun hc => hc.2 hst, if_neg Bool.false_ne_true]
  | loading => exact State.lookedShaker_moving (.inl hst)
  | running => exact State.lookedShaker_moving (.inr (.inl hst))
  | returning => exact State.lookedShaker_moving (.inr (.inr hst))

/-- A run begins with the mix time (R196). -/
theorem State.lookedShaker_begins (h : s.shaker.st = .clamping) (hmay : s.mayShake = true) :
    s.lookedShaker = { s.shaker with st := .running, left := s.shaker.mixMs, resume := 0 } :=
  (State.lookedShaker_clamping h).trans (if_pos hmay)

/-- An interrupted run goes on with the resume time (R197). -/
theorem State.lookedShaker_resumes (h : s.shaker.st = .interrupted) (hmay : s.mayShake = true) :
    s.lookedShaker = { s.shaker with st := .running, left := s.shaker.resume, resume := 0 } :=
  (State.lookedShaker_interrupted h).trans (if_pos hmay)

/-- With its clamp confirmed the shaker returns no tin. -/
theorem State.lookedShaker_clamped (h : s.shaker.st = .unclamping) (hclamp : s.pins.clamp = true) :
    s.lookedShaker = s.shaker := by
  simp [State.lookedShaker_unclamping h, hclamp]

/-- A tin stays where slot 7 holds another, or where the state permits no motion. -/
theorem State.lookedShaker_kept (h : s.shaker.st = .unclamping) (hkept : s.slot 7 ≠ none ∨ s.working = false) :
    s.lookedShaker = s.shaker := by
  rw [State.lookedShaker_unclamping h]
  refine if_neg ?_
  rcases hkept with hkept | hkept <;> simp [hkept]

/-- With the clamp open and slot 7 free the return begins. -/
theorem State.lookedShaker_unclamped (h : s.shaker.st = .unclamping) (hclamp : s.pins.clamp = false)
    (hfree : s.slot 7 = none) (hidle : s.seg.index = .idle) (hw : s.working = true) :
    s.lookedShaker = { s.shaker with st := .returning, halted := false } := by
  simp [State.lookedShaker_unclamping h, hclamp, hfree, hidle, hw, IndexState.busy]

end

/-! ## The clamp and the door (R196, R197) -/

/-- The shake unit once a run, if there is one, has been interrupted (R197). -/
def State.stoppedShaker (s : State) : Shaker := if s.shaker.st = .running then s.shaker.interrupt else s.lookedShaker

theorem State.interruptOrLook_eq (s : State) : s.interruptOrLook = { s with shaker := s.stoppedShaker } := by
  simp only [State.interruptOrLook, State.stoppedShaker, beq_iff_eq]
  split_ifs
  · rfl
  · exact s.shakerLook_eq

section
variable {s : State}

theorem exec_clampConfirmed (h : s.Live) : exec .clampConfirmed s =
    .next { s with pins := { s.pins with clamp := true }, shaker := (s.setClamp true).lookedShaker } := by
  simp only [exec]
  exact State.act_next h (State.shakerLook_eq _)

theorem exec_doorClosed (h : s.Live) : exec .doorClosed s =
    .next { s with pins := { s.pins with shakerDoor := false }, shaker := (s.setDoor false).lookedShaker } := by
  simp only [exec]
  exact State.act_next h (State.shakerLook_eq _)

theorem exec_doorOpened (h : s.Live) : exec .doorOpened s =
    .next { s with pins := { s.pins with shakerDoor := true }, shaker := (s.setDoor true).stoppedShaker } := by
  simp only [exec]
  exact State.act_next h (State.interruptOrLook_eq _)

theorem exec_clampConfirmationLost (h : s.Live) : exec .clampConfirmationLost s =
    .next { s with pins := { s.pins with clamp := false }, shaker := (s.setClamp false).stoppedShaker } := by
  simp only [exec]
  exact State.act_next h (State.interruptOrLook_eq _)

/-- A run interrupted is neither driven nor lost. -/
theorem State.stoppedShaker_running (h : s.shaker.st = .running) : s.stoppedShaker =
    { s.shaker with st := .interrupted, resume := min (s.shaker.left + 10000) 300000 } := if_pos h

theorem State.stoppedShaker_idle (h : s.shaker.st ≠ .running) : s.stoppedShaker = s.lookedShaker := if_neg h

/-- A clamp confirmed starts nothing where the door is open, the state permits no motion, or no run waits for it. -/
theorem State.clamped_kept (hne : s.shaker.st ≠ .empty) (h : s.pins.shakerDoor = true ∨ s.working = false ∨
    (s.shaker.st ≠ .clamping ∧ s.shaker.st ≠ .interrupted)) : (s.setClamp true).lookedShaker = s.shaker := by
  by_cases hun : s.shaker.st = .unclamping
  · exact State.lookedShaker_clamped (s := s.setClamp true) hun rfl
  · refine State.lookedShaker_still (s := s.setClamp true) hne hun ?_
    rcases h with hdoor | hw | hst
    · exact .inl (State.mayShake_eq_false.mpr (.inr (.inl hdoor)))
    · exact .inl (State.mayShake_eq_false.mpr (.inr (.inr hw)))
    · exact .inr hst

/-- A door closed starts nothing where no run may start, and nothing in a transfer or a run. -/
theorem State.closed_kept (hne : s.shaker.st ≠ .empty) (h : s.shaker.st = .loading ∨ s.shaker.st = .running ∨
    s.shaker.st = .returning ∨ (s.shaker.st ≠ .unclamping ∧ (s.pins.clamp = false ∨ s.working = false))) :
    (s.setDoor false).lookedShaker = s.shaker := by
  rcases h with hst | hst | hst | ⟨hun, hno⟩
  · exact State.lookedShaker_moving (s := s.setDoor false) (.inl hst)
  · exact State.lookedShaker_moving (s := s.setDoor false) (.inr (.inl hst))
  · exact State.lookedShaker_moving (s := s.setDoor false) (.inr (.inr hst))
  · exact State.lookedShaker_still (s := s.setDoor false) hne hun (.inl (State.mayShake_eq_false.mpr (hno.imp_right .inr)))

/-- Where no run is interrupted, an opened door and a lost clamp leave all but an unclamping shaker. -/
theorem State.stoppedShaker_still (hne : s.shaker.st ≠ .empty) (hst : s.shaker.st ≠ .running)
    (hun : s.shaker.st ≠ .unclamping) :
    (s.setDoor true).stoppedShaker = s.shaker ∧ (s.setClamp false).stoppedShaker = s.shaker := by
  rw [State.stoppedShaker_idle (s := s.setDoor true) hst, State.stoppedShaker_idle (s := s.setClamp false) hst]
  exact ⟨State.lookedShaker_still (s := s.setDoor true) hne hun (.inl (State.mayShake_eq_false.mpr (.inr (.inl rfl)))),
    State.lookedShaker_still (s := s.setClamp false) hne hun (.inl (State.mayShake_eq_false.mpr (.inl rfl)))⟩

/-- An unclamping shaker whose clamp opens looks whether it can return its tin. -/
theorem State.stoppedShaker_unclamping (hst : s.shaker.st = .unclamping) :
    (s.setClamp false).stoppedShaker = (s.setClamp false).lookedShaker :=
  State.stoppedShaker_idle (s := s.setClamp false) fun hrun => absurd (hst.symm.trans hrun) (by decide)

/-! ## The end of a run (R199) -/

theorem exec_shakeRunEnd (h : s.Live) (hst : s.shaker.st = .running) (hclamp : s.pins.clamp = true) :
    exec .shakeRunEnd s = .next { s with shaker := { s.shaker with st := .unclamping, left := 0, resume := 0 } } := by
  simp only [exec]
  refine State.act_next h ((if_pos (by rw [hst]; rfl)).trans ?_)
  refine (State.shakerLook_eq _).trans ?_
  rw [State.lookedShaker_clamped (s := s.modShaker _) rfl hclamp]
  rfl

theorem exec_shakeRunEnd_idle (h : s.Live) (hst : s.shaker.st ≠ .running) : exec .shakeRunEnd s = .next s := by
  simp only [exec]
  exact State.act_next h (if_neg (by simpa using hst))

/-! ## A tin drawn in (R195) -/

/-- The tin at slot 6 stands in the shaker, which clamps it. -/
def State.drawnIn (s : State) : State :=
  { (s.setShakerTin true).setSlot 6 none with shaker :=
    { st := .clamping, tin := (s.slot 6).map shakingRecord, left := 0, resume := 0, halted := false } }

theorem exec_transferInComplete (h : s.Live) (hst : s.shaker.st = .loading) :
    exec .transferInComplete s = .next { s.drawnIn with shaker := s.drawnIn.lookedShaker } := by
  simp only [exec]
  refine State.act_next h ?_
  rw [← State.shakerLook_eq]
  dsimp only
  split
  · rfl
  all_goals next hno => exact absurd (hst.symm.trans hno) (by decide)

theorem exec_transferInComplete_idle (h : s.Live) (hst : s.shaker.st ≠ .loading) :
    exec .transferInComplete s = .next (s.setShakerTin true) := by
  simp only [exec]
  refine State.act_next h ?_
  dsimp only
  split
  · next hload => exact absurd hload hst
  all_goals rfl

/-- The tin drawn in is SHAKING. -/
theorem State.drawnIn_tin {a : Tin} (ha : s.tinAt 6 = some a) : s.drawnIn.shaker.tin = some (.known { a with st := .shaking }) := by
  change (s.slot 6).map shakingRecord = _
  rw [State.tinAt_eq_some.mp ha]
  rfl

theorem State.drawnIn_mixMs {a : Tin} (ha : s.tinAt 6 = some a) {k : Nat} (hk : a.mix = some k) :
    s.drawnIn.shaker.mixMs = k * 1000 := by
  rw [Shaker.mixMs, State.drawnIn_tin ha]
  change a.mix.getD 0 * 1000 = _
  rw [hk]
  rfl

theorem State.drawnIn_begins (hclamp : s.pins.clamp = true) (hdoor : s.pins.shakerDoor = false) (hw : s.working = true) :
    s.drawnIn.lookedShaker = { s.drawnIn.shaker with st := .running, left := s.drawnIn.shaker.mixMs, resume := 0 } :=
  State.lookedShaker_begins rfl (State.mayShake_iff.mpr ⟨hclamp, hdoor, hw⟩)

theorem State.drawnIn_clamps (h : s.pins.clamp = false ∨ s.pins.shakerDoor = true ∨ s.working = false) :
    s.drawnIn.lookedShaker = s.drawnIn.shaker :=
  State.lookedShaker_still (s := s.drawnIn) (fun hc => ShakeState.noConfusion hc) (fun hc => ShakeState.noConfusion hc)
    (.inl (State.mayShake_eq_false.mpr h))

/-- The tin is clamped whether its run begins at once or not (log 52). -/
theorem State.drawnIn_looked : (s.drawnIn.lookedShaker.st = .clamping ∨ s.drawnIn.lookedShaker.st = .running) ∧
    s.drawnIn.lookedShaker.tin = (s.slot 6).map shakingRecord := by
  rw [State.lookedShaker_clamping rfl]
  split_ifs
  · exact ⟨.inr rfl, rfl⟩
  · exact ⟨.inl rfl, rfl⟩

end

end Sys2Proof.Machine
end

/-! # Proofs: the shaker (O56) -/

section
namespace Sys2Proof.Machine

/-! ## A tin given back (R199) -/

section
variable {s : State}

theorem State.slot_setSlot_ne {n m : Nat} (h : n ≠ m) (r : Option TinRecord) : (s.setSlot n r).slot m = s.slot m := by
  simp [State.slot, State.setSlot, List.getD_eq_getElem?_getD, List.getElem?_set_ne h]

/-- A sensor set stands so, and the others as they stood. -/
theorem State.sensed_setSensed {n : Nat} (h : n < 8) (m : Nat) : (s.setSensed n).sensed m = (s.sensed m || decide (n = m)) := by
  rw [State.sensed, State.sensed, State.setSensed, BitVec.getLsbD_or, getLsbD_one_shiftLeft h]

/-- The tin in the shaker stands at slot 7, and the shaker is empty. -/
def State.givenBack (s : State) : State :=
  { (s.setSensed 7).setSlot 7 (s.shaker.tin.map returnedRecord) with shaker :=
    { st := .empty, tin := none, left := 0, resume := 0, halted := false } }

/-- The tin given back and reported, before the shake unit looks at slot 6. -/
def State.returned (s : State) : State := s.givenBack.reportDone s.shaker.tin

theorem exec_returnComplete (h : s.Live) (hst : s.shaker.st = .returning) :
    exec .returnComplete s = .next { s.returned with shaker := s.returned.lookedShaker } := by
  simp only [exec]
  refine State.act_next h ?_
  rw [← State.shakerLook_eq]
  dsimp only
  split
  · rfl
  all_goals next hno => exact absurd (hst.symm.trans hno) (by decide)

theorem exec_returnComplete_idle (h : s.Live) (hst : s.shaker.st ≠ .returning) :
    exec .returnComplete s = .next (s.setSensed 7) := by
  simp only [exec]
  refine State.act_next h ?_
  dsimp only
  split
  · next hreturn => exact absurd hreturn hst
  all_goals rfl

/-- A SHAKING tin is reported DONE. -/
theorem State.reportDone_shaking {a : Tin} (h : a.st = .shaking) :
    s.reportDone (some (.known a)) = s.report (a.reportMsg s.self .done none) := if_pos h

/-- No other record is reported. -/
theorem State.reportDone_silent {r : TinRecord} (h : r = .unknown ∨ ∃ a, r = .known a ∧ a.st ≠ .shaking) :
    s.reportDone (some r) = s := by
  rcases h with rfl | ⟨a, rfl, ha⟩
  · rfl
  · exact if_neg ha

theorem State.reportDone_change (s : State) (r : Option TinRecord) : ∃ b k g p,
    s.reportDone r = { s with bus := b, book := k, seg := { s.seg with prompt := g }, panel := p } := by
  unfold State.reportDone
  split
  · exact ⟨_, _, _, _, rfl⟩
  · split_ifs
    · exact s.report_change _
    · exact ⟨_, _, _, _, rfl⟩

theorem returnedRecord_shaking {a : Tin} (h : a.st = .shaking) : returnedRecord (.known a) = .known { a with st := .done } := by
  rw [returnedRecord, if_pos h]

theorem returnedRecord_kept {r : TinRecord} (h : r = .unknown ∨ ∃ a, r = .known a ∧ a.st ≠ .shaking) :
    returnedRecord r = r := by
  rcases h with rfl | ⟨a, rfl, ha⟩
  · rfl
  · rw [returnedRecord, if_neg ha]

/-- What a report leaves of a tin given back: slots, sensors, an empty shaker, and what the shake unit reads. -/
theorem State.returned_change (s : State) : ∃ b k g p, s.returned =
    { s.givenBack with bus := b, book := k, seg := { s.givenBack.seg with prompt := g }, panel := p } :=
  s.givenBack.reportDone_change _

theorem State.returned_slot (n : Nat) : s.returned.slot n = s.givenBack.slot n := by
  obtain ⟨b, k, g, p, h⟩ := s.returned_change
  rw [h]
  rfl

theorem State.givenBack_slot_ne {n : Nat} (h : n ≠ 7) : s.givenBack.slot n = s.slot n :=
  State.slot_setSlot_ne (s := s.setSensed 7) (Ne.symm h) _

theorem State.givenBack_slot_seven {r : TinRecord} (hlen : s.seg.slots.length = 8) (hr : s.shaker.tin = some r) :
    s.givenBack.slot 7 = some (returnedRecord r) := by
  have hlt : 7 < (s.setSensed 7).seg.slots.length := by
    change 7 < s.seg.slots.length
    omega
  refine (State.slot_setSlot hlt _).trans ?_
  rw [hr]
  rfl

theorem State.returned_sensed (n : Nat) : s.returned.sensed n = (s.sensed n || decide (7 = n)) := by
  rw [← State.sensed_setSensed (by decide)]
  obtain ⟨b, k, g, p, h⟩ := s.returned_change
  rw [h]
  rfl

/-- Once its tin has been given back, the shaker takes a LIDDED tin of slot 6 where the state permits it. -/
theorem State.returned_looked : s.returned.lookedShaker =
    if isLidded (s.slot 6) && !s.seg.index.busy && s.working then
      { st := .loading, tin := none, left := 0, resume := 0, halted := false }
    else { st := .empty, tin := none, left := 0, resume := 0, halted := false } := by
  have hslot : s.returned.slot 6 = s.slot 6 := (State.returned_slot 6).trans (State.givenBack_slot_ne (by decide))
  obtain ⟨b, k, g, p, h⟩ := s.returned_change
  rw [State.lookedShaker_empty (by rw [h]; rfl), hslot, h]
  rfl

theorem State.returned_idle : s.returned.lookedShaker.tin = none ∧ s.returned.lookedShaker.st ≠ .returning := by
  rw [State.returned_looked]
  split_ifs
  · exact ⟨rfl, by decide⟩
  · exact ⟨rfl, by decide⟩

theorem State.returned_loads (hlid : ∃ a, s.tinAt 6 = some a ∧ a.st = .lidded) (hidle : s.seg.index = .idle)
    (hw : s.working = true) : s.returned.lookedShaker.st = .loading := by
  rw [State.returned_looked, (isLidded_tinAt s 6).mpr hlid, hidle, hw]
  rfl

theorem State.returned_empty (h : s.working = false ∨ ∀ a, s.tinAt 6 = some a → a.st ≠ .lidded) :
    s.returned.lookedShaker.st = .empty := by
  rw [State.returned_looked, if_neg]
  rcases h with hw | hlid
  · simp [hw]
  · have hno : ¬ isLidded (s.slot 6) = true := fun hl =>
      let ⟨a, ha, hst⟩ := (isLidded_tinAt s 6).mp hl
      hlid a ha hst
    simp [hno]

/-- The DONE report of a tin given back is the one its record makes of the send queue and the book as they were. -/
theorem State.sameBook_returned {a : Tin} (hr : s.shaker.tin = some (.known a)) (ha : a.st = .shaking) :
    (s.report (a.reportMsg s.self .done none)).SameBook s.returned := by
  have hback : s.SameBook s.givenBack := ⟨rfl, rfl, rfl⟩
  rw [State.returned, hr, State.reportDone_shaking ha]
  exact hback.report _

/-- A record that is not SHAKING is given back without a report. -/
theorem State.returned_silent {r : TinRecord} (hr : s.shaker.tin = some r)
    (h : r = .unknown ∨ ∃ a, r = .known a ∧ a.st ≠ .shaking) : s.returned = s.givenBack := by
  rw [State.returned, hr, State.reportDone_silent h]

end

/-- Settles O56: a tin drawn in and a tin given back by what they leave at the slots and in the shaker; the run by the
look at its conditions. -/
theorem shakerTransfersAndRuns : Obligations.ShakerTransfersAndRuns := by
  unfold Obligations.ShakerTransfersAndRuns
  constructor
  · intro s h hlen
    refine ⟨fun hst => ?_, fun hst => ⟨_, exec_transferInComplete_idle h hst, rfl⟩, fun r hst hr => ?_,
      fun hst => ⟨_, exec_returnComplete_idle h hst, rfl⟩⟩
    · obtain ⟨hlooked, htin⟩ := s.drawnIn_looked
      have hlive : s.drawnIn.cfg.held = false := h
      have hlt : 6 < (s.setShakerTin true).seg.slots.length := hlen.symm ▸ (by decide : 6 < 8)
      refine ⟨_, exec_transferInComplete h hst, rfl, rfl, State.slot_setSlot hlt none,
        fun n hn => State.slot_setSlot_ne (s := s.setShakerTin true) (Ne.symm hn) none, ?_, ?_,
        fun a ha => htin.trans (State.drawnIn_tin ha), fun hclamp hdoor hw => ?_, fun hno => ?_⟩
      · rcases hlooked with hl | hl <;> simp [State.transferInOut, State.drives, hl]
      · rcases hlooked with hl | hl <;> simp [State.clampOut, State.drives, hl, hlive]
      · rw [State.drawnIn_begins hclamp hdoor hw]
        exact ⟨rfl, fun a k ha hk => State.drawnIn_mixMs ha hk⟩
      · rw [State.drawnIn_clamps hno]
        rfl
    · obtain ⟨htin, hidle⟩ := s.returned_idle
      refine ⟨_, exec_returnComplete h hst, ?_, (State.returned_sensed 7).trans (by simp), fun n hn => ?_, htin, ?_,
        State.returned_loads, State.returned_empty, ?_, fun hsilent => ?_⟩
      · obtain ⟨b, k, g, p, hchange⟩ := s.returned_change
        rw [hchange]
        rfl
      · exact ⟨(State.returned_slot n).trans (State.givenBack_slot_ne hn),
          (State.returned_sensed n).trans (by simp [Ne.symm hn])⟩
      · simp [State.transferOutOut, State.drives, hidle]
      · rintro a rfl ha
        refine ⟨?_, fun m hm => ?_⟩
        · rw [← returnedRecord_shaking ha]
          exact (State.returned_slot 7).trans (State.givenBack_slot_seven hlen hr)
        · have hreport : m = a.reportMsg s.self .done none := hm
          have hbook := State.sameBook_returned hr ha
          rw [← hreport] at hbook
          refine ⟨hbook.bus, hbook.book, fun hcell => ?_⟩
          rw [State.report_foreign (by rwa [hm])] at hbook
          exact ⟨hbook.bus, hbook.book⟩
      · rw [State.returned_silent hr hsilent]
        refine ⟨?_, rfl, rfl⟩
        rw [← returnedRecord_kept hsilent]
        exact State.givenBack_slot_seven hlen hr
  · intro s h hne
    refine ⟨⟨_, exec_clampConfirmed h, rfl, fun hst hdoor hw => ?_, fun hst hdoor hw => ?_, fun hno => ?_⟩,
      ⟨_, exec_doorClosed h, rfl, fun hst hclamp hw => ?_, fun hst hclamp hw => ?_, fun hno => ?_⟩,
      ⟨_, _, exec_doorOpened h, exec_clampConfirmationLost h, rfl, rfl, fun hst => ?_, fun hst hun => ?_,
        fun hst hfree hidle hw => ?_, fun hst hkept => ?_⟩,
      fun hst hclamp => ⟨_, exec_shakeRunEnd h hst hclamp, ?_, ?_, rfl⟩, exec_shakeRunEnd_idle h⟩
    · exact State.lookedShaker_begins (s := s.setClamp true) hst (State.mayShake_iff.mpr ⟨rfl, hdoor, hw⟩)
    · exact State.lookedShaker_resumes (s := s.setClamp true) hst (State.mayShake_iff.mpr ⟨rfl, hdoor, hw⟩)
    · exact State.clamped_kept hne hno
    · exact State.lookedShaker_begins (s := s.setDoor false) hst (State.mayShake_iff.mpr ⟨hclamp, rfl, hw⟩)
    · exact State.lookedShaker_resumes (s := s.setDoor false) hst (State.mayShake_iff.mpr ⟨hclamp, rfl, hw⟩)
    · exact State.closed_kept hne hno
    · rw [State.stoppedShaker_running (s := s.setDoor true) hst, State.stoppedShaker_running (s := s.setClamp false) hst]
      exact ⟨by simp [State.shakeOut, State.drives], by simp [State.shakeOut, State.drives], rfl, rfl⟩
    · exact State.stoppedShaker_still hne hst hun
    · have hlive : s.cfg.held = false := h
      rw [State.stoppedShaker_unclamping hst, State.lookedShaker_unclamped (s := s.setClamp false) hst rfl hfree hidle hw]
      exact ⟨rfl, by simp [State.transferOutOut, State.drives, hlive]⟩
    · rw [State.stoppedShaker_unclamping hst]
      exact State.lookedShaker_kept (s := s.setClamp false) hst hkept
    · simp [State.shakeOut, State.drives]
    · simp [State.clampOut, State.drives]

end Sys2Proof.Machine
end

/-! # Proofs: a step, reset and power-on (O1, O4, O5, O60) -/

section
namespace Sys2Proof.Machine

/-- Settles O1: a step is by definition exec on the front command. -/
theorem stepRunsFrontCommand : Obligations.StepRunsFrontCommand := by
  unfold Obligations.StepRunsFrontCommand
  intro c rest s h
  simp only [step, h]

/-! ## The power-on values (R201) -/

/-- The power-on values with the start-up block, the cell state and the waiting commands that a reset or a power-on
leaves. -/
def State.atPowerOn (pins : Pins) (c : StartUp) (k : CellState) (l : List Instr) : State :=
  { State.powerOn pins with cfg := c, dck := { (State.powerOn pins).dck with cell := k }, pending := l }

/-- The start-up block the straps leave (R201). -/
def strapBlock (straps : Straps) : StartUp :=
  if 1 ≤ straps.id.toNat ∧ straps.id.toNat ≤ 12 then
    { held := false, station := some straps.id.toNat, last := straps.last, image := none, fault := none }
  else { held := false, station := none, last := straps.last, image := none, fault := some { code := .strap, item := none } }

/-- The cell state the straps leave (R201). -/
def strapCell (straps : Straps) : CellState :=
  if 1 ≤ straps.id.toNat ∧ straps.id.toNat ≤ 12 then .starting else .configFault

theorem State.powerOn_strapped (pins : Pins) (straps : Straps) :
    (State.powerOn pins).strapped straps = State.atPowerOn pins (strapBlock straps) (strapCell straps) [] := by
  unfold State.strapped strapBlock strapCell
  split <;> rfl

theorem exec_resetAsserted (s : State) : exec .resetAsserted s =
    .next (State.atPowerOn s.pins { held := true, station := none, last := false, image := none, fault := none } .starting s.pending) :=
  rfl

theorem exec_powerOn (straps : Straps) (pins : Pins) (s : State) :
    exec (.powerOn straps pins) s = .next (State.atPowerOn pins (strapBlock straps) (strapCell straps) s.pending) := by
  simp only [exec, execPowerOn, State.powerOn_strapped]
  rfl

section
variable (pins : Pins) (c : StartUp) (k : CellState) (l : List Instr)

@[simp] theorem State.atPowerOn_canister (n : Nat) : (State.atPowerOn pins c k l).canister n = Canister.blank :=
  List.getElem?_getD_replicate_default_eq _ 16 n

@[simp] theorem State.atPowerOn_pump (n : Nat) : (State.atPowerOn pins c k l).pump n = Pump.blank :=
  List.getElem?_getD_replicate_default_eq _ 16 n

@[simp] theorem State.atPowerOn_channel (n : Nat) : (State.atPowerOn pins c k l).channel n = none :=
  List.getElem?_getD_replicate_default_eq _ 4 n

@[simp] theorem State.atPowerOn_slot (n : Nat) : (State.atPowerOn pins c k l).slot n = none :=
  List.getElem?_getD_replicate_default_eq _ 8 n

@[simp] theorem State.atPowerOn_magazine (n : Nat) : (State.atPowerOn pins c k l).magazine n = { layers := [], pulses := 0 } := by
  unfold State.magazine
  split
  · rfl
  · exact List.getElem?_getD_replicate_default_eq _ 5 (n - 1)

@[simp] theorem State.atPowerOn_heldCanister (n : Nat) : (State.atPowerOn pins c k l).heldCanister n = none := by
  simp [State.heldCanister, State.heldEntry]

theorem State.atPowerOn_values (hi : c.image = none) : (State.atPowerOn pins c k l).PowerOnValues pins := by
  simp only [State.PowerOnValues, State.atPowerOn_canister, State.atPowerOn_pump, State.atPowerOn_channel,
    State.atPowerOn_slot, State.atPowerOn_magazine]
  simp [State.atPowerOn, State.powerOn, Canister.blank, Pump.blank, hi]

/-- With no notice queued, no movement and no channel held, no output is on. -/
theorem State.atPowerOn_outputsOff : (State.atPowerOn pins c k l).OutputsOff := by
  have stirrers : ∀ n, (State.atPowerOn pins c k l).stirOut n = false := fun n => by
    simp [State.stirOut, State.drives, Canister.blank]
  have channels : ∀ n, (State.atPowerOn pins c k l).pumpSelect n = none ∧ (State.atPowerOn pins c k l).stepping n = false ∧
      (State.atPowerOn pins c k l).forward n = false := fun n => by
    simp [State.pumpSelect, State.stepping, State.forward]
  refine ⟨ite_self none, ?_, ?_, ?_, ?_, ?_, ?_, ?_, ?_, ?_, fun n => ⟨stirrers n, channels n⟩⟩
  all_goals
    simp [State.atPowerOn, State.powerOn, State.capOpenOut, State.capCloseOut, State.convOut, State.divertOut,
      State.pressOut, State.transferInOut, State.transferOutOut, State.clampOut, State.shakeOut, State.drives,
      IndexState.isRunning]

/-- The power-on values meet the laws of the records: every list is empty and every content and level is 0. -/
theorem State.atPowerOn_records (hi : c.image = none) (u : State) (hu : u = State.atPowerOn pins c k l) :
    u.QueueBound ∧ u.BookSound ∧ u.LaneBound ∧ u.MagazinesSound ∧ u.ChuteBound ∧ u.LevelsHeld ∧ u.ContentHeld ∧ u.Shaped := by
  subst hu
  refine ⟨?_, ?_, ?_, ?_, ?_, ?_, ?_, ?_⟩
  · simp [State.QueueBound, State.atPowerOn, State.powerOn]
  · simp [State.BookSound, State.openJobs, State.atPowerOn, State.powerOn]
  · simp [State.LaneBound, State.atPowerOn, State.powerOn]
  · intro m hm
    rw [List.eq_of_mem_replicate hm]
    exact Magazine.Sound.empty 0
  · exact Nat.zero_le 6
  · intro n _ cfg hf
    simp [State.fitted, State.atPowerOn, hi] at hf
  · intro n
    simp [Pump.blank]
  · simp [State.Shaped, State.atPowerOn, State.powerOn]

/-- The power-on values meet the laws of motion: every drive stands and every flag is clear. -/
theorem State.atPowerOn_motion (hk : k = .starting ∨ k = .configFault) :
    (State.atPowerOn pins c k l).ShakerGuarded ∧ (State.atPowerOn pins c k l).FlagsAgree ∧ (State.atPowerOn pins c k l).CapOpen := by
  refine ⟨fun hr => absurd hr (by simp [State.atPowerOn, State.powerOn]), ?_, ?_⟩
  · rcases hk with rfl | rfl <;>
      simp [State.FlagsAgree, State.working, State.atPowerOn, State.powerOn, IndexState.isRunning]
  · rcases hk with rfl | rfl <;> simp [State.CapOpen, State.atPowerOn]

end

theorem strapBlock_image (straps : Straps) : (strapBlock straps).image = none := by
  unfold strapBlock
  split <;> rfl

theorem strapCell_cases (straps : Straps) : (strapCell straps) = .starting ∨ (strapCell straps) = .configFault := by
  unfold strapCell
  split <;> simp

/-! ## RESET_ASSERTED and POWER_ON -/

/-- While RESET_L is low a command other than a reset or a power-on leaves the state as it is: every other arm goes
through `State.act` (R201). -/
theorem exec_held {c : Instr} {s : State} (h : s.cfg.held = true) (hr : c ≠ .resetAsserted)
    (hp : ∀ straps pins, c ≠ .powerOn straps pins) : exec c s = .next s := by
  have gate : ∀ f : State → State, s.act f = .next s := fun f => by simp only [State.act, h, if_true]
  unfold exec
  cases c with
  | resetAsserted => exact absurd rfl hr
  | powerOn straps pins => exact absurd rfl (hp straps pins)
  | _ => exact gate _

/-- Settles O4: a reset leaves the power-on values with RESET_L held low, which no other command passes. -/
theorem resetHoldsThePart : Obligations.ResetHoldsThePart := by
  unfold Obligations.ResetHoldsThePart
  exact ⟨fun s => ⟨_, exec_resetAsserted s, rfl, State.atPowerOn_outputsOff _ _ _ _, State.shown_held _ rfl,
    State.atPowerOn_values _ _ _ _ rfl, rfl, rfl⟩, fun c s => exec_held⟩

/-- Settles O5: a power-on leaves the power-on values with the start-up block and the cell state of its straps. -/
theorem powerOnReadsStraps : Obligations.PowerOnReadsStraps := by
  unfold Obligations.PowerOnReadsStraps
  intro straps pins s
  refine ⟨_, exec_powerOn straps pins s, State.atPowerOn_values _ _ _ _ (strapBlock_image straps), ?_, ?_, rfl,
    State.atPowerOn_outputsOff _ _ _ _, fun h1 h12 => ?_, fun h => ?_⟩
  · unfold State.atPowerOn strapBlock; dsimp only; split <;> rfl
  · unfold State.atPowerOn strapBlock; dsimp only; split <;> rfl
  · simp [State.atPowerOn, strapBlock, strapCell, h1, h12]
  · have out : ¬ (1 ≤ straps.id.toNat ∧ straps.id.toNat ≤ 12) := by omega
    simp [State.atPowerOn, strapBlock, strapCell, out]

/-- Settles O60: the state after reset is that after a power-on with station 1 and quiet pins, and every power-on meets
the laws. -/
theorem resetMeetsLaws : Obligations.ResetMeetsLaws := by
  unfold Obligations.ResetMeetsLaws
  intro s hs
  obtain ⟨pins, straps, l, rfl⟩ : ∃ pins straps l, s = State.atPowerOn pins (strapBlock straps) (strapCell straps) l := by
    rcases hs with rfl | ⟨straps, pins, u, hu⟩
    · exact ⟨_, _, _, State.powerOn_strapped _ _⟩
    · rw [exec_powerOn, Host.Outcome.next.injEq] at hu
      exact ⟨pins, straps, _, hu.symm⟩
  obtain ⟨hq, hb, hl, hm, hc, hv, hp, hs⟩ := State.atPowerOn_records pins _ (strapCell straps) l (strapBlock_image straps) _ rfl
  obtain ⟨hg, hf, hcap⟩ := State.atPowerOn_motion pins (strapBlock straps) (strapCell straps) l (strapCell_cases straps)
  exact ⟨hq, hb, hl, hm, hc, hg, hf, hcap, hv, hp, hs⟩

end Sys2Proof.Machine
end

/-! # Proofs: the panel, the printer and the attention capture (O57) -/

section
namespace Sys2Proof.Machine

/-! ## The attention record (R210) -/

/-- A settled input stands at its level, and the others as they stood. -/
theorem Attention.settle_getLsbD (a : Attention) (i : Fin 7) (b : Bool) {j : Nat} (hj : j < 7) :
    (a.settle i b).settled.getLsbD j = if j = i.val then b else a.settled.getLsbD j := by
  have hbit : (1#7 <<< i.val).getLsbD j = decide (j = i.val) := by
    rw [getLsbD_one_shiftLeft i.isLt, decide_eq_decide, eq_comm]
  cases b
  · simp only [Attention.settle, Bool.false_eq_true, if_false, BitVec.getLsbD_and, BitVec.getLsbD_not, hbit, hj]
    by_cases h : j = i.val <;> simp [h]
  · simp only [Attention.settle, if_true, BitVec.getLsbD_or, hbit]
    by_cases h : j = i.val <;> simp [h]

theorem Attention.add_settled (a : Attention) (c : ChangeRec) : (a.add c).settled = a.settled := by
  unfold Attention.add
  split <;> rfl

/-- The change record that follows where the record held none, one or two (R210). -/
theorem Attention.add_records (a : Attention) (c : ChangeRec) :
    (a.records = [] → (a.add c).records = [{ uid := a.nextUid, change := c }] ∧ (a.add c).overwrite = a.overwrite) ∧
    (∀ x, a.records = [x] → (a.add c).records = [x, { uid := a.nextUid, change := c }] ∧ (a.add c).overwrite = a.overwrite) ∧
    (∀ x y l, a.records = x :: y :: l → (a.add c).records = [x, { uid := a.nextUid, change := c }] ∧ (a.add c).overwrite = true) := by
  refine ⟨fun h => ?_, fun x h => ?_, fun x y l h => ?_⟩ <;> simp [Attention.add, h]

/-! ## The commands -/

theorem exec_magazineView {s : State} (h : s.Live) (n : Fin 5) :
    exec (.magazineView n) s = .next (if s.inService then s.setMessage (s.viewOf (n.val + 1)) else s) :=
  s.act_live _ h

/-- What LBLRDY_L low makes of the panel (R209): a held label is sent. -/
def Panel.print (p : Panel) : Panel :=
  match p.label with
  | none => p
  | some l => { p with label := none, printed := some l }

theorem exec_printerReady {s : State} (h : s.Live) :
    exec .printerReady s = .next { s.setPrinterReady with panel := s.panel.print } := by
  rw [exec, execPrinterReady, State.act_live _ h]
  cases hl : s.panel.label <;> simp [Panel.print, hl, State.setPrinterReady]

/-- The levels of the input pins after a change of an attention input (R210). -/
theorem State.setAtn_pins (s : State) (i : Fin 7) (b : Bool) :
    (i.val < 5 → (s.setAtn i b).pins = s.pins) ∧ (i = 5 → (s.setAtn i b).pins = { s.pins with atn1 := b }) ∧
    (i = 6 → (s.setAtn i b).pins = { s.pins with atn2 := b }) := by
  refine ⟨fun h => ?_, fun h => ?_, fun h => ?_⟩
  · have h5 : i ≠ 5 := by rintro rfl; exact absurd h (by decide)
    have h6 : i ≠ 6 := by rintro rfl; exact absurd h (by decide)
    rw [State.setAtn, if_neg h5, if_neg h6]
  · rw [State.setAtn, if_pos h]
  · rw [State.setAtn, if_neg (by rw [h]; decide), if_pos h]

theorem State.setAtn_eq (s : State) (i : Fin 7) (b : Bool) : s.setAtn i b = { s with pins := (s.setAtn i b).pins } := by
  unfold State.setAtn
  split
  · rfl
  · split <;> rfl

/-- The attention block after ATTENTION_CHANGE (R210): an input that leaves its settled level is captured. -/
def State.noted (s : State) (i : Fin 7) (b : Bool) : Attention :=
  if s.atn.settled.getLsbD i.val = b then s.atn
  else (s.atn.settle i b).add (ChangeRec.mk (i.val + 1) b s.dck.moment.sec)

theorem exec_attentionChange {s : State} (h : s.Live) (i : Fin 7) (b : Bool) :
    exec (.attentionChange i b) s = .next { s with pins := (s.setAtn i b).pins, atn := s.noted i b } := by
  rw [exec, execAttentionChange, State.act_live _ h]
  dsimp only
  rw [State.setAtn_eq]
  by_cases hb : s.atn.settled.getLsbD i.val = b
  · simp only [hb, State.noted, beq_self_eq_true, if_true]
  · simp only [hb, State.noted, State.capture, beq_eq_false_iff_ne.mpr hb, if_false, Bool.false_eq_true]

/-- Settles O57: each command's next state is given by one rule, and the change record follows the three shapes of the
attention record. -/
theorem panelAndAttention : Obligations.PanelAndAttention := by
  unfold Obligations.PanelAndAttention
  intro n i asserted s hl
  refine ⟨fun hs => ?_, fun hs => ?_, ?_, ?_⟩
  · rw [exec_magazineView hl, if_pos hs]
    rfl
  · rw [exec_magazineView hl, if_neg (by simp [hs])]
  · refine ⟨_, exec_printerReady hl, rfl, rfl, fun h => ?_, fun l h => ?_⟩ <;> simp [Panel.print, h]
  · obtain ⟨hlow, h5, h6⟩ := s.setAtn_pins i asserted
    refine ⟨_, { uid := s.atn.nextUid, change := ChangeRec.mk (i.val + 1) asserted s.dck.moment.sec },
      exec_attentionChange hl i asserted, rfl, hlow, h5, h6, fun h => if_pos h, fun h => ⟨rfl, ?_⟩⟩
    obtain ⟨hnone, hone, htwo⟩ :=
      (s.atn.settle i asserted).add_records (ChangeRec.mk (i.val + 1) asserted s.dck.moment.sec)
    have noted : s.noted i asserted = (s.atn.settle i asserted).add _ := if_neg h
    simp only [noted, Attention.add_settled]
    refine ⟨?_, fun j hj hne => ?_, hnone, hone, htwo⟩
    · rw [Attention.settle_getLsbD _ _ _ i.isLt, if_pos rfl]
    · rw [Attention.settle_getLsbD _ _ _ hj, if_neg hne]

end Sys2Proof.Machine
end

/-! # Proofs: the image check (O6) -/

section
namespace Sys2Proof.Machine

/-! ## The first failing item of a list -/

/-- The item at `n` fails and none before it does. -/
theorem any_findIdx_of_first {α : Type} {l : List α} {d : α} {bad : α → Bool} {n : Nat} (hn : n < l.length)
    (hb : bad (l.getD n d) = true) (hlt : ∀ m < n, bad (l.getD m d) = false) :
    l.any bad = true ∧ l.findIdx? bad = some n := by
  have item : ∀ {m} (hm : m < l.length), l.getD m d = l[m] := fun hm => by simp [List.getD, hm]
  rw [item hn] at hb
  refine ⟨List.any_eq_true.mpr ⟨_, List.getElem_mem hn, hb⟩, List.findIdx?_eq_some_iff_getElem.mpr ⟨hn, hb, fun m hm => ?_⟩⟩
  rw [← item (hm.trans hn), hlt m hm]
  exact Bool.false_ne_true

/-! ## The ranges (R25, R44, R97, R117, R171) -/

theorem windowBad_eq_false (w : ImgWindow) : windowBad w = false ↔ w.enable ≠ .bad ∧ w.permit ≠ .bad ∧ w.shake ≠ .bad ∧
    (w.enable = .on → w.permit = .on → 1 ≤ w.lid ∧ w.lid ≤ 255 ∧ w.shake ≠ .absent) := by
  simp only [windowBad, Bool.or_eq_false_iff, Bool.and_eq_false_imp, beq_eq_false_iff_ne, beq_iff_eq,
    decide_eq_false_iff_not, Nat.not_lt, Nat.one_le_iff_ne_zero, and_assoc, ne_eq, Bool.and_eq_true, and_imp]

theorem canisterOutOfRange_eq_false (c : CanisterCfg) : canisterOutOfRange c = false ↔
    500000 ≤ c.capacity ∧ c.capacity ≤ 4000000 ∧ c.dead ≤ 100000 ∧ c.dead < c.capacity ∧ c.lowMark ≤ c.capacity ∧
      1 ≤ c.interval ∧ c.interval ≤ 240 ∧ 5 ≤ c.duration ∧ c.duration ≤ 120 := by
  simp only [canisterOutOfRange, Bool.or_eq_false_iff, decide_eq_false_iff_not, Nat.not_lt, Nat.not_le, and_assoc]

theorem canisterBad_eq_false (c : CanisterCfg) : canisterBad c = false ↔ c.colorant ≤ 250 ∧ (c.colorant ≠ 0 →
    500000 ≤ c.capacity ∧ c.capacity ≤ 4000000 ∧ c.dead ≤ 100000 ∧ c.dead < c.capacity ∧ c.lowMark ≤ c.capacity ∧
      1 ≤ c.interval ∧ c.interval ≤ 240 ∧ 5 ≤ c.duration ∧ c.duration ≤ 120) := by
  rw [← canisterOutOfRange_eq_false]
  simp only [canisterBad, Bool.or_eq_false_iff, Bool.and_eq_false_imp, decide_eq_false_iff_not, Nat.not_lt, bne_iff_ne]

theorem pumpBad_eq_false (c : CanisterCfg) (p : PumpCfg) : pumpBad c p = false ↔ (c.colorant ≠ 0 →
    20 ≤ p.d ∧ p.d ≤ 5000 ∧ 500 ≤ p.strokeSteps ∧ p.strokeSteps ≤ 20000 ∧ 3 ≤ p.minShot ∧ p.minShot ≤ 50 ∧
      1 ≤ p.tolerance ∧ p.tolerance ≤ 31) := by
  simp only [pumpBad, Bool.and_eq_false_imp, Bool.or_eq_false_iff, decide_eq_false_iff_not, Nat.not_lt, bne_iff_ne, and_assoc]

theorem zeroOr_one (hi n : Nat) : zeroOr 1 hi n = true ↔ n ≤ hi := by
  simp only [zeroOr, Bool.or_eq_true, beq_iff_eq, Bool.and_eq_true, decide_eq_true_eq]
  omega

theorem intakeBad_eq_false (im : Image) : intakeBad im = false ↔ im.goodReads ≤ 8 ∧ im.holdPeriod ≤ 30 ∧ im.attempts ≤ 8 := by
  simp only [intakeBad, Bool.or_eq_false_iff, Bool.not_eq_false', zeroOr_one, and_assoc]

/-! ## The pump records of fitted canisters -/

theorem pumpFaults_length {im : Image} (h : im.wf = true) : (pumpFaults im).length = 16 := by
  simp only [Image.wf, Bool.and_eq_true, beq_iff_eq] at h
  obtain ⟨⟨-, hc⟩, hp⟩ := h
  simp [pumpFaults, hc, hp]

theorem pumpFaults_getD {im : Image} (h : im.wf = true) {n : Nat} (hn : n < 16) :
    (pumpFaults im).getD n false = pumpBad (im.canisters.getD n default) (im.pumps.getD n default) := by
  simp only [Image.wf, Bool.and_eq_true, beq_iff_eq] at h
  obtain ⟨⟨-, hc⟩, hp⟩ := h
  simp [pumpFaults, List.getD, hc, hp, hn]

theorem pumpFaults_none {im : Image} (h : im.wf = true) : (pumpFaults im).any id = false ↔
    ∀ n < 16, pumpBad (im.canisters.getD n default) (im.pumps.getD n default) = false := by
  rw [List.any_eq_false]
  constructor
  · intro hall n hn
    have hlen : n < (pumpFaults im).length := by rw [pumpFaults_length h]; exact hn
    rw [← pumpFaults_getD h hn, List.getD_eq_getElem _ _ hlen]
    exact Bool.eq_false_iff.mpr (hall _ (List.getElem_mem hlen))
  · intro hall b hb
    obtain ⟨n, hn, rfl⟩ := List.getElem_of_mem hb
    rw [id, ← List.getD_eq_getElem _ false hn, pumpFaults_getD h (pumpFaults_length h ▸ hn), hall n (pumpFaults_length h ▸ hn)]
    exact Bool.false_ne_true

/-! ## The checks in their order (R203) -/

/-- A check that fails gives its own fault, and one that passes leaves the answer to the later checks. -/
theorem ite_some_eq_none {α : Type} {p : Prop} [Decidable p] {a : α} {o : Option α} :
    (if p then some a else o) = none ↔ ¬p ∧ o = none := by
  split <;> simp [*]

/-- Settles O6: the seven checks stand in R203's order, each a test of its range, and a list's first failing item is
the one its index search finds. -/
theorem imageCheckFirstFailure : Obligations.ImageCheckFirstFailure := by
  unfold Obligations.ImageCheckFirstFailure
  intro r crc times intake window canister pump hwf hcrc htimes hwindow hcanister hpump hintake
  have crc' : crc ↔ imageCrcBad r = false := by rw [hcrc, imageCrcBad, bne_eq_false_iff_eq]
  have times' : times ↔ (!timeOk r.fields.openTime || !timeOk r.fields.closeTime) = false := by
    simp only [htimes, Bool.or_eq_false_iff, Bool.not_eq_false', timeOk_iff, and_assoc]
  have window' : ∀ w, window w ↔ windowBad w = false := fun w => (hwindow w).trans (windowBad_eq_false w).symm
  have canister' : ∀ c, canister c ↔ canisterBad c = false := fun c => (hcanister c).trans (canisterBad_eq_false c).symm
  have pump' : ∀ n, pump n ↔ pumpBad (r.fields.canisters.getD n default) (r.fields.pumps.getD n default) = false := fun n => by
    simp only [hpump, pumpBad_eq_false, forall_eq]
  have intake' : intake ↔ intakeBad r.fields = false := hintake.trans (intakeBad_eq_false r.fields).symm
  have windows : (∀ w ∈ r.fields.windows, window w) ↔ r.fields.windows.any windowBad = false := by
    simp only [window', List.any_eq_false, Bool.not_eq_true]
  have canisters : (∀ c ∈ r.fields.canisters, canister c) ↔ r.fields.canisters.any canisterBad = false := by
    simp only [canister', List.any_eq_false, Bool.not_eq_true]
  have pumps : (∀ n < 16, pump n) ↔ (pumpFaults r.fields).any id = false := by
    simp only [pump', pumpFaults_none hwf]
  obtain ⟨⟨hw4, hc16⟩, hp16⟩ : (r.fields.windows.length = 4 ∧ r.fields.canisters.length = 16) ∧ r.fields.pumps.length = 16 := by
    simpa [Image.wf] using hwf
  simp only [crc', times', windows, canisters, pumps, intake', Bool.not_eq_false]
  refine ⟨?_, fun hh => ?_, fun hh h2 => ?_, fun hh h2 h3 => ?_, fun hh h2 h3 n hn hb hlt => ?_,
    fun hh h2 h3 h4 n hn hb hlt => ?_, fun hh h2 h3 h4 h5 n hn hb hlt => ?_, fun hh h2 h3 h4 h5 h6 h7 => ?_⟩
  · simp only [checkImage, ite_some_eq_none, Bool.not_eq_true, Bool.not_eq_false', and_true]
  · simp only [checkImage, hh, Bool.not_false, if_true]
  · simp only [checkImage, hh, h2, Bool.not_true, Bool.false_eq_true, if_false, if_true]
  · simp only [checkImage, hh, h2, h3, Bool.not_true, Bool.false_eq_true, if_false, if_true]
  · obtain ⟨h4, hn⟩ := any_findIdx_of_first (hw4 ▸ hn) (by simpa [window'] using hb) fun m hm => (window' _).mp (hlt m hm)
    simp only [checkImage, hh, h2, h3, h4, hn, Bool.not_true, Bool.false_eq_true, if_false, if_true]
  · obtain ⟨h5, hn⟩ := any_findIdx_of_first (hc16 ▸ hn) (by simpa [canister'] using hb) fun m hm => (canister' _).mp (hlt m hm)
    simp only [checkImage, hh, h2, h3, h4, h5, hn, Bool.not_true, Bool.false_eq_true, if_false, if_true]
  · obtain ⟨h6, hn⟩ := any_findIdx_of_first (bad := id) (d := false) (pumpFaults_length hwf ▸ hn)
      (by rw [id, pumpFaults_getD hwf hn]; simpa [pump'] using hb)
      fun m hm => by rw [id, pumpFaults_getD hwf (hm.trans hn)]; exact (pump' m).mp (hlt m hm)
    simp only [checkImage, hh, h2, h3, h4, h5, h6, hn, Bool.not_true, Bool.false_eq_true, if_false, if_true]
  · simp only [checkImage, hh, h2, h3, h4, h5, h6, h7, Bool.not_true, Bool.false_eq_true, if_false, if_true]

end Sys2Proof.Machine
end

/-! # Proofs: every command answers, and the settings stay (O3)

`State.settings` is what a command leaves alone: the start-up block and the queue of waiting commands. One simp lemma per
operation says so; a command leaves the settings because the operations it is made of do. -/

section
namespace Sys2Proof.Machine

/-- The start-up block and the waiting commands. -/
def State.settings (s : State) : StartUp × List Instr := (s.cfg, s.pending)

@[simp] theorem State.settings_mk (bus : Bus) (st : List Station) (dck : DayClock) (book : List OrderEntry)
    (can : List Canister) (shots : Shots) (seg : Segment) (xfr : Transfer) (lids : Lids) (shaker : Shaker) (panel : Panel)
    (atn : Attention) (cfg : StartUp) (pins : Pins) (now : Nat) (pending : List Instr) :
    (State.mk bus st dck book can shots seg xfr lids shaker panel atn cfg pins now pending).settings = (cfg, pending) := rfl

@[simp] theorem State.settings_fold (s : State) : (s.cfg, s.pending) = s.settings := rfl

theorem State.settings_foldl {α : Type} {f : State → α → State} (h : ∀ (s : State) (a : α), (f s a).settings = s.settings)
    (l : List α) (s : State) : (l.foldl f s).settings = s.settings := by
  induction l generalizing s with
  | nil => rfl
  | cons a l ih => exact (ih (f s a)).trans (h s a)

variable (s : State)

theorem State.settings_ite {c : Prop} [Decidable c] {t u : State} (ht : t.settings = s.settings) (hu : u.settings = s.settings) :
    (if c then t else u).settings = s.settings := by
  split
  · exact ht
  · exact hu

/-- What differs in the queue, the book, the prompt, the panel and the transfer unit alone. -/
theorem State.Tells.settings {s t : State} (h : s.Tells t) : t.settings = s.settings := by
  obtain ⟨b, k, g, p, x, rfl⟩ := h
  rfl

/-! ## The operations of the blocks -/

@[simp] theorem State.settings_latch (x : Sample) : (s.latch x).settings = s.settings := rfl
@[simp] theorem State.settings_latchTag (g : Option TinId) : (s.latchTag g).settings = s.settings := rfl
@[simp] theorem State.settings_latchLid (b : Bool) : (s.latchLid b).settings = s.settings := rfl
@[simp] theorem State.settings_latchGray (n : Nat) (g : Gray) : (s.latchGray n g).settings = s.settings := rfl
@[simp] theorem State.settings_rxError : s.rxError.settings = s.settings := rfl
@[simp] theorem State.settings_place (n : Notice) : (s.place n).settings = s.settings := rfl
@[simp] theorem State.settings_buildStatus : s.buildStatus.settings = s.settings := rfl
@[simp] theorem State.settings_modEntry (id : OrderId) (f : OrderEntry → OrderEntry) : (s.modEntry id f).settings = s.settings := rfl
@[simp] theorem State.settings_setSlot (n : Nat) (r : Option TinRecord) : (s.setSlot n r).settings = s.settings := rfl
@[simp] theorem State.settings_modPump (n : Nat) (f : Pump → Pump) : (s.modPump n f).settings = s.settings := rfl
@[simp] theorem State.settings_modCanister (n : Nat) (f : Canister → Canister) : (s.modCanister n f).settings = s.settings := rfl
@[simp] theorem State.settings_stockRefuse (n : Nat) (a : StockAction) (c : StockCode) : (s.stockRefuse n a c).settings = s.settings := rfl
@[simp] theorem State.settings_stockReply (n : Nat) (a : StockAction) (o : StockOutcome) (c : Option StockCode) (l : LevelClass)
    (v : Nat) : (s.stockReply n a o c l v).settings = s.settings := rfl
@[simp] theorem State.settings_setIntake (i : Intake) : (s.setIntake i).settings = s.settings := rfl
@[simp] theorem State.settings_modShaker (f : Shaker → Shaker) : (s.modShaker f).settings = s.settings := rfl
@[simp] theorem State.settings_stopDrives : s.stopDrives.settings = s.settings := rfl
@[simp] theorem State.settings_drive (d : Destination) (p : Bool) : (s.drive d p).settings = s.settings := rfl
@[simp] theorem State.settings_endPrompt : s.endPrompt.settings = s.settings := rfl
@[simp] theorem State.settings_setAtn (i : Fin 7) (b : Bool) : (s.setAtn i b).settings = s.settings := by
  unfold State.setAtn
  split_ifs <;> rfl

@[simp] theorem State.settings_enter (c : CellState) : (s.enter c).settings = s.settings := by rw [State.enter_eq]; rfl

@[simp] theorem State.settings_enterByCap : s.enterByCap.settings = s.settings := by
  unfold State.enterByCap
  split
  case h_5 => split_ifs <;> simp [State.capOpen_eq, State.capClose_eq]
  all_goals exact s.settings_enter _

@[simp] theorem State.settings_placeJobStatus (id : OrderId) : (s.placeJobStatus id).settings = s.settings :=
  (s.tells_placeJobStatus id).settings

@[simp] theorem State.settings_retestBlocked : s.retestBlocked.settings = s.settings := s.tells_retestBlocked.settings

@[simp] theorem State.settings_withdrawPrompt (id : OrderId) : (s.withdrawPrompt id).settings = s.settings :=
  (s.tells_withdrawPrompt id).settings

@[simp] theorem State.settings_settleJob (id : OrderId) (f : TinFate) : (s.settleJob id f).settings = s.settings :=
  (s.tells_settleJob id f).settings

@[simp] theorem State.settings_report (m : TinReportMsg) : (s.report m).settings = s.settings := (s.tells_report m).settings

@[simp] theorem State.settings_refresh (n : Nat) (m : Option CellStatusMsg) : (s.refresh n m).settings = s.settings :=
  (s.tells_refresh n m).settings

@[simp] theorem State.settings_takeStatus (n : Nat) (m : CellStatusMsg) : (s.takeStatus n m).settings = s.settings :=
  (s.tells_takeStatus n m).settings

@[simp] theorem State.settings_resolveTin (tin : TinId) (f : TinFate) : (s.resolveTin tin f).settings = s.settings := by
  obtain ⟨b, k, g, p, h⟩ := s.resolveTin_frame tin f
  rw [h]; rfl

@[simp] theorem State.settings_placeClaim (id : OrderId) : (s.placeClaim id).settings = s.settings := by
  obtain ⟨b, h⟩ := s.placeClaim_frame id
  rw [h]; rfl

@[simp] theorem State.settings_tellCover (c : List CoverItem) : (s.tellCover c).settings = s.settings := by
  obtain ⟨b, k, h⟩ := s.tellCover_frame c
  rw [h]; rfl

@[simp] theorem State.settings_modTinAt (n : Nat) (f : Tin → Tin) : (s.modTinAt n f).settings = s.settings := by
  obtain ⟨l, h⟩ := s.modTinAt_change n f
  rw [h]; rfl

@[simp] theorem State.settings_holdEnd (n : Nat) : (s.holdEnd n).settings = s.settings := by
  obtain ⟨c, h⟩ := s.holdEnd_frame n
  rw [h]; rfl

@[simp] theorem State.settings_stirTest (n : Nat) : (s.stirTest n).settings = s.settings := by
  obtain ⟨c, h⟩ := s.stirTest_frame n
  rw [h]; rfl

@[simp] theorem State.settings_dueTestAll : s.dueTestAll.settings = s.settings := by
  obtain ⟨c, h⟩ := s.dueTestAll_frame
  rw [h]; rfl

@[simp] theorem State.settings_nextMove (ch : Nat) : (s.nextMove ch).settings = s.settings := by
  obtain ⟨k, h⟩ := s.nextMove_frame ch
  rw [h]; rfl

@[simp] theorem State.settings_abortEntry (ch e : Nat) (st : PumpState) (g : Gray) :
    (s.abortEntry ch e st g).settings = s.settings := by
  obtain ⟨k, l, c, h⟩ := s.abortEntry_change ch e st g
  rw [h]; rfl

@[simp] theorem State.settings_stopEntries : s.stopEntries.settings = s.settings := by
  obtain ⟨k, l, c, h⟩ := s.stopEntries_change
  rw [h]; rfl

@[simp] theorem State.settings_pressStart : s.pressStart.settings = s.settings := by
  obtain ⟨k, h⟩ := s.pressStart_frame
  rw [h]; rfl

@[simp] theorem State.settings_shakerLook : s.shakerLook.settings = s.settings := by
  obtain ⟨k, h⟩ := s.shakerLook_frame
  rw [h]; rfl

@[simp] theorem State.settings_judgePrompt : s.judgePrompt.settings = s.settings := by
  obtain ⟨g, n, p, h⟩ := s.judgePrompt_change
  rw [h]; rfl

@[simp] theorem State.settings_judgeCap : s.judgeCap.settings = s.settings := by
  obtain ⟨d, h⟩ := s.judgeCap_frame
  rw [h]; rfl

@[simp] theorem State.settings_firstRead : s.firstRead.settings = s.settings := by
  obtain ⟨x, h⟩ := s.firstRead_frame
  rw [h]; rfl

@[simp] theorem State.settings_openIntake : s.openIntake.settings = s.settings := by
  obtain ⟨x, h⟩ := s.openIntake_frame
  rw [h]; rfl

@[simp] theorem State.settings_takeConsign (m : ConsignMsg) : (s.takeConsign m).settings = s.settings := by
  obtain ⟨x, d, h⟩ := s.takeConsign_frame m
  rw [h]; rfl

@[simp] theorem State.settings_takeStranger : s.takeStranger.settings = s.settings := by
  obtain ⟨g, d, h⟩ := s.takeStranger_frame
  rw [h]; rfl

@[simp] theorem State.settings_reconcilePull : s.reconcilePull.settings = s.settings := by
  obtain ⟨b, o, g, p, x, h, -⟩ := s.reconcilePull_change
  rw [h]; rfl

@[simp] theorem State.settings_tellBays : s.tellBays.settings = s.settings := by
  obtain ⟨l, g, i, p, a, k, m, h⟩ := s.tellBays_change
  rw [h]; rfl

@[simp] theorem State.settings_jamCell : s.jamCell.settings = s.settings := by
  obtain ⟨cs, g, i, p, h⟩ := s.jamCell_change
  rw [h]; rfl

@[simp] theorem State.settings_skipItem (q : Nat) : (s.skipItem q).settings = s.settings := by
  obtain ⟨b, k, g, p, h⟩ := s.skipItem_change q
  rw [h]; rfl

@[simp] theorem State.settings_reportDone (r : Option TinRecord) : (s.reportDone r).settings = s.settings := by
  obtain ⟨b, k, g, p, h⟩ := s.reportDone_change r
  rw [h]; rfl

@[simp] theorem State.settings_settingStirrers (m : Moment) : (s.settingStirrers m).settings = s.settings := by
  obtain ⟨cs, h, -⟩ := s.settingStirrers_change m
  rw [h]; rfl

@[simp] theorem State.settings_told (q : Queued) : (s.told q).settings = s.settings := by
  obtain ⟨x, a, h⟩ := s.told_frame q
  rw [h]; rfl

@[simp] theorem State.settings_advance (p : Bool) : (s.advance none p).settings = s.settings := by
  obtain ⟨r, x, h, -⟩ := s.advance_change p
  rw [h]; rfl

@[simp] theorem State.settings_depart (d : Destination) : (s.depart d).settings = s.settings := by
  unfold State.depart State.intoChute
  split
  · rfl
  · split
    · dsimp only
      split <;> simp
    all_goals rfl

@[simp] theorem State.settings_indexMoves (d : Destination) (p : Bool) : (s.indexMoves d p).settings = s.settings := by
  rw [State.indexMoves_eq, State.settings_advance, State.settings_depart]

@[simp] theorem State.settings_startIndex : s.startIndex.settings = s.settings := by
  have rejected : s.rejectLidded.settings = s.settings := s.settings_ite (s.settings_modTinAt 6 _) rfl
  have judged : s.rejectLidded.judgeSlot7.settings = s.settings :=
    s.settings_ite ((State.settings_modTinAt _ 7 _).trans rejected) rejected
  exact judged

@[simp] theorem State.settings_afterDosing (c : List CoverItem) : (s.afterDosing c).settings = s.settings :=
  (State.settings_tellCover _ c).trans (s.settings_modTinAt 2 _)

@[simp] theorem State.settings_freeChannel (ch n : Nat) : (s.freeChannel ch n).settings = s.settings :=
  State.settings_holdEnd (s.setChannel ch none) n

@[simp] theorem State.settings_actOnCheck (ch : Nat) (t : Tin) (e : DoseEntry) (p : Plan) :
    (s.actOnCheck ch t e p).settings = s.settings := by
  unfold State.actOnCheck
  split <;> simp [State.reserve]

@[simp] theorem State.settings_grantTo (ch i : Nat) : (s.grantTo ch i).settings = s.settings := by
  unfold State.grantTo
  dsimp only
  split
  · rfl
  · split
    · rfl
    · split
      case h_1 => exact (State.settings_afterDosing _ _).trans (State.settings_actOnCheck _ ch _ _ _)
      all_goals rfl

@[simp] theorem State.settings_strokeComplete (ch : Nat) (e : DoseEntry) (p : Plan) :
    (s.strokeComplete ch e p).settings = s.settings := by
  unfold State.strokeComplete
  dsimp only
  split <;> simp [State.chargeStroke]

@[simp] theorem State.settings_lidRejudge (n : Nat) : (s.lidRejudge n).settings = s.settings := by
  unfold State.lidRejudge
  split
  · exact s.settings_ite s.settings_pressStart rfl
  · rfl

@[simp] theorem State.settings_modMagazine (n : Nat) (f : Magazine → Magazine) : (s.modMagazine n f).settings = s.settings :=
  s.settings_ite rfl rfl

@[simp] theorem State.settings_takeLidLoad (size lid count : Nat) : (s.takeLidLoad size lid count).settings = s.settings := by
  have loaded : (s.loadLids size lid count).settings = s.settings := by
    unfold State.loadLids
    split
    · rfl
    · exact s.settings_modMagazine size _
  exact s.settings_ite ((State.settings_lidRejudge _ size).trans loaded) loaded

@[simp] theorem State.settings_newBatch (n : Nat) (k : Stock) (b : Nat) : (s.newBatch n k b).settings = s.settings := by
  unfold State.newBatch State.stirDue
  split
  · rfl
  · split
    · rfl
    · split <;> simp [State.modStir]

@[simp] theorem State.settings_setStock (n : Nat) (k : Stock) : (s.setStock n k).settings = s.settings := rfl

@[simp] theorem State.settings_takeRefill (n v st b : Nat) : (s.takeRefill n v st b).settings = s.settings := by
  unfold State.takeRefill
  split
  · rfl
  · refine s.settings_ite rfl (s.settings_ite rfl ?_)
    split
    · rfl
    · exact s.settings_ite (by simp) (by simp)

@[simp] theorem State.settings_takeSetLevel (n l st b : Nat) : (s.takeSetLevel n l st b).settings = s.settings := by
  unfold State.takeSetLevel
  split
  · rfl
  · refine s.settings_ite rfl (s.settings_ite rfl (s.settings_ite rfl ?_))
    unfold State.setLevel
    dsimp only
    split <;> simp

@[simp] theorem State.settings_takeLock (n : Nat) : (s.takeLock n).settings = s.settings := by
  unfold State.takeLock
  split <;> rfl

@[simp] theorem State.settings_takeRelease (n : Nat) (g : Gray) : (s.takeRelease n g).settings = s.settings := by
  unfold State.takeRelease
  split <;> rfl

@[simp] theorem State.settings_judgeWindow (was : Bool) : (s.judgeWindow was).settings = s.settings := by
  have opened : s.windowOpened.settings = s.settings := State.settings_foldl (fun s n => by
    split
    · rfl
    · exact s.settings_ite rfl rfl) _ s
  have first : (if !was && s.inside then s.windowOpened else s).settings = s.settings := s.settings_ite opened rfl
  unfold State.judgeWindow
  dsimp only
  split
  case h_1 | h_2 => exact s.settings_ite ((State.settings_enter _ _).trans first) first
  case h_3 => exact (State.settings_judgeCap _).trans first
  all_goals exact first

@[simp] theorem State.settings_takeStop : s.takeStop.settings = s.settings := by
  have entered : (State.enter { s with dck := { s.dck with halt := true } } .halted).settings = s.settings :=
    State.settings_enter _ _
  unfold State.takeStop
  generalize State.enter { s with dck := { s.dck with halt := true } } .halted = u at entered ⊢
  rw [State.settings_tellCover, State.settings_stopDrives, State.settleSlot2, State.settings_modTinAt,
    State.settings_stopEntries, entered]

@[simp] theorem State.settings_leaveHalt : s.leaveHalt.settings = s.settings :=
  s.settings_ite rfl (s.settings_ite (State.settings_enter _ _) (s.settings_ite (State.settings_enter _ _)
    (State.settings_enterByCap _)))

@[simp] theorem State.settings_reconcile : s.reconcile.settings = s.settings := by
  have slot : ∀ (s : State) n, (s.reconcileSlot n).settings = s.settings := fun s n => by
    refine s.settings_ite (s.settings_ite rfl rfl) ?_
    split
    · rfl
    · rfl
    · exact State.settings_report (s.setSlot n none) _
  have settled : (State.reconcilePull ((List.range 8).foldl State.reconcileSlot s)).settings = s.settings :=
    (State.settings_reconcilePull _).trans (State.settings_foldl slot _ s)
  unfold State.reconcile
  generalize State.reconcilePull ((List.range 8).foldl State.reconcileSlot s) = u at settled ⊢
  dsimp only
  rw [State.settings_tellBays]
  split
  · exact (State.settings_enter _ _).trans settled
  · exact (State.settings_enterByCap _).trans settled

@[simp] theorem State.settings_capOpened : s.capOpened.settings = s.settings := by
  unfold State.capOpened
  split
  · rfl
  · exact s.settings_ite (State.settings_enter _ _) rfl
  · exact s.settings_ite (State.settings_enter _ _) rfl

@[simp] theorem State.settings_capClosed : s.capClosed.settings = s.settings := by
  unfold State.capClosed
  split <;> rfl

theorem State.settings_beginWork : s.beginWork.settings = s.settings := by
  refine (State.settings_openIntake _).trans ?_
  exact s.settings_ite (State.settings_enter _ _) (s.settings_ite (State.settings_enter _ _) (State.settings_enterByCap _))

/-- The records reported by a RESTART leave the settings. -/
theorem State.settings_clearRecords : s.clearRecords.settings = s.settings := by
  have others : (s.reportOthers (s.seg.slots ++ [s.shaker.tin])).settings = s.settings := State.settings_foldl (fun s r => by
    split
    · exact s.settings_ite rfl rfl
    · rfl) _ s
  have transit : ∀ s : State, s.reportTransit.settings = s.settings := fun s =>
    State.settings_foldl (f := fun (t : State) (r : Transit) => if r.tin.id.cell = t.self then t else t.place _)
      (fun t r => t.settings_ite rfl rfl) _ s
  exact (transit _).trans others

theorem State.settings_restart : s.restartCanisters.emptyQueue.clearRecords.forget.beginWork.settings = s.settings := by
  have canisters : s.restartCanisters.settings = s.settings := s.settings_stopEntries
  have records := s.restartCanisters.emptyQueue.settings_clearRecords
  generalize s.restartCanisters.emptyQueue.clearRecords = u at records ⊢
  exact (State.settings_beginWork _).trans (records.trans canisters)

@[simp] theorem State.settings_takeOrder (m : OrderMsg) : (s.takeOrder m).settings = s.settings := by
  have answer : ∀ (s : State) e, (s.answerInvalid e).settings = s.settings := fun s e => s.settings_ite rfl rfl
  unfold State.takeOrder
  split
  · exact s.settings_ite (answer s _) rfl
  · split
    · rfl
    · unfold State.bookNew
      split
      · exact answer _ _
      · exact s.settings_ite rfl rfl

@[simp] theorem State.settings_takeCancel (e : OrderEntry) : (s.takeCancel e).settings = s.settings := by
  unfold State.takeCancel
  split
  case h_5 => dsimp only; split <;> rfl
  case h_6 | h_7 =>
    split
    · rfl
    · exact s.settings_ite (by simp) (by simp)
  all_goals rfl

@[simp] theorem State.settings_contest (e : OrderEntry) (j : Job) (c : Claim) : (s.contest e j c).settings = s.settings :=
  s.settings_ite (s.settings_ite rfl (by simp)) (s.settings_ite (by simp) (by simp))

@[simp] theorem State.settings_tryGates (l : List OrderEntry) : (s.tryGates l).settings = s.settings := by
  induction l generalizing s with
  | nil => rfl
  | cons e l ih => exact s.settings_ite (State.settings_judgePrompt _) ((ih _).trans (State.settings_placeJobStatus _ _))

@[simp] theorem State.settings_takeLoad (id : OrderId) (serial : Nat) : (s.takeLoad id serial).settings = s.settings := by
  unfold State.takeLoad State.countLoad State.failLoad
  dsimp only
  split
  · split
    · rfl
    · exact s.settings_ite (State.settings_placeClaim _ _) rfl
  · split
    · rfl
    · exact s.settings_ite (State.settings_placeJobStatus _ _) rfl

@[simp] theorem State.settings_resolveHold (last : Option TinId) : (s.resolveHold last).settings = s.settings := by
  unfold State.resolveHold
  split
  · exact State.settings_foldl (fun s i => s.settings_skipItem _) _ s
  · split
    · exact s.settings_ite rfl rfl
    · rfl

@[simp] theorem State.settings_interruptOrLook : s.interruptOrLook.settings = s.settings :=
  s.settings_ite rfl s.settings_shakerLook

/-! ## Notices heard -/

theorem State.settings_hear (k : Sender) (src : Nat) (ok : Bool) {take : State → State}
    (h : ∀ s : State, (take s).settings = s.settings) : (s.hear k src ok take).settings = s.settings :=
  s.settings_ite rfl (s.settings_ite ((h _).trans (s.settings_ite (s.settings_refresh src none) rfl)) rfl)

theorem State.settings_booked {f : State → State} (h : (f s).settings = s.settings) : (s.booked f).settings = s.settings :=
  s.settings_ite h rfl

theorem State.settings_stock (src target : Nat) {take : State → State} (h : ∀ s : State, (take s).settings = s.settings) :
    (s.stock src target take).settings = s.settings :=
  s.settings_hear _ _ _ fun s => s.settings_ite ((State.settings_tellCover _ _).trans (h s)) rfl

/-! ## Every command -/

/-- A command that goes through the gate of RESET_L answers, and leaves the settings if its effect does. -/
theorem State.answers_act {f : State → State} (h : (f s).settings = s.settings) :
    ∃ t, s.act f = .next t ∧ t.settings = s.settings :=
  ⟨_, rfl, s.settings_ite rfl h⟩

section
variable {s}

/-- Every command but a reset, a power-on and the end of STARTING answers and leaves the settings as they are. -/
theorem exec_settings {c : Instr} (hr : c ≠ .resetAsserted) (hp : ∀ straps pins, c ≠ .powerOn straps pins)
    (hs : ∀ im x, c ≠ .startingEnd im x) : ∃ t, exec c s = .next t ∧ t.settings = s.settings := by
  unfold exec
  cases c with
  | resetAsserted => exact absurd rfl hr
  | powerOn straps pins => exact absurd rfl (hp straps pins)
  | startingEnd im x => exact absurd rfl (hs im x)
  | quietGap => exact s.answers_act (s.settings_ite rfl rfl)
  | arbitrationLost | frameAbandoned | estopReleased | claimWaitEnd | retentionEnd | channelFaultCleared | spillAsserted
  | spillReleased | chuteDoorOpened | chuteDoorClosed | dispatchFullChange => exact s.answers_act rfl
  | frameComplete =>
    refine s.answers_act ?_
    split
    · rfl
    · exact State.settings_told _ _
  | frameDiscarded f => exact s.answers_act (s.settings_ite rfl rfl)
  | statusPeriod => exact s.answers_act (s.settings_ite rfl rfl)
  | order src m =>
    have counted : ∀ s : State, (if m.lengthOk then s else s.rxError).settings = s.settings := fun s => s.settings_ite rfl rfl
    exact s.answers_act (s.settings_hear _ _ _ fun s =>
      (State.settings_booked _ (State.settings_takeOrder _ m)).trans (counted s))
  | cancel src id =>
    refine s.answers_act (s.settings_hear _ _ _ fun s => s.settings_booked ?_)
    split
    · rfl
    · exact s.settings_ite (s.settings_takeCancel _) rfl
  | offer | withdraw => exact s.answers_act (s.settings_hear _ _ _ fun s => s.settings_booked rfl)
  | claim src id est committed =>
    refine s.answers_act (s.settings_hear _ _ _ fun s => s.settings_booked ?_)
    split
    · rfl
    · dsimp only
      split
      · rfl
      · exact s.settings_ite rfl (s.settings_contest _ _ _)
  | jobStatus src m =>
    refine s.answers_act (s.settings_hear _ _ _ fun s => s.settings_booked (s.settings_ite rfl ?_))
    split
    · rfl
    · split
      · rfl
      · exact s.settings_ite rfl (s.settings_placeClaim _)
  | cellStatus src m tag => exact s.answers_act (State.settings_hear (s.latchTag tag) _ _ _ fun s => s.settings_takeStatus src m)
  | consign src m tag =>
    exact s.answers_act (State.settings_hear (s.latchTag tag) _ _ _ fun s => s.settings_ite (s.settings_takeConsign m) rfl)
  | tinReport src m =>
    exact s.answers_act (s.settings_hear _ _ _ fun s => s.settings_booked (s.settings_ite (s.settings_resolveTin _ _) rfl))
  | stockRefill src target n v st b => exact s.answers_act (s.settings_stock _ _ fun s => s.settings_takeRefill n v st b)
  | stockSetLevel src target n l st b => exact s.answers_act (s.settings_stock _ _ fun s => s.settings_takeSetLevel n l st b)
  | stockLock src target n => exact s.answers_act (s.settings_stock _ _ fun s => s.settings_takeLock n)
  | stockRelease src target n g =>
    exact s.answers_act (s.settings_stock _ _ fun s => State.settings_takeRelease (s.latchGray n g) n g)
  | stockReply src m => exact s.answers_act (s.settings_hear _ _ _ fun _ => rfl)
  | lidLoad src target size lid count b =>
    exact s.answers_act (State.settings_hear (s.latchLid b) _ _ _ fun s => s.settings_ite (s.settings_takeLidLoad _ _ _) rfl)
  | clock src time day x =>
    have taken : ∀ (s : State) m, (s.takeClock m).settings = s.settings := fun s m => by
      rw [State.takeClock, State.settings_judgeWindow, State.settings_settingStirrers]
      rfl
    exact s.answers_act (State.settings_hear (s.latch x) _ _ _ fun s => s.settings_ite (taken s _) rfl)
  | pause src =>
    refine s.answers_act (s.settings_hear _ _ _ fun s => ?_)
    unfold State.takePause
    dsimp only
    split
    case h_1 | h_2 | h_3 => exact State.settings_enter _ _
    all_goals rfl
  | resume src x =>
    refine s.answers_act (State.settings_hear (s.latch x) _ _ _ fun s => ?_)
    unfold State.takeResume
    dsimp only
    split
    case h_1 => exact State.settings_enterByCap _
    all_goals rfl
  | restart src target x =>
    exact s.answers_act (State.settings_hear (s.latch x) _ _ _ fun s => s.settings_ite s.settings_restart rfl)
  | entryStale n => exact s.answers_act (s.settings_ite (State.settings_retestBlocked _) rfl)
  | entryGone n => exact s.answers_act (s.settings_ite (State.settings_retestBlocked _) rfl)
  | entryFreed n =>
    have freed := State.settings_retestBlocked { s with stations := s.stations.filter (fun e => e.number != n) }
    exact s.answers_act (s.settings_ite (s.settings_ite freed freed) rfl)
  | clockAdvance x =>
    exact s.answers_act ((State.settings_judgeWindow _ _).trans (State.settings_dueTestAll _))
  | idleTimeout =>
    refine s.answers_act (s.settings_ite ?_ rfl)
    rw [State.settings_enter, State.capClose_eq]
    rfl
  | capMoveEnd x =>
    refine s.answers_act ?_
    split
    case h_1 => exact State.settings_capOpened (s.latch x)
    case h_2 => exact State.settings_capClosed (s.latch x)
    all_goals rfl
  | emergencyStop x =>
    refine s.answers_act ?_
    dsimp only
    split
    case h_1 | h_2 | h_3 | h_4 | h_5 => exact State.settings_takeStop _
    all_goals rfl
  | loaded x =>
    refine s.answers_act (s.settings_ite ?_ rfl)
    split
    · exact State.settings_takeLoad (s.latch x) _ _
    · exact State.settings_takeStranger (s.latch x)
    · exact State.settings_takeStranger (s.latch x)
  | skip | loadWaitEnd => exact s.answers_act (s.settings_ite rfl rfl)
  | confirm x =>
    refine s.answers_act ?_
    dsimp only
    split
    case h_1 => exact State.settings_leaveHalt (s.latch x)
    case h_2 => exact State.settings_reconcile (s.latch x)
    all_goals rfl
  | offerWindowEnd id =>
    refine s.answers_act ?_
    split
    · rfl
    · refine s.settings_ite (s.settings_ite (State.settings_placeClaim _ _) ?_) rfl
      split <;> rfl
  | claimSettleEnd id =>
    refine s.answers_act ?_
    split
    · rfl
    · exact s.settings_ite (State.settings_placeJobStatus _ _) rfl
  | loadGate x => exact s.answers_act (s.settings_ite (State.settings_tryGates (s.latch x) _) rfl)
  | tinOverdue tin => exact s.answers_act (s.settings_resolveTin tin _)
  | jobStatusRepeat id => exact s.answers_act (s.settings_ite (s.settings_placeJobStatus id) rfl)
  | stirringRunEnd n =>
    refine s.answers_act ?_
    split
    · rfl
    · exact s.settings_ite rfl rfl
  | channelGrant =>
    refine s.answers_act ?_
    split
    · rfl
    · exact s.settings_grantTo _ _
  | switchEnd ch =>
    refine s.answers_act ?_
    split
    · rfl
    · exact s.settings_ite (State.settings_nextMove _ _) rfl
  | strokeEnd ch g =>
    refine s.answers_act ?_
    split
    · rfl
    · split
      case h_1 =>
        refine s.settings_ite ((State.settings_afterDosing _ _).trans ?_) rfl
        exact s.settings_ite (State.settings_strokeComplete _ _ _ _) (State.settings_abortEntry _ _ _ _ _)
      all_goals rfl
  | refillEnd ch g =>
    refine s.answers_act ?_
    split
    · rfl
    · exact s.settings_ite (s.settings_ite (State.settings_nextMove _ _)
        ((State.settings_afterDosing _ _).trans (State.settings_abortEntry _ _ _ _ _))) rfl
  | driveFault ch g =>
    refine s.answers_act ?_
    dsimp only
    split
    · rfl
    · exact (State.settings_afterDosing _ _).trans (State.settings_abortEntry _ _ _ _ _)
  | indexCommand => exact s.answers_act (s.settings_ite s.settings_startIndex rfl)
  | indexComplete x =>
    refine s.answers_act ?_
    split
    case h_1 =>
      refine s.settings_ite ?_ ?_
      · exact (State.settings_tellBays _).trans (State.settings_indexMoves _ _ _)
      · exact (State.settings_jamCell _).trans (State.settings_indexMoves _ _ _)
    all_goals rfl
  | indexTimeout =>
    refine s.answers_act ?_
    split
    case h_1 => exact State.settings_jamCell _
    all_goals rfl
  | indexFinish =>
    refine s.answers_act ?_
    split
    case h_1 => exact s.settings_ite rfl rfl
    all_goals rfl
  | loadWaitDisplay =>
    refine s.answers_act ?_
    split <;> rfl
  | consignRepeat q =>
    refine s.answers_act ?_
    split
    · rfl
    · exact s.settings_ite rfl rfl
  | tinArrival tag =>
    refine s.answers_act ?_
    dsimp only
    split
    case h_1 => exact State.settings_firstRead ((s.latchTag tag).setLaneHead true)
    all_goals rfl
  | tinLiftedOff => exact s.answers_act (s.settings_ite rfl rfl)
  | holdRead tag =>
    refine s.answers_act ?_
    split
    case h_1 =>
      unfold State.judgeRead
      split
      · exact s.settings_ite rfl rfl
      · rfl
    all_goals rfl
  | holdPeriodEnd =>
    refine s.answers_act ?_
    split
    case h_1 => exact s.settings_ite rfl (s.settings_resolveHold _)
    all_goals rfl
  | pressComplete | pressTimeout =>
    refine s.answers_act ?_
    split
    case h_1 => exact s.settings_modTinAt 4 _
    all_goals rfl
  | hatchOpened m => exact s.answers_act (State.settings_modMagazine (s.setHatch m true) _ _)
  | hatchClosed m b => exact s.answers_act (State.settings_lidRejudge ((s.latchLid b).setHatch m false) _)
  | transferInComplete =>
    refine s.answers_act ?_
    dsimp only
    split
    case h_1 => exact State.settings_shakerLook _
    all_goals rfl
  | clampConfirmed => exact s.answers_act (State.settings_shakerLook (s.setClamp true))
  | clampConfirmationLost => exact s.answers_act (State.settings_interruptOrLook (s.setClamp false))
  | doorOpened => exact s.answers_act (State.settings_interruptOrLook (s.setDoor true))
  | doorClosed => exact s.answers_act (State.settings_shakerLook (s.setDoor false))
  | shakeRunEnd => exact s.answers_act (s.settings_ite (State.settings_shakerLook _) rfl)
  | returnComplete =>
    refine s.answers_act ?_
    dsimp only
    split
    case h_1 => exact (State.settings_shakerLook _).trans (State.settings_reportDone _ _)
    all_goals rfl
  | lidLoadEntry size lid count b =>
    exact s.answers_act (s.settings_ite (State.settings_takeLidLoad (s.latchLid b) size lid count) rfl)
  | magazineView m => exact s.answers_act (s.settings_ite rfl rfl)
  | printerReady =>
    refine s.answers_act ?_
    dsimp only
    split <;> rfl
  | attentionChange i b =>
    exact s.answers_act (s.settings_ite (s.settings_setAtn i b) (s.settings_setAtn i b))

end

/-- The end of STARTING answers, and outside STARTING it leaves the state as it is (R202). -/
theorem exec_startingEnd_settings (im : ImageRead) (x : Sample) :
    ∃ t, exec (.startingEnd im x) s = .next t ∧ t.pending = s.pending ∧ t.cfg.station = s.cfg.station ∧
      t.cfg.last = s.cfg.last ∧ t.cfg.held = s.cfg.held ∧ (s.dck.cell ≠ .starting → t = s) := by
  refine ⟨_, rfl, ?_⟩
  split
  · simp
  · by_cases hc : s.dck.cell = .starting
    · simp only [hc, beq_self_eq_true, if_true, ne_eq, not_true_eq_false, false_implies, and_true]
      split
      · simp [State.buildStatus]
      · have begun := State.settings_beginWork ((s.latch x).handOut im.fields)
        simp only [State.settings, Prod.mk.injEq] at begun
        obtain ⟨hcfg, hpending⟩ := begun
        rw [hcfg, hpending]
        exact ⟨rfl, rfl, rfl, rfl⟩
    · simp [hc]

/-- Settles O3: every effect leaves the waiting commands, and the start-up block but for the end of STARTING, which
writes the image and the fault alone. -/
theorem everyCommandAnswersNext : Obligations.EveryCommandAnswersNext := by
  unfold Obligations.EveryCommandAnswersNext
  constructor
  · intro c s
    by_cases hs : c = .resetAsserted ∨ (∃ straps pins, c = .powerOn straps pins) ∨ ∃ im x, c = .startingEnd im x
    · rcases hs with rfl | ⟨straps, pins, rfl⟩ | ⟨im, x, rfl⟩
      · exact ⟨_, rfl, rfl⟩
      · exact ⟨_, rfl, rfl⟩
      · obtain ⟨t, ht, hpending, -⟩ := exec_startingEnd_settings s im x
        exact ⟨t, ht, hpending⟩
    · push Not at hs
      obtain ⟨hr, hp, hs⟩ := hs
      obtain ⟨t, ht, hset⟩ := exec_settings (s := s) hr hp hs
      exact ⟨t, ht, congrArg Prod.snd hset⟩
  · intro c s t h hr hp
    by_cases hs : ∃ im x, c = .startingEnd im x
    · obtain ⟨im, x, rfl⟩ := hs
      obtain ⟨u, hu, -, hstation, hlast, hheld, hout⟩ := exec_startingEnd_settings s im x
      cases hu.symm.trans h
      exact ⟨hstation, hlast, hheld, fun hc => by rw [hout hc]; exact ⟨rfl, rfl⟩⟩
    · obtain ⟨u, hu, hset⟩ := exec_settings (s := s) hr hp fun im x hc => hs ⟨im, x, hc⟩
      cases hu.symm.trans h
      have hcfg : t.cfg = s.cfg := congrArg Prod.fst hset
      simp [hcfg]

end Sys2Proof.Machine
end

/-! # Proofs: the cell state chosen on a segment just rebuilt (O7, O8)

The end of STARTING and RESTART both build the register from the slot sensors and then choose the cell state (R38, R159,
R160). With no identified tin, no prompt and no press, that choice reaches the day clock, the stirrers and the shaker
alone. -/

section
namespace Sys2Proof.Machine

variable {s : State}

/-! ## The register as the sensors give it (R159) -/

/-- No tin is identified and no prompt is set. -/
structure State.Rebuilt (s : State) : Prop where
  tins : ∀ n, s.tinAt n = none
  prompt : s.seg.prompt = .none

theorem State.slot_sensed {u : State} (h : u.seg.slots = s.sensedSlots) {n : Nat} (hn : n < 8) :
    u.slot n = if s.sensed n then some .unknown else none := by
  simp [State.slot, h, State.sensedSlots, List.getD_eq_getElem?_getD, hn]

theorem State.tinAt_sensed {u : State} (h : u.seg.slots = s.sensedSlots) (n : Nat) : u.tinAt n = none := by
  by_cases hn : n < 8
  · rw [State.tinAt, State.slot_sensed h hn]
    split <;> rfl
  · simp [State.tinAt, State.slot, h, State.sensedSlots, List.getD_eq_getElem?_getD, hn, knownTin]

theorem State.resumeMoves_of_no_tin (h : s.tinAt 2 = none) : s.resumeMoves = s := by
  refine List.foldl_fixed' (fun ch => ?_) _
  have free : s.heldCanister ch = none := by
    unfold State.heldCanister State.heldEntry
    rw [h]
    split
    · next h => cases h
    · rfl
  rw [State.resumeMove, free]

theorem State.isLidded_of_no_tin {n : Nat} (h : s.tinAt n = none) : isLidded (s.slot n) = false := by
  unfold State.tinAt at h
  unfold isLidded
  split
  · next t ht => rw [ht] at h; cases h
  · rfl

/-- On a rebuilt segment a change of cell state reaches the day clock, the stirrers, the shaker and the lid unit alone. -/
theorem State.Rebuilt.enter (h : s.Rebuilt) (c : CellState) : s.enter c = { s with
    dck := (s.inCell c).judgedClock, canisters := (s.inCell c).stirTestAll.canisters, shaker := (s.inCell c).shakerAfter,
    lids := (s.inCell c).lidsOnState } := by
  have moves : (s.inCell c).resumeMoves = s.inCell c := State.resumeMoves_of_no_tin (h.tins 2)
  have prompt : (s.inCell c).promptOnState = s.inCell c := by
    have none : (s.inCell c).seg.prompt.isRequested = false := congrArg LoadPrompt.isRequested h.prompt
    rw [State.promptOnState, State.judgePrompt_waits (.inl none), none]
    exact (if_congr Iff.rfl rfl rfl).trans (ite_self _)
  rw [State.enter_eq, moves, prompt]
  rfl

theorem State.Rebuilt.lidsOnState (h : s.Rebuilt) (idle : s.lids.bay = .idle) : s.lidsOnState = s.lids := by
  have pressed : s.pressedLids = s.lids := by
    rw [State.pressedLids, h.tins 4]
  rw [State.lidsOnState, idle, pressed]
  exact ite_self _

/-! ## The cell state chosen (R38) -/

/-- The cell state that R38 gives. -/
def State.chosenCell (s : State) : CellState :=
  if s.dck.halt then .halted else if s.dck.pause then .paused else if s.dck.cap = .opened then s.clockGiven else .capped

/-- The choice of the cell state may command the cap, and then enters the state R38 gives. -/
theorem State.chooseState_enters (s : State) : ∃ a k m, s.chooseState =
    State.enter { s with dck := { s.dck with cap := a, kept := k, capTime := m } } s.chosenCell := by
  unfold State.chooseState State.chosenCell
  split_ifs with hh hp ho
  · exact ⟨_, _, _, rfl⟩
  · exact ⟨_, _, _, rfl⟩
  · exact ⟨_, _, _, by rw [State.enterByCap, ho]⟩
  · unfold State.enterByCap
    split
    · next h => exact absurd h ho
    · exact ⟨_, _, _, rfl⟩
    · exact ⟨_, _, _, rfl⟩
    · exact ⟨_, _, _, rfl⟩
    · obtain ⟨a, k, m, hopen⟩ := s.dck.toOpen_change
      obtain ⟨a', k', m', hclose⟩ := s.dck.toClose_change
      rw [State.capOpen_eq, State.capClose_eq, hopen, hclose]
      split <;> exact ⟨_, _, _, rfl⟩

/-- A stirrer whose due flag is clear is left by the test of R108. -/
theorem State.tested_of_clear (s : State) (n : Nat) {r : Stirrer} (h : r.flag = false) : s.tested n r = r := by
  unfold State.tested
  split
  · rfl
  · rw [if_neg (by simp [h])]

/-- A tin found in the shaker's bay is returned where nothing bars it (R199, R200). -/
def State.returnedShaker (s : State) (works : Bool) : Shaker :=
  if s.pins.sample.shakerTin && !s.pins.clamp && (s.slot 7).isNone && !s.seg.index.busy && works then
    { s.resetShaker with st := .returning }
  else s.resetShaker

theorem State.returnedShaker_of_empty (works : Bool) (h : s.pins.sample.shakerTin = false) :
    s.returnedShaker works = { st := .empty, tin := none, left := 0, resume := 0, halted := false } := by
  simp [State.returnedShaker, State.resetShaker, h]

theorem State.returnedShaker_of_tin (works : Bool) (h : s.pins.sample.shakerTin = true) :
    (s.returnedShaker works).tin = some .unknown ∧ (s.returnedShaker works).st =
      if s.pins.clamp = false ∧ s.slot 7 = none ∧ s.seg.index.busy = false ∧ works = true then .returning
      else .unclamping := by
  unfold State.returnedShaker State.resetShaker
  rw [h]
  constructor
  · split <;> rfl
  · rw [apply_ite Shaker.st]
    exact if_congr (by simp [and_assoc]) rfl rfl

theorem State.Rebuilt.shakerAfter (h : s.Rebuilt) (hk : s.shaker = s.resetShaker) : s.shakerAfter = s.returnedShaker s.working := by
  have empty := State.isLidded_of_no_tin (h.tins 6)
  unfold State.shakerAfter State.lookedShaker State.returnedShaker
  rw [hk, empty]
  cases ht : s.pins.sample.shakerTin <;> simp [State.resetShaker, ht, ShakeState.inTransfer]

/-- What the choice of the cell state makes of a rebuilt segment. -/
structure State.Chose (s t : State) : Prop where
  rest : t = { s with dck := t.dck, canisters := t.canisters, shaker := t.shaker, lids := t.lids }
  clock : t.dck.moment = s.dck.moment ∧ t.dck.unset = s.dck.unset ∧ t.dck.pause = s.dck.pause ∧
    t.dck.halt = s.dck.halt ∧ t.dck.jam = s.dck.jam
  cell : t.dck.cell = s.chosenCell
  canister : ∀ n, t.canister n = { s.canister n with stir := (t.canister n).stir }
  stirrer : ∀ n, (s.canister n).stir.flag = false → t.canister n = s.canister n
  shaker : t.shaker = s.returnedShaker t.working
  lids : s.lids.bay = .idle → t.lids = s.lids

theorem State.Rebuilt.chooseState (h : s.Rebuilt) (hk : s.shaker = s.resetShaker) : s.Chose s.chooseState := by
  obtain ⟨a, k, m, hc⟩ := s.chooseState_enters
  generalize hv : ({ s with dck := { s.dck with cap := a, kept := k, capTime := m } } : State) = v at hc
  have rebuilt : v.Rebuilt := by subst hv; exact ⟨h.tins, h.prompt⟩
  have entered := rebuilt.enter s.chosenCell
  obtain ⟨a', k', m', clock⟩ := (v.inCell s.chosenCell).judgedClock_change
  have cell : (v.enter s.chosenCell).dck.cell = s.chosenCell := v.enter_cell _
  have works : (v.enter s.chosenCell).working = (v.inCell s.chosenCell).working := by
    unfold State.working
    rw [cell]
    rfl
  have shaker := State.Rebuilt.shakerAfter (s := v.inCell s.chosenCell) ⟨rebuilt.tins, rebuilt.prompt⟩
    (by subst hv; exact hk)
  rw [hc]
  refine ⟨?_, ?_, cell, fun n => ?_, fun n hf => ?_, ?_, fun idle => ?_⟩
  · rw [entered]
    subst hv
    rfl
  · rw [State.enter_dck, clock]
    subst hv
    exact ⟨rfl, rfl, rfl, rfl, rfl⟩
  · rcases v.enter_canister s.chosenCell n with hn | hn <;> rw [hn] <;> subst hv <;> rfl
  · have clear : (v.canister n).stir.flag = false := by subst hv; exact hf
    rcases v.enter_canister s.chosenCell n with hn | hn
    · rw [hn, State.tested_of_clear _ n clear]
      subst hv
      rfl
    · rw [hn]
      subst hv
      rfl
  · rw [works, State.enter_shaker, shaker]
    subst hv
    rfl
  · have lids := State.Rebuilt.lidsOnState (s := v.inCell s.chosenCell) ⟨rebuilt.tins, rebuilt.prompt⟩
      (by subst hv; exact idle)
    rw [entered, lids]
    subst hv
    rfl

/-! ## The CELL STATUS that follows (R20) -/

/-- With room and no status waiting, the status is added and nothing is dropped. -/
theorem State.buildStatus_of_room (hroom : s.bus.queue.length < 16)
    (hno : ∀ a ∈ s.bus.queue, a.sending = true ∨ ∀ o, a.notice ≠ .cellStatus o) :
    s.buildStatus.bus = { s.bus with period := 0, queue := insertQueued s.statusQueued s.bus.queue } ∧
      s.buildStatus.statusMsg = s.statusMsg := by
  have bus : s.buildStatus.bus = { s.bus with period := 0, queue := insertQueued s.statusQueued s.bus.queue } := by
    rw [State.bus_buildStatus, Bus.replaceOrAdd_of_none (b := s.bus.restarted)
      fun a ha => Queued.yields_status s (hno a ha), Bus.add_of_room (b := s.bus.restarted) _ hroom]
    rfl
  have framed : s.buildStatus = { s with bus := s.buildStatus.bus } := rfl
  refine ⟨bus, ?_⟩
  rw [framed, bus]
  rfl

/-! ## The work begun -/

/-- The day clock as the choice finds it: the halt flag set while ESTOP_L is low, the jam flag clear (R38). -/
def State.judged (s : State) : State :=
  { s with dck := { s.dck with halt := s.dck.halt || s.pins.estop, jam := false, idle := 0 } }

/-- What the beginning of work makes of a rebuilt segment with room in the queue and no status waiting. -/
structure State.Began (s t : State) : Prop where
  rest : ∃ i, (s.pins.sample.laneHead = false → i = .opened) ∧
    t = { s.setIntake i with bus := t.bus, dck := t.dck, canisters := t.canisters, shaker := t.shaker, lids := t.lids }
  clock : t.dck.moment = s.dck.moment ∧ t.dck.unset = s.dck.unset ∧ t.dck.pause = s.dck.pause ∧
    t.dck.halt = (s.dck.halt || s.pins.estop) ∧ t.dck.jam = false
  cell : t.dck.cell = s.judged.chosenCell
  cap : t.dck = s.judged.chooseState.dck
  canister : ∀ n, t.canister n = { s.canister n with stir := (t.canister n).stir }
  stirrer : ∀ n, (s.canister n).stir.flag = false → t.canister n = s.canister n
  shaker : t.shaker = s.returnedShaker t.working
  lids : s.lids.bay = .idle → t.lids = s.lids
  status : ∃ q : Queued, q.notice = .cellStatus t.statusMsg ∧ q.sending = false ∧
    t.bus = { s.bus with period := 0, queue := insertQueued q s.bus.queue }

theorem State.openIntake_opened (s : State) :
    ∃ i, (s.pins.sample.laneHead = false → i = .opened) ∧ s.openIntake = s.setIntake i := by
  obtain ⟨i, opened⟩ := s.openIntake_setIntake
  cases hclear : s.pins.sample.laneHead
  · exact ⟨.opened, fun _ => rfl, State.openIntake_of_clear hclear⟩
  · exact ⟨i, nofun, opened⟩

theorem State.Rebuilt.beginWork (h : s.Rebuilt) (hk : s.shaker = s.resetShaker) (hroom : s.bus.queue.length < 16)
    (hno : ∀ a ∈ s.bus.queue, a.sending = true ∨ ∀ o, a.notice ≠ .cellStatus o) : s.Began s.beginWork := by
  have chose : s.judged.Chose s.judged.chooseState :=
    State.Rebuilt.chooseState (s := s.judged) ⟨h.tins, h.prompt⟩ hk
  change s.Began (s.judged.chooseState.openIntake).buildStatus
  generalize hc : s.judged.chooseState = c at chose
  obtain ⟨i, clear, opened⟩ := c.openIntake_opened
  obtain ⟨rest, ⟨moment, unset, pause, halt, jam⟩, cell, canister, stirrer, shaker, lids⟩ := chose
  have bus : c.bus = s.bus := by rw [rest]; rfl
  have pins : c.pins = s.pins := by rw [rest]; rfl
  obtain ⟨placed, message⟩ := (c.setIntake i).buildStatus_of_room (by exact bus ▸ hroom) (by exact bus ▸ hno)
  have framed : (c.setIntake i).buildStatus = { c.setIntake i with bus := (c.setIntake i).buildStatus.bus } := rfl
  rw [opened]
  refine ⟨⟨i, fun none => clear (pins ▸ none), ?_⟩, ⟨moment, unset, pause, halt, jam⟩, cell, ?_, canister, stirrer, shaker, lids,
    (c.setIntake i).statusQueued, ?_, rfl, ?_⟩
  · rw [framed, rest]
    rfl
  · rw [hc]
    rfl
  · exact congrArg Notice.cellStatus message.symm
  · rw [placed]
    exact bus ▸ rfl

/-- The beginning of work leaves these parts of the state as they are. -/
theorem State.Began.parts {t : State} (h : s.Began t) :
    t.cfg = s.cfg ∧ t.seg = s.seg ∧ t.shots = s.shots ∧ t.panel = s.panel ∧ t.atn = s.atn ∧ t.book = s.book ∧
      t.stations = s.stations ∧ t.pins = s.pins := by
  obtain ⟨i, -, rest⟩ := h.rest
  rw [rest]
  exact ⟨rfl, rfl, rfl, rfl, rfl, rfl, rfl, rfl⟩

theorem State.Began.xfr {t : State} (h : s.Began t) :
    ∃ i, (s.pins.sample.laneHead = false → i = .opened) ∧ t.xfr = { s.xfr with intake := i } := by
  obtain ⟨i, opened, rest⟩ := h.rest
  exact ⟨i, opened, by rw [rest]; rfl⟩

/-! ## The end of STARTING (R202, R203) -/

theorem exec_startingEnd {s : State} (h : s.Live) (hc : s.dck.cell = .starting) (r : ImageRead) (x : Sample) :
    (∀ f, checkImage r = some f → exec (.startingEnd r x) s = .next (State.buildStatus
      { s.latch x with cfg := { s.cfg with fault := some f }, dck := { s.dck with cell := .configFault } })) ∧
    (checkImage r = none → exec (.startingEnd r x) s = .next ((s.latch x).handOut r.fields).beginWork) := by
  constructor
  · intro f hf
    rw [exec, execStartingEnd, State.act_live _ h, hf, hc]
    rfl
  · intro hn
    rw [exec, execStartingEnd, State.act_live _ h, hn, hc]
    rfl

theorem State.rebuilt_handOut (s : State) (im : Image) : (s.handOut im).Rebuilt :=
  ⟨State.tinAt_sensed (s := s) rfl, rfl⟩

/-- A canister that the image fits starts afresh (R115), and so does its pump (R118, R141). -/
theorem State.fitted_handOut {s : State} {im : Image} {n : Nat} {c : CanisterCfg} (hn : n < 16)
    (h : (s.handOut im).fitted n = some c) :
    (s.handOut im).canister n =
        { Canister.blank with stir := { Canister.blank.stir with due := s.dck.moment.add (c.interval * 60) } } ∧
      (s.handOut im).pump n = { Pump.blank with
        st := if profileBad ((s.handOut im).pumpCfg n) then .unusable else .idle,
        content := rederive ((s.handOut im).pumpCfg n) (s.gray n) } := by
  have record : im.canisters[n]? = some c ∧ c.colorant ≠ 0 := by
    change (match im.canisters[n]? with | none => none | some c => if c.colorant = 0 then none else some c) = some c at h
    split at h
    · cases h
    · next found =>
      split at h
      · cases h
      · next colorant => cases h; exact ⟨found, colorant⟩
  obtain ⟨found, colorant⟩ := record
  constructor
  · change (im.canisters.map (freshCanister s.dck.moment)).getD n Canister.blank = _
    rw [List.getD_eq_getElem?_getD, List.getElem?_map, found]
    exact if_neg colorant
  · change ((List.range 16).map (fun n =>
      freshPump (im.canisters.getD n default) (im.pumps.getD n default) (s.gray n))).getD n Pump.blank = _
    rw [List.getD_eq_getElem?_getD, List.getElem?_map, List.getElem?_range hn, Option.map_some, Option.getD_some,
      List.getD_eq_getElem?_getD (l := im.canisters), found]
    exact if_neg colorant

/-- The cell state R38 chooses when the halt flag was clear and the cap may be stopped. -/
theorem State.Began.cell_cases {s t : State} (h : s.Began t) (hh : s.dck.halt = false) :
    (s.pins.estop = true → t.dck.cell = .halted ∧ t.dck.halt = true) ∧
    (s.pins.estop = false → s.dck.pause = true → t.dck.cell = .paused) ∧
    (s.pins.estop = false → s.dck.pause = false → s.dck.cap = .stopped →
      t.dck.cell = .capped ∧ t.dck.cap = if s.inside then .opening else .closing) := by
  have halt : s.judged.dck.halt = s.pins.estop := by simp [State.judged, hh]
  refine ⟨fun he => ⟨?_, ?_⟩, fun he hp => ?_, fun he hp hcap => ⟨?_, ?_⟩⟩
  · rw [h.cell, State.chosenCell, halt, if_pos he]
  · obtain ⟨-, -, -, flag, -⟩ := h.clock
    rw [flag, hh, he]; rfl
  · rw [h.cell, State.chosenCell, halt, he, if_neg Bool.false_ne_true, if_pos (show s.judged.dck.pause = true from hp)]
  · rw [h.cell, State.chosenCell, halt, he, if_neg Bool.false_ne_true,
      if_neg (show ¬ s.judged.dck.pause = true from by simp [State.judged, hp]),
      if_neg (show ¬ s.judged.dck.cap = .opened from by simp [State.judged, hcap])]
  · have byCap : s.judged.chooseState = s.judged.enterByCap := by
      rw [State.chooseState, halt, he, if_neg Bool.false_ne_true,
        if_neg (show ¬ s.judged.dck.pause = true from by simp [State.judged, hp])]
    obtain ⟨-, -, -, -, -, -, opens, closes⟩ := State.enterByCap_dck (s := s.judged)
    have inside : s.judged.inside = s.inside := State.inside_congr rfl rfl rfl
    rw [h.cap, byCap]
    cases hi : s.inside with
    | true => exact (opens hcap (inside.trans hi)).1
    | false => exact (closes hcap (inside.trans hi)).1

/-- Settles O7: the choice of the cell state meets a segment built from the sensors, so it reaches nothing that the
image has just filled. -/
theorem startingEnds : Obligations.StartingEnds := by
  unfold Obligations.StartingEnds
  intro r x s live starting halt empty
  obtain ⟨refused, accepted⟩ := exec_startingEnd live starting r x
  refine ⟨fun f hf => ⟨_, refused f hf, ?_⟩, fun hn _ clear => ⟨_, accepted hn, ?_⟩⟩
  · generalize hb : ({ s.latch x with
      cfg := { s.cfg with fault := some f }, dck := { s.dck with cell := .configFault } } : State) = b
    have queue : b.bus.queue = [] := by subst hb; exact empty
    obtain ⟨bus, message⟩ := b.buildStatus_of_room (by simp [queue]) (by simp [queue])
    have framed : b.buildStatus = { b with bus := b.buildStatus.bus } := rfl
    refine ⟨?_, ?_, ?_, ?_, ?_⟩
    iterate 4 rw [framed]; subst hb; rfl
    rw [bus, message, queue]
    rfl
  · have rebuilt := (s.latch x).rebuilt_handOut r.fields
    have fitted := @State.fitted_handOut (s.latch x) r.fields
    generalize hu : (s.latch x).handOut r.fields = u at rebuilt fitted
    have queue : u.bus.queue = [] := by subst hu; exact empty
    have began := rebuilt.beginWork (by subst hu; rfl) (by simp [queue]) (by simp [queue])
    generalize u.beginWork = t at began
    obtain ⟨halted, paused, stopped⟩ := began.cell_cases (by subst hu; exact halt)
    obtain ⟨cfg, seg, shots, -⟩ := began.parts
    obtain ⟨i, opened, xfr⟩ := began.xfr
    obtain ⟨q, notice, -, bus⟩ := began.status
    obtain ⟨moment, unset, -⟩ := began.clock
    have slots : t.seg.slots = (s.latch x).sensedSlots := by rw [seg]; subst hu; rfl
    have inside : t.inside = u.inside := State.inside_congr unset moment cfg
    refine ⟨?_, fun n hn => State.slot_sensed slots hn, fun n hn c hc => ?_, ?_, ?_, ?_, ?_, ?_, ?_, ?_⟩
    · rw [cfg]; subst hu; rfl
    · have fit : u.fitted n = some c := by rw [State.fitted, ← cfg]; exact hc
      have profile : t.pumpCfg n = u.pumpCfg n := by rw [State.pumpCfg, cfg]; rfl
      obtain ⟨canister, pump⟩ := fitted hn fit
      have still : t.canister n = u.canister n := began.stirrer n (by rw [canister]; rfl)
      have drive : t.pump n = u.pump n := by rw [State.pump, shots]; rfl
      rw [still, canister, drive, pump, profile]
      exact ⟨rfl, rfl, rfl, rfl, rfl, rfl, rfl⟩
    · rw [began.shaker]
      subst hu
      cases ht : x.shakerTin with
      | false => exact .inl (by rw [State.returnedShaker_of_empty _ (by exact ht)]; rfl)
      | true =>
        rw [(State.returnedShaker_of_tin _ (by exact ht)).2]
        split
        · exact .inr ⟨rfl, rfl⟩
        · exact .inl rfl
    · rw [xfr, opened (by subst hu; exact clear)]
    · rw [moment]; subst hu; rfl
    · subst hu; exact halted
    · subst hu; exact paused
    · rw [inside]; subst hu; exact stopped
    · rw [bus, queue]
      exact congrArg (fun a => [a]) notice

end Sys2Proof.Machine
end

/-! # Proofs: the queue, the tins and the canisters at a RESTART (for O8) -/

section
namespace Sys2Proof.Machine

variable {s : State}

/-! ## The send queue through the sender's refresh (R9, R22, R65) -/

theorem insertQueued_sending {q : Queued} (h : q.sending = false) (l : List Queued) :
    (insertQueued q l).filter Queued.sending = l.filter Queued.sending := by
  induction l with
  | nil => simp [insertQueued, h]
  | cons a l ih =>
    unfold insertQueued
    split
    · rw [List.filter_cons, List.filter_cons, ih]
    · rw [List.filter_cons_of_neg (by simp [h])]

theorem dropOldest_sending {c : Nat} {l l' : List Queued} (h : dropOldest c l = some l') :
    l'.filter Queued.sending = l.filter Queued.sending := by
  induction l generalizing l' with
  | nil => cases h
  | cons a l ih =>
    rw [dropOldest_cons] at h
    split at h
    · next ha =>
      cases h
      have waits : a.sending = false := by simp_all
      rw [List.filter_cons_of_neg (by simp [waits])]
    · obtain ⟨m, hm, rfl⟩ := Option.map_eq_some_iff.mp h
      rw [List.filter_cons, List.filter_cons, ih hm]

/-- A notice placed leaves the one in transmission where it is (R9). -/
theorem Bus.add_sending (b : Bus) {q : Queued} (h : q.sending = false) :
    (b.add q).queue.filter Queued.sending = b.queue.filter Queued.sending := by
  unfold Bus.add
  split
  · exact insertQueued_sending h _
  · split
    · rfl
    · next l hl => exact (insertQueued_sending h l).trans (dropOldest_sending hl)

/-- The refresh of the sender's entry places notices on the bus and does nothing else to it. -/
theorem State.refresh_bus_induction {P : Bus → Prop} (n : Nat) (m : Option CellStatusMsg) (start : P s.bus)
    (place : ∀ (b : Bus) (k : Notice), P b → P (b.add k.queued)) : P (s.refresh n m).bus := by
  have retests : ∀ (ids : List OrderId) (u : State), P u.bus → P (ids.foldl State.retestJob u).bus := by
    intro ids
    induction ids with
    | nil => exact fun _ h => h
    | cons id ids ih =>
      intro u h
      refine ih _ ?_
      rcases u.bus_retestJob id with hb | ⟨k, hb⟩
      · rwa [hb]
      · rw [hb]; exact place _ k h
  have refreshed : P (s.refreshed n m).bus := by
    unfold State.refreshed
    split <;> exact start
  unfold State.refresh
  dsimp only
  split
  · exact refreshed
  · exact refreshed
  · exact retests _ _ refreshed
  · exact retests _ _ refreshed

theorem State.sending_refresh (n : Nat) (m : Option CellStatusMsg) :
    (s.refresh n m).bus.queue.filter Queued.sending = s.bus.queue.filter Queued.sending :=
  State.refresh_bus_induction (P := fun b => b.queue.filter Queued.sending = s.bus.queue.filter Queued.sending) n m rfl
    fun b _ h => (b.add_sending rfl).trans h

theorem State.rxErrors_refresh (n : Nat) (m : Option CellStatusMsg) : (s.refresh n m).bus.rxErrors = s.bus.rxErrors :=
  State.refresh_bus_induction (P := fun b => b.rxErrors = s.bus.rxErrors) n m rfl fun b k h => (b.add_rxErrors k.queued).trans h

theorem State.sendDrops_foldl_retestJob {ids : List OrderId} (h : s.bus.queue.length + ids.length ≤ 16) :
    (ids.foldl State.retestJob s).bus.sendDrops = s.bus.sendDrops := by
  induction ids generalizing s with
  | nil => rfl
  | cons id ids ih =>
    rw [List.length_cons] at h
    rw [List.foldl_cons, ih (by have := (State.queue_retestJob (s := s) (by omega) id).1; omega)]
    rcases s.bus_retestJob id with hb | ⟨k, hb⟩
    · rw [hb]
    · rw [hb, Bus.add_of_room _ (by omega)]

/-- The re-test drops no notice where no job is blocked or the queue has room for the whole book. -/
theorem State.sendDrops_retestBlocked
    (h : (∀ e ∈ s.book, e.st ≠ .ownBlocked) ∨ s.bus.queue.length + s.book.length ≤ 16) :
    s.retestBlocked.bus.sendDrops = s.bus.sendDrops := by
  unfold State.retestBlocked
  rcases h with none | room
  · rw [List.filter_eq_nil_iff.mpr fun e he => by simpa using none e he]
    rfl
  · refine State.sendDrops_foldl_retestJob ?_
    have := List.length_filter_le (fun e : OrderEntry => e.st == .ownBlocked) s.book
    rw [List.length_map]
    omega

/-- The refresh drops no notice where no job is blocked, or the queue has room for the whole book, or the sender's entry
was PRESENT or absent. -/
theorem State.sendDrops_refresh (n : Nat) (m : Option CellStatusMsg)
    (h : (∀ e ∈ s.book, e.st ≠ .ownBlocked) ∨ s.bus.queue.length + s.book.length ≤ 16 ∨
      ∀ e, s.peer n = some e → e.presence = .present) : (s.refresh n m).bus.sendDrops = s.bus.sendDrops := by
  have bus : (s.refreshed n m).bus = s.bus := by unfold State.refreshed; split <;> rfl
  have book : (s.refreshed n m).book = s.book := by unfold State.refreshed; split <;> rfl
  unfold State.refresh
  dsimp only
  generalize s.refreshed n m = u at bus book
  have retest (v : State) (hb : v.bus = s.bus) (hk : v.book.map OrderEntry.st = s.book.map OrderEntry.st)
      (heard : ¬ ∀ e, s.peer n = some e → e.presence = .present) : v.retestBlocked.bus.sendDrops = s.bus.sendDrops := by
    rw [State.sendDrops_retestBlocked, hb]
    have len : v.book.length = s.book.length := by simpa using congrArg List.length hk
    rcases h with none | room | present
    · left
      have states : ∀ x ∈ v.book.map OrderEntry.st, x ≠ .ownBlocked := by
        rw [hk]; exact List.forall_mem_map.mpr none
      exact fun e he => states e.st (List.mem_map_of_mem he)
    · right; rw [hb, len]; exact room
    · exact absurd present heard
  split
  · exact congrArg Bus.sendDrops bus
  · exact congrArg Bus.sendDrops bus
  · next stale =>
    refine retest _ bus (by rw [book]) fun all => ?_
    obtain ⟨e, he, hp⟩ := Option.map_eq_some_iff.mp stale
    simp [all e he] at hp
  · next gone =>
    refine retest _ bus ?_ fun all => ?_
    · simp only [State.restartRepeats, book, List.map_map]
      refine List.map_congr_left fun e _ => ?_
      simp only [Function.comp]
      split <;> rfl
    · obtain ⟨e, he, hp⟩ := Option.map_eq_some_iff.mp gone
      simp [all e he] at hp

/-! ## The reports placed (R160, R180) -/

/-- The bus port with the TIN REPORTs of `l` placed one after the other. -/
def Bus.addReports (b : Bus) (l : List TinReportMsg) : Bus := l.foldl (fun b m => b.add (Notice.tinReport m).queued) b

/-- Where all the reports find room, they join the queue and nothing is dropped. -/
theorem Bus.addReports_of_room {b : Bus} {l : List TinReportMsg} (h : b.queue.length + l.length ≤ 16) :
    ∃ p, b.addReports l = { b with queue := p } ∧ p.Perm (l.map (fun m => (Notice.tinReport m).queued) ++ b.queue) ∧
      p.filter Queued.sending = b.queue.filter Queued.sending := by
  induction l generalizing b with
  | nil => exact ⟨b.queue, rfl, .refl _, rfl⟩
  | cons m l ih =>
    rw [List.length_cons] at h
    have added := Bus.add_of_room (b := b) (Notice.tinReport m).queued (by omega)
    obtain ⟨p, placed, perm, sending⟩ := ih (b := b.add (Notice.tinReport m).queued)
      (by rw [added]; have := insertQueued_length (Notice.tinReport m).queued b.queue; simp only [this]; omega)
    refine ⟨p, ?_, ?_, sending.trans (b.add_sending rfl)⟩
    · rw [Bus.addReports, List.foldl_cons]
      exact placed.trans (by rw [added])
    · refine perm.trans ?_
      rw [added]
      exact ((insertQueued_perm _ b.queue).append_left _).trans List.perm_middle

/-- The report a RESTART makes of a tin (R160, R180). -/
abbrev Tin.restartReport (self : Nat) (a : Tin) : TinReportMsg := a.reportMsg self .rejected (some .unknownAfterRestart)

/-- The reports a RESTART makes for the tins of a list that are of another cell's origin. -/
def restartReports (self : Nat) (l : List Tin) : List TinReportMsg :=
  (l.filter (fun a => a.id.cell ≠ self)).map (Tin.restartReport self)

theorem restartReports_append (self : Nat) (l l' : List Tin) :
    restartReports self (l ++ l') = restartReports self l ++ restartReports self l' := by
  simp [restartReports]

/-- A walk that reports the tin of each place, where it has one, places the reports of all of them. -/
theorem foldl_restartReports {α : Type} {f : State → α → State} {tin : α → Option Tin}
    (hf : ∀ u a, f u a = { u with bus := u.bus.addReports (restartReports u.self (tin a).toList) }) (l : List α) (s : State) :
    l.foldl f s = { s with bus := s.bus.addReports (restartReports s.self (l.filterMap tin)) } := by
  induction l generalizing s with
  | nil => rfl
  | cons a l ih =>
    have split : (a :: l).filterMap tin = (tin a).toList ++ l.filterMap tin := by
      rw [List.filterMap_cons]
      cases tin a <;> rfl
    rw [List.foldl_cons, ih, hf, split, restartReports_append, Bus.addReports, Bus.addReports, Bus.addReports,
      List.foldl_append]
    rfl

/-- A tin of another cell is reported, one of this cell is not. -/
theorem State.reportTin_eq (s : State) (a : Tin) :
    (if a.id.cell = s.self then s else s.place (.tinReport (a.reportMsg s.self .rejected (some .unknownAfterRestart)))) =
      { s with bus := s.bus.addReports (restartReports s.self [a]) } := by
  by_cases h : a.id.cell = s.self
  · rw [if_pos h, restartReports, List.filter_cons_of_neg (by simp [h])]
    rfl
  · rw [if_neg h, restartReports, List.filter_cons_of_pos (by simp [h])]
    rfl

/-- The reports a RESTART makes are those of the tin table (R142, R160, R180). -/
theorem State.reportAll_eq (s : State) :
    (s.reportOthers (s.seg.slots ++ [s.shaker.tin])).reportTransit =
      { s with bus := s.bus.addReports (restartReports s.self s.tinTable) } := by
  have places : s.reportOthers (s.seg.slots ++ [s.shaker.tin]) = { s with
      bus := s.bus.addReports (restartReports s.self ((s.seg.slots ++ [s.shaker.tin]).filterMap knownTin)) } := by
    refine foldl_restartReports (fun u r => ?_) _ s
    split
    · exact u.reportTin_eq _
    · next unknown =>
      have none : knownTin r = none := by
        unfold knownTin
        split
        · next a => exact absurd rfl (unknown a)
        · rfl
      rw [none]
      rfl
  have transit (u : State) : u.reportTransit =
      { u with bus := u.bus.addReports (restartReports u.self (u.xfr.inTransit.filterMap (fun v => some v.tin))) } :=
    foldl_restartReports (fun u v => u.reportTin_eq v.tin) _ u
  have table : s.tinTable =
      (s.seg.slots ++ [s.shaker.tin]).filterMap knownTin ++ s.xfr.inTransit.filterMap (fun v => some v.tin) := by
    rw [State.tinTable, List.filterMap_append, List.filterMap_eq_map', List.filterMap_cons]
    cases knownTin s.shaker.tin <;> rfl
  rw [transit, places, table, restartReports_append, Bus.addReports, Bus.addReports, Bus.addReports, List.foldl_append]
  rfl

/-! ## The tins of the stopped state (R137) -/

/-- `b` is the tin `a` of `s` with the channels stopped: of what a report carries the total of the tin at slot 2 alone
may differ. -/
structure Tin.Stopped (s : State) (a b : Tin) : Prop where
  id : b.id = a.id
  order : b.order = a.order
  raised : b.raised = a.raised
  omitted : b.omitted = a.omitted
  total : s.tinAt 2 ≠ some a → b.total = a.total

theorem Tin.Stopped.refl (s : State) (a : Tin) : Tin.Stopped s a a := ⟨rfl, rfl, rfl, rfl, fun _ => rfl⟩

theorem State.tins_eq_range (h : s.seg.slots.length = 8) :
    s.seg.slots.filterMap knownTin = (List.range 8).filterMap s.tinAt := by
  have places : s.seg.slots = (List.range 8).map s.slot := by
    refine List.ext_getElem (by simp [h]) fun n hn _ => ?_
    rw [List.getElem_map, List.getElem_range, State.slot, List.getD_eq_getElem?_getD, List.getElem?_eq_getElem hn,
      Option.getD_some]
  conv_lhs => rw [places, List.filterMap_map]
  rfl

theorem State.stopEntry_length (ch : Nat) : (s.stopEntry ch).seg.slots.length = s.seg.slots.length := by
  cases h : s.heldCanister ch with
  | none => rw [State.stopEntry_of_free h]; rfl
  | some n =>
    obtain ⟨i, -, -, -, hi, -⟩ := State.heldCanister_eq_some h
    rw [State.stopEntry_of_held hi h, State.stopHeld_slots, State.modTinAt]
    split
    · rfl
    · exact List.length_set

/-- What every channel's stop keeps, the stop of them all keeps. -/
theorem State.stopEntries_induction {P : State → Prop} (step : ∀ u ch, P u → P (u.stopEntry ch)) (h : P s) :
    P s.stopEntries :=
  List.foldlRecOn (List.range 4) State.stopEntry h fun u hu ch _ => step u ch hu

theorem State.stopEntries_length : s.stopEntries.seg.slots.length = s.seg.slots.length :=
  State.stopEntries_induction (P := fun u => u.seg.slots.length = s.seg.slots.length)
    (fun u ch h => (u.stopEntry_length ch).trans h) rfl

theorem State.StoppedTo.tinAt {u : State} {k : Nat} (h : s.StoppedTo k u) (n : Nat) :
    Option.Rel (Tin.Stopped s) (s.tinAt n) (u.tinAt n) := by
  by_cases hn : n = 2
  · subst hn
    cases ha : s.tinAt 2 with
    | none => rw [State.tinAt, h.noTin ha, show knownTin (s.slot 2) = none from ha]; exact .none
    | some a =>
      rw [h.tin a ha, s.failedTo_change a k]
      exact .some ⟨rfl, rfl, rfl, rfl, fun other => absurd ha other⟩
  · rw [State.tinAt, State.tinAt, h.slot n hn]
    cases knownTin (s.slot n) with
    | none => exact .none
    | some a => exact .some (.refl s a)

theorem State.StoppedTo.tinTable {u : State} {k : Nat} (h : s.StoppedTo k u) (hs : s.seg.slots.length = 8)
    (hu : u.seg.slots.length = 8) (hk : u.shaker.tin = s.shaker.tin) (hx : u.xfr.inTransit = s.xfr.inTransit) :
    List.Forall₂ (Tin.Stopped s) s.tinTable u.tinTable := by
  have same (l : List Tin) : List.Forall₂ (Tin.Stopped s) l l := List.forall₂_same.mpr fun a _ => .refl s a
  rw [State.tinTable, State.tinTable, State.tins_eq_range hs, State.tins_eq_range hu, hk, hx]
  refine List.rel_append (List.rel_append ?_ (same _)) (same _)
  refine List.rel_filterMap (R := Eq) (fun {n m} hnm => ?_) (List.forall₂_eq_eq_eq.symm ▸ rfl)
  subst hnm
  exact h.tinAt n

/-- Of two lists paired off by `R`, each member of the first has its partner in the second. -/
theorem exists_mem_of_forall₂ {α β : Type} {R : α → β → Prop} {l : List α} {l' : List β} (h : List.Forall₂ R l l') :
    ∀ a ∈ l, ∃ b ∈ l', R a b := by
  induction h with
  | nil => exact nofun
  | cons hab _ ih =>
    refine List.forall_mem_cons.mpr ⟨⟨_, List.mem_cons_self, hab⟩, fun a ha => ?_⟩
    obtain ⟨b, hb, hr⟩ := ih a ha
    exact ⟨b, List.mem_cons_of_mem _ hb, hr⟩

/-- The reports made for the tins of the stopped state, against the tins as RESTART found them. -/
theorem restartReports_stopped {self : Nat} {l l' : List Tin} (h : List.Forall₂ (Tin.Stopped s) l l') :
    (restartReports self l').length = (l.filter (fun a => a.id.cell ≠ self)).length ∧
    (∀ a ∈ l, a.id.cell ≠ self → ∃ m ∈ restartReports self l',
      m = TinReportMsg.mk a.id a.order .rejected (some .unknownAfterRestart) self m.total a.raised a.omitted ∧
      (s.tinAt 2 ≠ some a → m.total = a.total)) ∧
    (∀ m ∈ restartReports self l', ∃ a ∈ l, a.id.cell ≠ self ∧ m.tin = a.id) := by
  have foreign : List.Forall₂ (Tin.Stopped s) (l.filter (fun a => a.id.cell ≠ self)) (l'.filter (fun a => a.id.cell ≠ self)) :=
    List.rel_filter (fun {a b} hab => by simp [hab.id]) h
  refine ⟨by rw [restartReports, List.length_map, foreign.length_eq], fun a ha hother => ?_, fun m hm => ?_⟩
  · obtain ⟨b, hb, hab⟩ := exists_mem_of_forall₂ foreign a (List.mem_filter.mpr ⟨ha, by simpa using hother⟩)
    refine ⟨b.restartReport self, List.mem_map_of_mem hb, ?_, hab.total⟩
    simp only [Tin.reportMsg, hab.id, hab.order, hab.raised, hab.omitted]
  · obtain ⟨b, hb, rfl⟩ := List.mem_map.mp hm
    obtain ⟨a, ha, hab⟩ := exists_mem_of_forall₂ foreign.flip b hb
    obtain ⟨ha, hother⟩ := List.mem_filter.mp ha
    exact ⟨a, ha, by simpa using hother, hab.id⟩

/-! ## The canisters (R105, R116, R137) -/

/-- A canister is locked, or will be at the end of the hold. -/
def Canister.locks (c : Canister) : Bool := c.lock || c.pendingLock

theorem Canister.takeLock_locks (c : Canister) : c.takeLock.lock = c.locks ∧ c.takeLock.pendingLock = false := by
  unfold Canister.takeLock Canister.locks
  cases hp : c.pendingLock with
  | false => exact ⟨(Bool.or_false _).symm, hp⟩
  | true => exact ⟨(Bool.or_true _).symm, rfl⟩

/-- A change that keeps what locks each canister. -/
theorem State.locks_modCanister {f : Canister → Canister} (hf : ∀ c, (f c).locks = c.locks) (n m : Nat) :
    ((s.modCanister n f).canister m).locks = (s.canister m).locks := by
  rw [State.canister_modCanister_eq]
  split
  · exact hf _
  · rfl

theorem State.locks_holdEnd (n m : Nat) : ((s.holdEnd n).canister m).locks = (s.canister m).locks := by
  have taken (c : Canister) : c.takeLock.locks = c.locks := by
    obtain ⟨lock, pending⟩ := c.takeLock_locks
    rw [Canister.locks, lock, pending, Bool.or_false]
  rw [State.holdEnd_eq, State.modStir]
  exact (State.locks_modCanister (f := fun c => { c with stir := s.heldEnded n c.stir }) (fun _ => rfl) n m).trans
    (State.locks_modCanister taken n m)

theorem State.locks_stopEntry (ch m : Nat) : ((s.stopEntry ch).canister m).locks = (s.canister m).locks := by
  cases h : s.heldCanister ch with
  | none => rw [State.stopEntry_of_free h]; rfl
  | some n =>
    obtain ⟨i, -, -, -, hi, -⟩ := State.heldCanister_eq_some h
    rw [State.stopEntry_of_held hi h, State.stopHeld, State.freeChannel, State.locks_holdEnd]
    obtain ⟨l, hl⟩ := s.modTinAt_change 2 (fun t => t.failEntry i (s.emittedSoFar n) (s.emittedSoFar n * (s.pumpCfg n).d))
    rw [hl]
    exact State.locks_modCanister (s := { s with seg := { s.seg with slots := l } })
      (f := fun c => { c.draw (s.emittedSoFar n * (s.pumpCfg n).d) with reserved := 0 }) (fun _ => rfl) n m

theorem State.canister_restartCanisters (n : Nat) : s.restartCanisters.canister n =
    { (s.stopEntries.canister n).takeLock with reserved := 0, stir := (s.stopEntries.canister n).stir.stop } := by
  have mapped (u : State) : (u.canisters.map (fun c => { c.takeLock with reserved := 0 })).getD n Canister.blank =
      { (u.canister n).takeLock with reserved := 0 } := by
    rw [State.canister, List.getD_eq_getElem?_getD, List.getElem?_map, List.getD_eq_getElem?_getD]
    cases u.canisters[n]? <;> rfl
  obtain ⟨-, -, stir⟩ := (s.stopEntries.canister n).takeLock_keeps
  rw [State.restartCanisters, State.canister_stopStirrers, State.canister, mapped]
  exact congrArg (fun r : Stirrer => { (s.stopEntries.canister n).takeLock with reserved := 0, stir := r.stop }) stir

/-- The canisters of the stopped state with the reservations, the pending locks and the stirrers taken off. -/
theorem State.restartCanisters_canister (n : Nat) :
    (s.restartCanisters.canister n).reserved = 0 ∧ (s.restartCanisters.canister n).pendingLock = false ∧
      (s.restartCanisters.canister n).lock = ((s.canister n).lock || (s.canister n).pendingLock) ∧
      (s.restartCanisters.canister n).stock = (s.stopEntries.canister n).stock := by
  obtain ⟨lock, pending⟩ := (s.stopEntries.canister n).takeLock_locks
  have locks : (s.stopEntries.canister n).locks = (s.canister n).locks :=
    State.stopEntries_induction (P := fun u => (u.canister n).locks = (s.canister n).locks)
      (fun u ch h => (u.locks_stopEntry ch n).trans h) rfl
  rw [State.canister_restartCanisters]
  exact ⟨rfl, pending, lock.trans locks, (Canister.takeLock_keeps _).1⟩

end Sys2Proof.Machine
end

/-! # Proofs: RESTART (O8) -/

section
namespace Sys2Proof.Machine

variable {s : State}

/-! ## The state with its records cleared (R205) -/

/-- The state of a RESTART with the records cleared, before work begins again. -/
def State.cleared (s : State) : State := s.restartCanisters.emptyQueue.clearRecords.forget

/-- The notices that a RESTART leaves in the queue: the one in transmission, which is not sent again (R10). -/
def State.keptNotices (s : State) : List Queued := (s.bus.queue.filter Queued.sending).map (fun q => { q with final := true })

theorem exec_restart {src target : Nat} (h : s.Hears .terminal src) (hin : s.inService = true)
    (ht : target = s.self ∨ target = 31) (x : Sample) :
    exec (.restart src target x) s = .next ((s.latch x).refresh src none).cleared.beginWork := by
  rw [exec, execRestart, State.act_live _ h.live, State.Hears.hear_terminal (s := s.latch x) h]
  have addressed : ((s.latch x).refresh src none).addressed target = true := by
    rw [State.addressed_iff, State.self_refresh]
    exact ht
  have serving : ((s.latch x).refresh src none).inService = true := (State.inService_refresh _ _ _).trans hin
  simp only [addressed, serving, Bool.and_self, if_true, State.cleared]

theorem State.cleared_eq (s : State) : s.cleared = { s with
    bus := ({ s.bus with queue := s.keptNotices } : Bus).addReports (restartReports s.self s.stopEntries.tinTable)
    stations := [], book := []
    canisters := s.restartCanisters.canisters
    shots := { s.stopEntries.shots with waiting := [] }
    seg := { s.seg with slots := s.sensedSlots, index := s.rebuiltIndex, prompt := .none, pulled := false }
    xfr := Transfer.clear, shaker := s.resetShaker, lids := { s.lids with bay := .idle }
    panel := { s.panel with message := none, label := none } } := by
  obtain ⟨k, l, c, stopped⟩ := s.stopEntries_change
  rw [State.cleared, State.clearRecords, State.reportAll_eq, State.restartCanisters, stopped]
  rfl

theorem State.bus_cleared (s : State) : s.cleared.bus =
    ({ s.bus with queue := s.keptNotices } : Bus).addReports (restartReports s.self s.stopEntries.tinTable) := by
  rw [s.cleared_eq]

/-- Right after the records are cleared the segment is rebuilt from its sensors. -/
theorem State.rebuilt_cleared (s : State) : s.cleared.Rebuilt := by
  rw [s.cleared_eq]
  exact ⟨State.tinAt_sensed (s := s) rfl, rfl⟩

theorem State.shaker_cleared (s : State) : s.cleared.shaker = s.cleared.resetShaker := by
  rw [s.cleared_eq]
  rfl

/-- One notice at most stays, and the tin table has room for twelve tins (R7, R142, R163). -/
theorem State.reports_fit (hq : s.QueueBound) (hs : s.seg.slots.length = 8) (hx : s.xfr.inTransit.length ≤ 3) :
    s.keptNotices.length ≤ 1 ∧ (restartReports s.self s.stopEntries.tinTable).length ≤ 12 := by
  obtain ⟨-, -, sending, -⟩ := hq
  constructor
  · rw [State.keptNotices, List.length_map, ← List.countP_eq_length_filter]
    exact sending
  · have slots : (s.stopEntries.seg.slots.filterMap knownTin).length ≤ 8 :=
      (List.length_filterMap_le _ _).trans (by rw [State.stopEntries_length, hs])
    have shaker (r : Option TinRecord) : (knownTin r).toList.length ≤ 1 := by cases knownTin r <;> simp
    have transit : s.stopEntries.xfr.inTransit = s.xfr.inTransit := by
      obtain ⟨k, l, c, stopped⟩ := s.stopEntries_change
      rw [stopped]
    have table : s.stopEntries.tinTable.length ≤ 12 := by
      have := shaker s.stopEntries.shaker.tin
      rw [State.tinTable, List.length_append, List.length_append, List.length_map, transit]
      omega
    rw [restartReports, List.length_map]
    exact (List.length_filter_le _ _).trans table

theorem State.keptNotices_sending (s : State) : ∀ q ∈ s.keptNotices, q.sending = true :=
  List.forall_mem_map.mpr fun _ ha => (List.mem_filter.mp ha).2

/-- The bus port that RESTART leaves: the notice in transmission, the reports and the CELL STATUS. -/
structure State.Announced (s t : State) : Prop where
  counters : t.bus.rxErrors = s.bus.rxErrors ∧ t.bus.sendDrops = s.bus.sendDrops
  sending : t.bus.queue.filter Queued.sending = s.keptNotices
  waiting : ∃ q : Queued, q.notice = .cellStatus t.statusMsg ∧ (t.bus.queue.filter (fun q => !q.sending)).Perm
    (q :: (restartReports s.self s.stopEntries.tinTable).map (fun m => (Notice.tinReport m).queued))

theorem State.beginWork_cleared (hq : s.QueueBound) (hs : s.seg.slots.length = 8) (hx : s.xfr.inTransit.length ≤ 3) :
    s.cleared.Began s.cleared.beginWork ∧ s.Announced s.cleared.beginWork := by
  obtain ⟨kept, reports⟩ := State.reports_fit hq hs hx
  generalize hl : restartReports s.self s.stopEntries.tinTable = l at reports
  obtain ⟨p, placed, perm, sending⟩ := Bus.addReports_of_room (b := { s.bus with queue := s.keptNotices }) (l := l)
    (by show s.keptNotices.length + l.length ≤ 16; omega)
  have bus : s.cleared.bus = { s.bus with queue := p } := by rw [s.bus_cleared, hl, placed]
  have rebuilt := s.rebuilt_cleared
  have shaker := s.shaker_cleared
  generalize s.cleared = v at bus rebuilt shaker
  have began : v.Began v.beginWork := by
    refine rebuilt.beginWork shaker ?_ fun a ha => ?_
    · rw [bus]
      have := perm.length_eq
      simp only [List.length_append, List.length_map] at this
      show p.length < 16
      omega
    · rw [bus] at ha
      rcases List.mem_append.mp (perm.mem_iff.mp ha) with report | kept
      · obtain ⟨m, -, rfl⟩ := List.mem_map.mp report
        exact .inr fun _ same => Notice.noConfusion same
      · exact .inl (s.keptNotices_sending a kept)
  refine ⟨began, ?_⟩
  obtain ⟨q, notice, waits, sent⟩ := began.status
  rw [bus] at sent
  have keptFilter : s.keptNotices.filter Queued.sending = s.keptNotices := List.filter_eq_self.mpr s.keptNotices_sending
  refine ⟨by rw [sent]; exact ⟨rfl, rfl⟩, ?_, q, notice, ?_⟩
  · rw [sent]
    exact ((insertQueued_sending waits p).trans sending).trans keptFilter
  · rw [sent, hl]
    refine (((insertQueued_perm q p).trans (perm.cons q)).filter _).trans ?_
    rw [List.filter_cons_of_pos (by simp [waits]), List.filter_append,
      List.filter_eq_self.mpr (List.forall_mem_map.mpr fun _ _ => rfl),
      List.filter_eq_nil_iff.mpr fun a ha => by simp [s.keptNotices_sending a ha], List.append_nil]

/-! ## What is left of each part -/

/-- What the parts other than the queue, the canisters and the shaker hold once work has begun again. -/
theorem State.Began.of_cleared {t : State} (h : s.cleared.Began t) :
    t.book = [] ∧ t.stations = [] ∧ t.xfr = { Transfer.clear with intake := t.xfr.intake } ∧
      t.shots = { s.stopEntries.shots with waiting := [] } ∧
      t.panel = { s.panel with message := none, label := none } ∧ t.lids = { s.lids with bay := .idle } ∧
      t.seg = { s.seg with slots := s.sensedSlots, index := s.rebuiltIndex, prompt := .none, pulled := false } ∧
      t.cfg = s.cfg ∧ t.atn = s.atn := by
  obtain ⟨cfg, seg, shots, panel, atn, book, stations, -⟩ := h.parts
  obtain ⟨i, -, xfr⟩ := h.xfr
  have lids := h.lids (by rw [s.cleared_eq])
  rw [cfg, seg, shots, panel, atn, book, stations, xfr, lids, s.cleared_eq]
  exact ⟨rfl, rfl, rfl, rfl, rfl, rfl, rfl, rfl, rfl⟩

/-- The halt flag, the pause flag and the clock choose the cell state (R38, R205). -/
theorem State.Began.cell_of_flags {t : State} (h : s.Began t) :
    (t.dck.halt = true → t.dck.cell = .halted) ∧ (t.dck.halt = false → t.dck.pause = true → t.dck.cell = .paused) ∧
      (t.dck.halt = false → t.dck.pause = false → t.dck.cell = .run ∨ t.dck.cell = .night ∨ t.dck.cell = .capped) := by
  obtain ⟨-, -, pause, halt, -⟩ := h.clock
  have flags : s.judged.dck.halt = t.dck.halt ∧ s.judged.dck.pause = t.dck.pause := ⟨halt.symm, pause.symm⟩
  rw [h.cell, State.chosenCell, flags.1, flags.2]
  refine ⟨fun hh => if_pos hh, fun hh hp => ?_, fun hh hp => ?_⟩
  · rw [if_neg (by simp [hh]), if_pos hp]
  · rw [if_neg (by simp [hh]), if_neg (by simp [hp])]
    split
    · unfold State.clockGiven
      split
      · exact .inl rfl
      · exact .inr (.inl rfl)
    · exact .inr (.inr rfl)

theorem rebuiltIndex_busy (s : State) : s.rebuiltIndex.busy = s.pins.sample.offIndex := by
  unfold State.rebuiltIndex
  cases s.pins.sample.offIndex <;> rfl

/-- A tin that the shaker's sensor shows is UNKNOWN, and is returned where nothing bars it (R199, R200). -/
theorem State.Began.shaker_of_cleared {t : State} (h : s.cleared.Began t) :
    (s.pins.sample.shakerTin = false → t.shaker = { st := .empty, tin := none, left := 0, resume := 0, halted := false }) ∧
    (s.pins.sample.shakerTin = true → t.shaker.tin = some .unknown ∧ t.shaker.st =
      if s.pins.clamp = false ∧ s.pins.sample.slots.getLsbD 7 = false ∧ s.pins.sample.offIndex = false ∧ t.working = true then
        .returning
      else .unclamping) := by
  have pins : s.cleared.pins = s.pins := by rw [s.cleared_eq]
  have index : s.cleared.seg.index.busy = s.pins.sample.offIndex := by rw [s.cleared_eq]; exact rebuiltIndex_busy s
  have slot : s.cleared.slot 7 = none ↔ s.pins.sample.slots.getLsbD 7 = false := by
    rw [State.slot_sensed (s := s) (by rw [s.cleared_eq]) (by decide), State.sensed]
    cases s.pins.sample.slots.getLsbD 7 <;> simp
  rw [h.shaker]
  refine ⟨fun none => State.returnedShaker_of_empty _ (pins ▸ none), fun tin => ?_⟩
  obtain ⟨unknown, st⟩ := State.returnedShaker_of_tin (s := s.cleared) t.working (pins ▸ tin)
  refine ⟨unknown, st.trans (if_congr ?_ rfl rfl)⟩
  rw [pins, slot, index]

/-- The canisters: nothing reserved, no lock pending, and the steps of a cut stroke taken off (R105, R137). -/
theorem State.Began.canister_of_cleared {t : State} (h : s.cleared.Began t) (n : Nat) :
    (t.canister n).reserved = 0 ∧ (t.canister n).pendingLock = false ∧
      (t.canister n).lock = ((s.canister n).lock || (s.canister n).pendingLock) ∧
      (t.canister n).stock = (s.stopEntries.canister n).stock := by
  have canister : s.cleared.canister n = s.restartCanisters.canister n := by
    rw [State.canister, s.cleared_eq]
    rfl
  rw [h.canister n, canister]
  exact s.restartCanisters_canister n

/-- The notices waiting: the CELL STATUS with the restarted flag, and a report REJECTED of every tin that came from
another cell (R160, R180, R205). -/
theorem State.Announced.waiting_of_stopped {s₀ t : State} (h : s.Announced t) (hr : t.xfr.restarted = 0) {l : List Tin}
    (hl : List.Forall₂ (Tin.Stopped s₀) l s.stopEntries.tinTable) :
    (t.bus.queue.filter (fun q => !q.sending)).length = (l.filter (fun a => a.id.cell ≠ s.self)).length + 1 ∧
    (∀ a ∈ l, a.id.cell ≠ s.self → ∃ q ∈ t.bus.queue, q.sending = false ∧ ∃ m, q.notice = .tinReport m ∧
      m = TinReportMsg.mk a.id a.order .rejected (some .unknownAfterRestart) s.self m.total a.raised a.omitted ∧
      (s₀.tinAt 2 ≠ some a → m.total = a.total)) ∧
    (∀ q ∈ t.bus.queue, q.sending = false →
      (∃ m, q.notice = .cellStatus m ∧ m.restarted = true ∧ m.restartedCount = 0) ∨
      (∃ m, q.notice = .tinReport m ∧ ∃ a ∈ l, a.id.cell ≠ s.self ∧ m.tin = a.id)) ∧
    (∃ q ∈ t.bus.queue, q.sending = false ∧ ∃ m, q.notice = .cellStatus m ∧ m.restarted = true ∧ m.restartedCount = 0) := by
  obtain ⟨q, status, waiting⟩ := h.waiting
  obtain ⟨count, told, only⟩ := restartReports_stopped (self := s.self) hl
  have flag : t.statusMsg.restarted = true ∧ t.statusMsg.restartedCount = 0 :=
    ⟨show decide (t.xfr.restarted < restartedMax) = true by rw [hr]; rfl, hr⟩
  have queued (a : Queued) : a ∈ t.bus.queue ∧ a.sending = false ↔
      a = q ∨ ∃ m ∈ restartReports s.self s.stopEntries.tinTable, (Notice.tinReport m).queued = a := by
    have mem := waiting.mem_iff (a := a)
    rwa [List.mem_filter, Bool.not_eq_true', List.mem_cons, List.mem_map] at mem
  refine ⟨?_, fun a ha hother => ?_, fun a ha hs => ?_, ?_⟩
  · rw [waiting.length_eq, List.length_cons, List.length_map, count]
  · obtain ⟨m, hm, reported⟩ := told a ha hother
    obtain ⟨mem, waits⟩ := (queued _).mpr (.inr ⟨m, hm, rfl⟩)
    exact ⟨_, mem, waits, m, rfl, reported⟩
  · rcases (queued a).mp ⟨ha, hs⟩ with rfl | ⟨m, hm, rfl⟩
    · exact .inl ⟨_, status, flag⟩
    · exact .inr ⟨m, rfl, only m hm⟩
  · obtain ⟨mem, waits⟩ := (queued q).mpr (.inl rfl)
    exact ⟨q, mem, waits, _, status, flag⟩

/-! ## The sender's entry refreshed, then the channels stopped -/

theorem State.stoppedTo_refresh (s : State) (n : Nat) (m : Option CellStatusMsg) :
    s.StoppedTo 4 (s.refresh n m).stopEntries := by
  obtain ⟨l, b, k, frame⟩ := s.refresh_frame n m
  generalize s.refresh n m = r at frame
  have zero : s.StoppedTo 0 r :=
    State.stoppedTo_zero (by rw [frame]) (by rw [frame]) (by rw [frame]) (by rw [frame]) (by rw [frame])
      (fun _ => by rw [frame]; rfl) (fun _ h => by rw [frame]; exact h)
  exact zero.foldl 4

theorem State.tins_refresh (h : s.seg.slots.length = 8) (n : Nat) (m : Option CellStatusMsg) :
    List.Forall₂ (Tin.Stopped s) s.tinTable (s.refresh n m).stopEntries.tinTable := by
  have stopped := s.stoppedTo_refresh n m
  obtain ⟨l, b, k, frame⟩ := s.refresh_frame n m
  generalize s.refresh n m = r at frame stopped
  obtain ⟨_, _, _, change⟩ := r.stopEntries_change
  refine stopped.tinTable h ?_ (by rw [change, frame]) (by rw [change, frame])
  rw [State.stopEntries_length, frame]
  exact h

/-- Settles O8: the channels are stopped, the tins of the tables reported and the records cleared; the segment is then
rebuilt from its sensors, and work begins on it as it does at the end of STARTING. -/
theorem restartClearsRecords : Obligations.RestartClearsRecords := by
  unfold Obligations.RestartClearsRecords
  intro src target x s hears serving addressed bound eight three
  refine ⟨_, exec_restart hears serving addressed x, ?_⟩
  have sending := (s.latch x).sending_refresh src none
  have errors := (s.latch x).rxErrors_refresh src none
  have drops := (s.latch x).sendDrops_refresh src none
  have queue := ((s.latch x).keeps_refresh src none).queue bound
  have stopped := (s.latch x).stoppedTo_refresh src none
  have tins := (s.latch x).tins_refresh eight src none
  obtain ⟨l, b, k, frame⟩ := (s.latch x).refresh_frame src none
  generalize (s.latch x).refresh src none = r at sending errors drops queue stopped tins frame
  have self : r.self = s.self := by rw [frame]; rfl
  have before (n : Nat) : r.canister n = s.canister n := by rw [frame]; rfl
  obtain ⟨began, announced⟩ := State.beginWork_cleared (s := r) queue (by rw [frame]; exact eight) (by rw [frame]; exact three)
  generalize r.cleared.beginWork = t at began announced
  obtain ⟨book, stations, xfr, shots, panel, lids, seg, cfg, atn⟩ := began.of_cleared
  obtain ⟨empty, returned⟩ := began.shaker_of_cleared
  have canister := began.canister_of_cleared
  obtain ⟨halted, paused, clockGiven⟩ := began.cell_of_flags
  obtain ⟨moment, unset, pause, halt, jam⟩ := began.clock
  obtain ⟨count, reports, only, status⟩ := announced.waiting_of_stopped (by rw [xfr]; rfl) tins
  obtain ⟨⟨rxErrors, sendDrops⟩, kept, -⟩ := announced
  rw [self] at count reports only
  have slots : t.seg.slots = (s.latch x).sensedSlots := by rw [seg, frame]; rfl
  have channel (ch : Nat) (h : ch < 4) : t.channel ch = none := by
    have : t.channel ch = r.stopEntries.channel ch := by rw [State.channel, shots]; rfl
    rw [this, stopped.channel, if_pos h]
  have stock (n : Nat) : (t.canister n).stock = (r.stopEntries.canister n).stock := by
    obtain ⟨-, -, -, level⟩ := canister n
    exact level
  have pins : r.pins = (s.latch x).pins := by rw [frame]
  have dck : r.cleared.dck = s.dck ∧ r.cleared.pins = r.pins := by rw [r.cleared_eq, frame]; exact ⟨rfl, rfl⟩
  rw [dck.1] at moment unset pause halt
  rw [dck.2, pins] at halt
  rw [pins] at empty returned
  have lane : t.xfr.inTransit = [] ∧ t.xfr.expected = [] ∧ t.xfr.pointer = 0 ∧ t.xfr.release = 0 ∧ t.xfr.restarted = 0 ∧
      t.xfr.cutShort = false := by
    rw [xfr]
    exact ⟨rfl, rfl, rfl, rfl, rfl, rfl⟩
  obtain ⟨inTransit, expected, pointer, release, restarted, cutShort⟩ := lane
  refine ⟨book, stations, inTransit, expected, pointer, release, restarted, cutShort, by rw [shots], by rw [panel],
    by rw [panel], fun n hn => State.slot_sensed slots hn, channel, fun n => ?_,
    fun n hn => (stock n).trans (stopped.kept n hn).2, fun n hn => (stock n).trans ?_, ?_, by rw [lids], by rw [seg], ?_,
    empty, returned, ?_, moment, unset, pause, jam, halt, ?_, ?_, rxErrors.trans errors, sendDrops,
    fun h => sendDrops.trans (drops h), halted, paused, clockGiven, ?_, count, reports, only, status⟩
  · obtain ⟨reserved, pending, lock, -⟩ := canister n
    exact ⟨reserved, pending, by rw [lock, before]⟩
  · rw [← State.emittedSoFar_eq]
    obtain ⟨ch, hch, held⟩ := hn
    exact stopped.charged n fun unheld => unheld ch hch held
  · rw [lids, frame]; rfl
  · rw [seg, frame]; rfl
  · rw [cfg, frame]; rfl
  · rw [atn, frame]; rfl
  · rw [seg, frame]; rfl
  · rw [kept, State.keptNotices, sending]; rfl

end Sys2Proof.Machine
end
